-- ==== Sys2Proof/Word.lean ====
section
/-! DEFINITION. The word types of the model (R14: fields are little-endian, values binary32). -/

namespace Sys2Proof

/-- One byte of a packet, a frame, a record or a stored object. -/
abbrev Byte := BitVec 8

/-- A 32-bit word that software sees as bits (RESET_CAUSE, connection words, binary32 images). -/
abbrev Word32 := BitVec 32

/-- A channel number n = 32 b + c (R8). -/
abbrev Chan := Fin 512

/-- A bay number. -/
abbrev Bay := Fin 16

/-- A safety lane number. -/
abbrev Lane := Fin 32

/-- A ring port: 0 LRE, 1 LRW, 2 URE, 3 URW. -/
abbrev Port := Fin 4

/-- An alarm point number. -/
abbrev Point := Fin 65536

/-- An alarm group number. -/
abbrev Group := Fin 16384

/-- Time in microseconds. -/
abbrev Micros := Nat

end Sys2Proof
end

