-- ==== Sys2Proof/Syntax.lean ====
section
/-! DEFINITION. The commands: packets, frames and the one inductive of commands (opcode table; Tables 16.1, 16.3). -/

namespace Sys2Proof

/-- The path a packet came by and the sender it names there (Table 16.3). On the PEER packet lane (`viaPeer`) the other
fields keep the binding of the original transport. -/
structure Link where
  /-- true: SVC; false: a ring. -/
  svc : Bool
  /-- The packet reached this unit over the PEER packet lane. -/
  viaPeer : Bool
  /-- Ring: the port of arrival. -/
  port : Port
  /-- Ring: SRC_NODE of the Ponor header. SVC: the IPv4 source address. -/
  src : Nat
  /-- SVC: the UDP source port. -/
  udp : Nat
  deriving DecidableEq, Repr

/-- A command packet less its OPCODE, MAGIC and CRC, which the row and Table 16.4 step 1 have settled. -/
structure Request where
  /-- Physical time at which the unit judges the packet. -/
  t : Nat
  link : Link
  version : Nat
  flags : Nat
  session : Nat
  retry : Nat
  status : Nat
  sequence : Nat
  target : Nat
  source : Nat
  reserved : Nat
  /-- PAYLOAD_LEN bytes, MAC included. -/
  payload : List Byte
  deriving DecidableEq, Repr

/-- The module supply as the supervisors measure it: V_MOD, PWR_A, PWR_B in volts. -/
structure Supply where
  vMod : Rat
  vA : Rat
  vB : Rat
  deriving DecidableEq, Repr

/-- One received Ponor frame (Table 14.1), less KIND, which the row is. -/
structure Frame where
  /-- Its FCS is good. -/
  good : Bool
  dir : Bool
  relayed : Bool
  more : Bool
  ringId : Nat
  hops : Nat
  prio : Nat
  mode : Nat
  src : Nat
  dest : Nat
  seq : Nat
  cycle : Nat
  /-- The Ethernet source: the sender's unit address. -/
  unit : Nat
  /-- LEN bytes. -/
  payload : List Byte
  /-- EtherType, and whether a VLAN tag stands before it. -/
  etherType : Nat
  vlan : Bool
  /-- Bytes received, from the destination address to the FCS, with any padding. -/
  size : Nat
  deriving DecidableEq, Repr

/-- The response of an impedance check segment, Ω: in phase and in quadrature. -/
structure Tone where
  re : Rat
  im : Rat
  deriving DecidableEq, Repr

/-- A valid HART reply, as the modem reads it. -/
structure HartAnswer where
  /-- Unique identifier, 5 bytes; a command 0 reply carries it. -/
  uid : Nat
  /-- The device reports loop current mode enabled. -/
  loopOn : Bool
  /-- Command 3: loop current, PV, SV, TV and QV, and their four unit codes. -/
  iLoop : BitVec 32
  pv : BitVec 32
  sv : BitVec 32
  tv : BitVec 32
  qv : BitVec 32
  units : Nat
  /-- First and second status bytes. -/
  resp : Nat
  devStatus : Nat
  /-- Data bytes. -/
  data : List Byte
  deriving DecidableEq, Repr

/-- The Hopper Bell's state as the duty unit sends it to its peer (R357). -/
structure BellMsg where
  stage : Nat
  unmanned : Bool
  /-- Stage timer, ticks left, none where none runs. -/
  timer : Option Nat
  called : Nat
  dm : Nat
  dmLeft : Nat
  duty : Nat
  /-- SYS word. -/
  sys : Nat
  overrideEng : Nat
  overrideUntil : Option Nat
  /-- KEY_TAKEN of each panel slot, from slot 0. -/
  taken : List Nat
  deriving DecidableEq, Repr

/-- What an arming check of a lane output would read (R301). -/
structure ArmReading where
  lane : Lane
  /-- HS alone closed: OUT/TB in V, HS current in mA, and whether HS reaches its current limit. -/
  vTB : Rat
  iHS : Rat
  limHS : Bool
  /-- LS alone closed: OUT/TA, LS current, LS limit. -/
  vTA : Rat
  iLS : Rat
  limLS : Bool
  deriving DecidableEq, Repr

/-- A sentence from the TIME port (R396). -/
structure Sentence where
  /-- Its bit rate: 38,400 bit/s, else 4,800 (R87). -/
  fast : Bool
  /-- It is ZDA or RMC. -/
  known : Bool
  /-- ZDA, else RMC. -/
  zda : Bool
  checksum : Bool
  /-- RMC's status is A. -/
  statusA : Bool
  /-- Four digits in ZDA, two in RMC. -/
  year : Nat
  month : Nat
  day : Nat
  hour : Nat
  minute : Nat
  second : Nat
  deriving DecidableEq, Repr

/-- A heartbeat (Table 15.4). -/
structure Heartbeat where
  mode : Nat
  faultDecl : Bool
  claiming : Bool
  nresetStuck : Bool
  eligible : Bool
  handover : Bool
  shutOut : Bool
  loopFault : Bool
  compat : Bool
  bayOk : Nat
  cycle : Nat
  configCrc : Nat
  epoch : Nat
  gateOpen : Nat
  faultCause : Nat
  /-- ns. -/
  tTx : Nat
  deriving DecidableEq, Repr

/-- What the base's pins and straps show as the unit powers up (R56, R69, R74). -/
structure Pins where
  slot : Fin 64
  /-- PAIR_POS is tied: position B. -/
  posB : Bool
  /-- PEER_PRES is tied. -/
  peerPres : Bool
  /-- The base has two positions. -/
  pairBase : Bool
  /-- Mask of the bays whose strap is tied to FG. -/
  straps : Nat
  deriving DecidableEq, Repr

/-- A result in part I (Table 15.3). -/
structure ResultCopy where
  n : Chan
  value : BitVec 32
  quality : Nat
  detail : Nat
  seq : Nat
  tEnd : Nat
  tNext : Nat
  /-- Burst samples produced since the previous part I, latest first. -/
  samples : List (Rat × Rat)
  deriving DecidableEq, Repr

/-- Supervision results of a channel in part I, with the time at which its next check falls due (R207). -/
structure SupCopy where
  n : Chan
  status : Nat
  tCheck : Nat
  due : Option Nat
  /-- BASE_COUNT. -/
  count : Nat
  /-- The ten figures of Table 6.4 in the order of SUP_READ. -/
  figures : List (BitVec 32)
  deriving DecidableEq, Repr

/-- A HART device in part I and at RESYNC. -/
structure HartCopy where
  n : Chan
  addr : Fin 16
  /-- Table 7.7. -/
  state : Nat
  /-- The recorded unique identifier, and that of the latest command 0 reply. -/
  uid : Nat
  liveUid : Nat
  devStatus : Nat
  /-- Loop current, PV, SV, TV, QV. -/
  values : List (BitVec 32)
  units : Nat
  /-- Time since its last valid reply and since the start of its last poll, µs, none for none. -/
  age : Option Nat
  polled : Option Nat
  /-- It is the device polled last. -/
  last : Bool
  /-- It has been sent command 109. -/
  told : Bool
  deriving DecidableEq, Repr

/-- A lamp in part I: STATE of Table 8.8, the latest on-sample and cold test, and the counts. -/
structure LampCopy where
  n : Chan
  state : Nat
  iLamp : Rat
  iCold : Rat
  tTest : Nat
  darkCount : Nat
  tripCount : Nat
  deriving DecidableEq, Repr

/-- A command taken by the duty unit's control plane. -/
structure CmdCopy where
  opcode : Nat
  session : Nat
  payload : List Byte
  deriving DecidableEq, Repr

/-- An alarm entry that changed in the last completed sweep. -/
structure PtCopy where
  p : Point
  state : Nat
  suppress : Nat
  active : Bool
  deriving DecidableEq, Repr

/-- Part I of a control cycle (Table 15.3). -/
structure PartI where
  cycle : Nat
  results : List ResultCopy
  /-- DI states and counter counts, by channel. -/
  states : List (Nat × Bool)
  counts : List (Nat × Nat)
  sups : List SupCopy
  harts : List HartCopy
  lamps : List LampCopy
  commands : List CmdCopy
  /-- The change records of a phase taken, and whether it is the commit's last. -/
  phase : Option (List (Nat × Option Nat) × Bool)
  entries : List PtCopy
  deriving DecidableEq, Repr

/-- An output in part C: its state (Table 7.11) and value. -/
structure OutCopy where
  n : Chan
  mode : Nat
  value : Rat
  deriving DecidableEq, Repr

/-- A lane in part C: its state, proof bits and trip latch (Table 9.8). -/
structure LaneCopy where
  lane : Lane
  state : Nat
  provenA : Bool
  provenB : Bool
  tripCause : Nat
  deriving DecidableEq, Repr

/-- Part C of a control cycle (Table 15.3). -/
structure PartC where
  cycle : Nat
  outs : List OutCopy
  lanes : List LaneCopy
  deriving DecidableEq, Repr

/-- A Granary record that comes over the packet lane (R446). -/
structure RecCopy where
  code : Nat
  seq : Nat
  time : Nat
  payload : List Byte
  deriving DecidableEq, Repr

/-- A point in RESYNC (Table 15.10 step 4). -/
structure PtFull where
  p : Point
  state : Nat
  suppress : Nat
  shelveLeft : Nat
  inhibited : Bool
  blocked : Bool
  active : Bool
  cond : Bool
  timing : Bool
  delay : Nat
  raiseSeq : Nat
  raises : Nat
  deriving DecidableEq, Repr

/-- A supervision baseline and trend window in RESYNC. -/
structure SupFull where
  n : Chan
  status : Nat
  baseLL : BitVec 32
  baseIns : BitVec 32
  baseCap : BitVec 32
  baseCount : Nat
  /-- Checks taken into a baseline under capture, in the form of `window`, earliest first. -/
  items : List (Nat × BitVec 32 × BitVec 32 × BitVec 32)
  tCheck : Nat
  /-- Check time and the LEAD or LOOP figure, INS and C_EST, latest first. -/
  window : List (Nat × BitVec 32 × BitVec 32 × BitVec 32)
  deriving DecidableEq, Repr

/-- What the duty unit gives a unit in RESYNC (Table 15.10). -/
structure ResyncMsg where
  /-- Step 2: live bank and pair reference. -/
  records : List (Nat × Nat)
  epoch : Nat
  gen : Nat
  tCommit : Nat
  refConfig : Nat
  refImage : Nat
  /-- Step 3: the duty unit's node time, ns, at this instant. -/
  nodeNs : Nat
  /-- Step 4. -/
  points : List PtFull
  lanes : List LaneCopy
  bell : BellMsg
  sups : List SupFull
  harts : List HartCopy
  counts : List (Nat × Nat)
  /-- Step 5: SEQ of the last own record that equals the peer's, none for none, and the peer's records after it. -/
  keepTo : Option Nat
  tail : List RecCopy
  deriving DecidableEq, Repr

/-- A session as the duty unit passes it to its peer (R484, R549). -/
structure SessCopy where
  k : Fin 8
  proven : Bool
  keySlot : Nat
  rights : Nat
  link : Link
  /-- H and the numbers marked: none outstanding, or complete with its status and stored reply (R478). -/
  high : Nat
  marks : List (Nat × Option (Nat × List Byte))
  key : List Byte
  /-- SUB, HOLDM and NOTIFY_HOLD, and the next notification SEQUENCE. -/
  sub : Nat
  hold : Nat
  notifyHold : Nat
  notifySeq : Nat
  deriving DecidableEq, Repr

/-- What arrives on SVC (R94, R469). -/
inductive Datagram where
  /-- An ARP request for an IPv4 address. -/
  | arp (target : Nat)
  /-- An ICMP echo request to an address, with its data. -/
  | echo (dest : Nat) (data : List Byte)
  /-- A UDP datagram; `sound`: not fragmented, its UDP checksum good. -/
  | udp (src port dest destPort : Nat) (sound : Bool) (bytes : List Byte)
  /-- Anything else. -/
  | other
  deriving DecidableEq, Repr

/-- An instant and the supply voltage then, V. -/
structure Supplied where
  t : Nat
  v : Rat
  deriving DecidableEq, Repr

/-- What a data plane watchdog sees (R42): `bus`: the time bus, rather than the remote region, stands still. -/
structure DataStill where
  t : Nat
  bus : Bool
  deriving DecidableEq, Repr

/-- An edge at terminal TA: at v V after it, for held µs (R265). -/
structure Edge where
  rising : Bool
  v : Rat
  held : Nat
  deriving DecidableEq, Repr

/-- The two inputs of a converter against FG during a reading, V (R181). -/
structure Inputs where
  /-- AIN_P. -/
  pos : Rat
  /-- AIN_N. -/
  neg : Rat
  deriving DecidableEq, Repr

/-- The terminal of a repeater has missed driven edges, or followed them, for held µs (R247). -/
structure Stuck where
  stuck : Bool
  held : Nat
  deriving DecidableEq, Repr

/-- The polling address and unique identifier of a HART device (R248). -/
structure HartId where
  addr : Fin 16
  uid : BitVec 40
  deriving DecidableEq, Repr

/-- A switch current: `overload`, or else a current limit; it has stood at mA or above for held µs (R270). -/
structure Excess where
  overload : Bool
  mA : Rat
  held : Nat
  deriving DecidableEq, Repr

/-- A lane's current: its limit (0), an overload (1), or under 10 mA with both switches closed (2); it has stood on that side of mA
for held µs (R300). -/
structure LaneExcess where
  kind : Fin 3
  mA : Rat
  held : Nat
  deriving DecidableEq, Repr

/-- V_FS, V, and whether FS_SENSE is unconnected (R68). -/
structure Sense where
  v : Rat
  isOpen : Bool
  deriving DecidableEq, Repr

/-- What the peer has passed beside its heartbeats (R451, R455): REF_CONFIG and REF_IMAGE, and its own IMAGE_CRC. -/
structure RefNote where
  refs : Option (Nat × Nat)
  image : Option Nat
  deriving DecidableEq, Repr

/-- An edge of the time pulse, ns past the microsecond (R86). -/
structure PpsEdge where
  ns : Fin 1000
  rising : Bool
  deriving DecidableEq, Repr

/-- The commands of the block: one constructor for each row of the opcode table. A command packet's row carries the packet
(without its OPCODE, which the row is); an event's row carries the physical time t at which it happens and what the field,
the peer or the ring supplies with it. -/
inductive Instr where
  /-- CH_SETUP (R165). -/
  | chSetup (rq : Request)
  /-- CH_GET (R164). -/
  | chGet (rq : Request)
  /-- CH_STATUS (R164). -/
  | chStatus (rq : Request)
  /-- CH_BAY (R164). -/
  | chBay (rq : Request)
  /-- MEAS_SET (R203). -/
  | measSet (rq : Request)
  /-- MEAS_GET (R202). -/
  | measGet (rq : Request)
  /-- CURVE_SET (R204). -/
  | curveSet (rq : Request)
  /-- CURVE_GET (R202). -/
  | curveGet (rq : Request)
  /-- LEAD_CAPTURE (R205). -/
  | leadCapture (rq : Request)
  /-- LEAD_CAPTURE_DONE (R205). -/
  | leadCaptureDone (t : Nat) (n : Chan)
  /-- CH_READ (R202). -/
  | chRead (rq : Request)
  /-- SUP_SET (R226). -/
  | supSet (rq : Request)
  /-- SUP_GET (R225). -/
  | supGet (rq : Request)
  /-- SUP_READ (R225). -/
  | supRead (rq : Request)
  /-- SUP_BASELINE (R220). -/
  | supBaseline (rq : Request)
  /-- SUP_CHECK (R227). -/
  | supCheck (rq : Request)
  /-- OUT_SET (R238). -/
  | outSet (rq : Request)
  /-- OUT_GET (R258). -/
  | outGet (rq : Request)
  /-- OUT_WRITE (R234). -/
  | outWrite (rq : Request)
  /-- OUT_READ (R258). -/
  | outRead (rq : Request)
  /-- HART_SET (R250). -/
  | hartSet (rq : Request)
  /-- HART_GET (R258). -/
  | hartGet (rq : Request)
  /-- HART_SCAN (R251). -/
  | hartScan (rq : Request)
  /-- HART_LIST (R254). -/
  | hartList (rq : Request)
  /-- HART_PASS (R257). -/
  | hartPass (rq : Request)
  /-- DIO_SET (R289). -/
  | dioSet (rq : Request)
  /-- DIO_GET (R289). -/
  | dioGet (rq : Request)
  /-- DO_WRITE (R272). -/
  | doWrite (rq : Request)
  /-- DIO_READ (R289). -/
  | dioRead (rq : Request)
  /-- CNT_PRESET (R267). -/
  | cntPreset (rq : Request)
  /-- LAMP_SET (R289). -/
  | lampSet (rq : Request)
  /-- LAMP_GET (R289). -/
  | lampGet (rq : Request)
  /-- LAMP_WRITE (R276). -/
  | lampWrite (rq : Request)
  /-- LAMP_READ (R289). -/
  | lampRead (rq : Request)
  /-- LAMP_LEARN (R282). -/
  | lampLearn (rq : Request)
  /-- LAMP_LEARN_DONE (R282). -/
  | lampLearnDone (t : Nat) (n : Chan)
  /-- BAY_SET (R287). -/
  | baySet (rq : Request)
  /-- BAY_GET (R289). -/
  | bayGet (rq : Request)
  /-- BAY_FS (R289). -/
  | bayFs (rq : Request)
  /-- LANE_SET (R311). -/
  | laneSet (rq : Request)
  /-- LANE_GET (R311). -/
  | laneGet (rq : Request)
  /-- LANE_ARM (R304). -/
  | laneArm (rq : Request)
  /-- LANE_DISARM (R304). -/
  | laneDisarm (rq : Request)
  /-- LANE_RESET (R304). -/
  | laneReset (rq : Request)
  /-- LANE_READ (R311). -/
  | laneRead (rq : Request)
  /-- PWR_STATUS (R128). -/
  | pwrStatus (rq : Request)
  /-- NODE_RESET (R129). -/
  | nodeReset (rq : Request)
  /-- MODE_SET (R129). -/
  | modeSet (rq : Request)
  /-- NODE_DORMANT (R119). -/
  | nodeDormant (rq : Request)
  /-- PWR_CLEAR (R128). -/
  | pwrClear (rq : Request)
  /-- PT_SET (R333). -/
  | ptSet (rq : Request)
  /-- PT_GET (R333). -/
  | ptGet (rq : Request)
  /-- PT_READ (R333). -/
  | ptRead (rq : Request)
  /-- PT_STATES (R333). -/
  | ptStates (rq : Request)
  /-- PT_ACK (R323). -/
  | ptAck (rq : Request)
  /-- PT_SHELVE (R326). -/
  | ptShelve (rq : Request)
  /-- PT_INHIBIT (R327). -/
  | ptInhibit (rq : Request)
  /-- GRP_SET (R358). -/
  | grpSet (rq : Request)
  /-- GRP_GET (R358). -/
  | grpGet (rq : Request)
  /-- GRP_READ (R358). -/
  | grpRead (rq : Request)
  /-- GRP_ACK (R341). -/
  | grpAck (rq : Request)
  /-- HB_STATUS (R358). -/
  | hbStatus (rq : Request)
  /-- HB_OVERRIDE (R347). -/
  | hbOverride (rq : Request)
  /-- HB_SYS_ACK (R342). -/
  | hbSysAck (rq : Request)
  /-- GRN_STATUS (R381). -/
  | grnStatus (rq : Request)
  /-- GRN_READ (R371). -/
  | grnRead (rq : Request)
  /-- GRN_FREEZE (R373). -/
  | grnFreeze (rq : Request)
  /-- GRN_RELEASE (R374). -/
  | grnRelease (rq : Request)
  /-- CLK_GET (R405). -/
  | clkGet (rq : Request)
  /-- CLK_SET (R405). -/
  | clkSet (rq : Request)
  /-- CLK_LEAP (R400). -/
  | clkLeap (rq : Request)
  /-- CLK_STATUS (R405). -/
  | clkStatus (rq : Request)
  /-- BRAM_READ (R403). -/
  | bramRead (rq : Request)
  /-- BRAM_WRITE (R403). -/
  | bramWrite (rq : Request)
  /-- PNR_STATUS (R435). -/
  | pnrStatus (rq : Request)
  /-- PNR_PORT (R435). -/
  | pnrPort (rq : Request)
  /-- PNR_SLOT (R435). -/
  | pnrSlot (rq : Request)
  /-- PAIR_STATUS (R463). -/
  | pairStatus (rq : Request)
  /-- PAIR_CLEAR (R463). -/
  | pairClear (rq : Request)
  /-- PAIR_ADOPT (R455). -/
  | pairAdopt (rq : Request)
  /-- SESS_OPEN (R477). -/
  | sessOpen (rq : Request)
  /-- SESS_CLOSE (R497). -/
  | sessClose (rq : Request)
  /-- SESS_STATUS (R497). -/
  | sessStatus (rq : Request)
  /-- NODE_IDENT (R497). -/
  | nodeIdent (rq : Request)
  /-- MEM_PEEK (R489). -/
  | memPeek (rq : Request)
  /-- MEM_POKE (R489). -/
  | memPoke (rq : Request)
  /-- BULK_OPEN (R491). -/
  | bulkOpen (rq : Request)
  /-- BULK_WRITE (R492). -/
  | bulkWrite (rq : Request)
  /-- BULK_READ (R493). -/
  | bulkRead (rq : Request)
  /-- BULK_CLOSE (R494). -/
  | bulkClose (rq : Request)
  /-- BULK_STATUS (R490). -/
  | bulkStatus (rq : Request)
  /-- CFG_WRITE (R503). -/
  | cfgWrite (rq : Request)
  /-- CFG_READ (R525). -/
  | cfgRead (rq : Request)
  /-- CFG_COMMIT (R507). -/
  | cfgCommit (rq : Request)
  /-- CFG_DISCARD (R502). -/
  | cfgDiscard (rq : Request)
  /-- CFG_STATUS (R525). -/
  | cfgStatus (rq : Request)
  /-- CFG_REVERT (R514). -/
  | cfgRevert (rq : Request)
  /-- CAL_STATUS (R525). -/
  | calStatus (rq : Request)
  /-- FW_STATUS (R525). -/
  | fwStatus (rq : Request)
  /-- FW_ACTIVATE (R521). -/
  | fwActivate (rq : Request)
  /-- FW_CONFIRM (R522). -/
  | fwConfirm (rq : Request)
  /-- FW_ROLLBACK (R523). -/
  | fwRollback (rq : Request)
  /-- TOLL_IDENT (R547). -/
  | tollIdent (rq : Request)
  /-- TOLL_READ (R547). -/
  | tollRead (rq : Request)
  /-- TOLL_SEAL (R538). -/
  | tollSeal (rq : Request)
  /-- TOLL_UNSEAL (R539). -/
  | tollUnseal (rq : Request)
  /-- TOLL_LOG_READ (R547). -/
  | tollLogRead (rq : Request)
  /-- TOLL_LOG_CLEAR (R543). -/
  | tollLogClear (rq : Request)
  /-- NTF_SUBSCRIBE (R550). -/
  | ntfSubscribe (rq : Request)
  /-- NTF_MASK (R550). -/
  | ntfMask (rq : Request)
  /-- NTF_STATUS (R558). -/
  | ntfStatus (rq : Request)
  /-- PERF_READ (R557). -/
  | perfRead (rq : Request)
  /-- CLK_WINDOW_READ (R388). Session k reads len + 1 bytes from offset off. -/
  | clkWindowRead (t : Nat) (k : Fin 8) (off len : Fin 28)
  /-- CLK_FREEZE_LAPSE (R388). -/
  | clkFreezeLapse (t : Nat) (k : Fin 8)
  /-- CLK_STAGING_WRITE (R389). From offset 0x20 + off. -/
  | clkStagingWrite (t : Nat) (k : Fin 8) (off : Fin 24) (bs : List Byte)
  /-- CLK_APPLY_CALENDAR (R390). -/
  | clkApplyCalendar (t : Nat) (k : Fin 8)
  /-- CLK_APPLY_BINARY (R390). -/
  | clkApplyBinary (t : Nat) (k : Fin 8)
  /-- CLK_DISCARD_STAGING (R389). -/
  | clkDiscardStaging (t : Nat) (k : Fin 8)
  /-- CLK_STAGING_LAPSE (R389). -/
  | clkStagingLapse (t : Nat) (k : Fin 8)
  /-- SUPPLY_OVERVOLTAGE (R99). -/
  | supplyOvervoltage (t : Nat) (on : Bool) (sup : Supply)
  /-- SUPPLY_WARNING_CONFIRMED (R104). -/
  | supplyWarningConfirmed (t : Nat) (sup : Supply)
  /-- SUPPLY_WARNING_CLEARED (R105). The lowest readings since the warning, V_MOD's ago µs back. -/
  | supplyWarningCleared (t : Nat) (sup low : Supply) (ago : Nat)
  /-- HOLD_EXIT (R105). As CONTROL_CYCLE_BOUNDARY. -/
  | holdExit (arms : List ArmReading)
  /-- HOLD_LIMIT_EXPIRE (R107). -/
  | holdLimitExpire (t : Nat)
  /-- RESET_THRESHOLD_CONFIRMED (R101). As SUPPLY_WARNING_CLEARED. -/
  | resetThresholdConfirmed (t : Nat) (sup low : Supply) (ago : Nat)
  /-- LOGIC_DOMAIN_OFF (R101). -/
  | logicDomainOff (t : Nat)
  /-- RESET_THRESHOLD_CLEARED (R101). The millpond content was lost meanwhile. -/
  | resetThresholdCleared (t : Nat) (sup : Supply) (pins : Pins) (lost : Bool)
  /-- INPUT_LOST (R99). PWR_B, not PWR_A, at v volts: lost, or recovered. -/
  | inputLost (t : Nat) (inB lost : Bool) (v : Rat)
  /-- CELL_TEST (R103). The cell under load, and the reservoir, V. -/
  | cellTest (t : Nat) (v vRes : Rat)
  /-- BACKUP_LOW (R103). V_BAK enters, or leaves, the backup-low state. -/
  | backupLow (t : Nat) (low : Bool) (v : Rat)
  /-- NRESET_ASSERT (R113). V_MOD as the pin is counted low. -/
  | nresetAssert (at_ : Supplied)
  /-- NRESET_SHORT (R76). -/
  | nresetShort (t : Nat)
  /-- NRESET_RELEASE (R113). -/
  | nresetRelease (t : Nat)
  /-- NRESET_STUCK (R114). -/
  | nresetStuck (t : Nat)
  /-- NRESET_STUCK_CLEAR (R114). -/
  | nresetStuckClear (t : Nat)
  /-- LOCKSTEP_MISMATCH (R25). -/
  | lockstepMismatch (t : Nat)
  /-- CONTROL_PLANE_FAULT (R111). -/
  | controlPlaneFault (t : Nat)
  /-- CTRL_WINDOW_EXPIRE (R111). -/
  | ctrlWindowExpire (t : Nat)
  /-- LOGIC_CLOCK_FAIL (R110). -/
  | logicClockFail (t : Nat)
  /-- LOGIC_RAIL_FAIL (R110). -/
  | logicRailFail (t : Nat)
  /-- DORMANT_WAKE (R120). V_MOD as the wake time comes. -/
  | dormantWake (at_ : Supplied)
  /-- SEAT_CONTACT_OPEN (R60). -/
  | seatContactOpen (t : Nat)
  /-- WITHDRAW_STAGING_DONE (R60). -/
  | withdrawStagingDone (t : Nat)
  /-- SEAT_CONTACT_CLOSE (R58). -/
  | seatContactClose (t : Nat) (pins : Pins)
  /-- BOOT_DECISION (R237). The self-test, firmware slots 0 and 1 and the Toll image pass. -/
  | bootDecision (t : Nat) (selfTest img0 img1 toll : Bool)
  /-- BOOT_PAIR_DECISION (R458). -/
  | bootPairDecision (t : Nat)
  /-- BOOT_REDECIDE (R458). -/
  | bootRedecide (t : Nat)
  /-- THERMAL_TRIP (R126). T_F, °C, for 1 s. -/
  | thermalTrip (t : Nat) (tF : Rat)
  /-- GOVERNOR_TICK (R124). Power on PWR_A and PWR_B, T_F, and per bay output-stage loss and converter input power, W. -/
  | governorTick (t : Nat) (drawn tF : Rat) (loss pBay : List Rat)
  /-- IDENTITY_SCAN (R75). -/
  | identityScan (t : Nat) (slot : Fin 64) (posB peerPres : Bool)
  /-- STRAP_CHANGE (R70). -/
  | strapChange (t : Nat) (b : Bay) (tied : Bool)
  /-- CONTROL_CYCLE_BOUNDARY (R26). What the terminals show if an arming check runs in this cycle. -/
  | controlCycleBoundary (arms : List ArmReading)
  /-- CYCLE_OVERRUN (R27). -/
  | cycleOverrun 
  /-- SWEEP (R29). -/
  | sweep (t : Nat)
  /-- SWEEP_ABANDONED (R29). -/
  | sweepAbandoned (t : Nat)
  /-- POINT_ON_DELAY_EXPIRE (R318). -/
  | pointOnDelayExpire (t : Nat) (p : Point)
  /-- POINT_OFF_DELAY_EXPIRE (R318). -/
  | pointOffDelayExpire (t : Nat) (p : Point)
  /-- SHELVE_EXPIRE (R326). -/
  | shelveExpire (t : Nat) (p : Point)
  /-- BLOCK_DELAY_EXPIRE (R325). -/
  | blockDelayExpire (t : Nat) (p : Point)
  /-- FREEZE_LIMIT (R510). -/
  | freezeLimit (t : Nat)
  /-- RING_CYCLE (R414). -/
  | ringCycle 
  /-- HB_TICK (R343). -/
  | hbTick (t : Nat)
  /-- HB_T1_EXPIRE (R345). -/
  | hbT1Expire (t : Nat)
  /-- HB_T2_EXPIRE (R345). -/
  | hbT2Expire (t : Nat)
  /-- HB_T_ATTEND_EXPIRE (R345). -/
  | hbTAttendExpire (t : Nat)
  /-- DM_PREWARN (R350). -/
  | dmPrewarn (t : Nat)
  /-- DM_EXPIRED (R350). -/
  | dmExpired (t : Nat)
  /-- ROSTER_CHANGE (R348). -/
  | rosterChange (t : Nat)
  /-- HB_OVERRIDE_END (R347). -/
  | hbOverrideEnd (t : Nat)
  /-- PANEL_POLL (R354). t: the end of the frame. -/
  | panelPoll (t : Nat) (busB : Bool)
  /-- PANEL_REPLY (R356). -/
  | panelReply (t : Nat) (busB : Bool) (bytes : List Byte)
  /-- PANEL_REPLY_TIMEOUT (R354). -/
  | panelReplyTimeout (t : Nat) (busB : Bool)
  /-- KEY_ACK (R356). -/
  | keyAck (t : Nat) (k : Fin 64)
  /-- KEY_SILENCE (R353). -/
  | keySilence (t : Nat) (k : Fin 64)
  /-- KEY_ACCEPT (R345). -/
  | keyAccept (t : Nat) (k : Fin 64)
  /-- KEY_DM_ON (R350). -/
  | keyDmOn (t : Nat) (k : Fin 64)
  /-- KEY_DM_RESET (R350). -/
  | keyDmReset (t : Nat) (k : Fin 64)
  /-- KEY_DM_OFF (R350). -/
  | keyDmOff (t : Nat) (k : Fin 64)
  /-- KEY_MANNED (R344). -/
  | keyManned (t : Nat) (k : Fin 64)
  /-- KEY_UNMANNED (R344). -/
  | keyUnmanned (t : Nat) (k : Fin 64)
  /-- HB_STATE_SYNC (R357). What arrives where this unit is not the duty unit. -/
  | hbStateSync (t : Nat) (m : BellMsg)
  /-- CTRL_STALL (R42). -/
  | ctrlStall (t : Nat)
  /-- FABRIC_STALL (R41). -/
  | fabricStall (t : Nat)
  /-- DATA_STALL (R42). -/
  | dataStall (seen : DataStill)
  /-- MGMT_STALL (R42). -/
  | mgmtStall (t : Nat)
  /-- TOLL_STALL (R530). -/
  | tollStall (t : Nat)
  /-- SS_TIMEOUT_EXPIRE (R287). -/
  | ssTimeoutExpire (t : Nat) (b : Bay)
  /-- CONVERSION_END (R172). Reading in V (v2: second SWAP sub-sample), the raw values since the last, the pip reading, the converter inputs against FG. -/
  | conversionEnd (t : Nat) (n : Chan) (v v2 : Rat) (raws : List Rat) (pip : Option Rat) (inputs : Inputs)
  /-- REF_CHECK (R146). Voltages across the reference resistor with IEX1 and IEX2. -/
  | refCheck (t : Nat) (n : Chan) (v1 v2 : Rat)
  /-- LEAD_CONVERSION (R187). The reading, V. -/
  | leadConversion (t : Nat) (n : Chan) (v : Rat)
  /-- IMPEDANCE_CHECK (R213). -/
  | impedanceCheck (t : Nat) (n : Chan)
  /-- IMPEDANCE_CHECK_DONE (R219). The responses of the segments F1, F2, F3, G1 and G3. -/
  | impedanceCheckDone (t : Nat) (n : Chan) (f1 f2 f3 g1 g3 : Tone)
  /-- COMPLIANCE_TRIP (R208). -/
  | complianceTrip (t : Nat) (n : Chan)
  /-- TERMINAL_MONITOR_SCAN (R151). The bay's 128 terminal voltages and its BAY sensor, °C. -/
  | terminalMonitorScan (t : Nat) (b : Bay) (v : List Rat) (sensor : Rat)
  /-- PROTECTION_TRIP (R152). Terminal k of channel n at v V, mA milliamperes. -/
  | protectionTrip (t : Nat) (n : Chan) (k : Fin 4) (v mA : Rat)
  /-- PROTECTION_RECONNECT (R154). -/
  | protectionReconnect (t : Nat) (n : Chan)
  /-- BAY_START (R157). -/
  | bayStart (t : Nat) (b : Bay)
  /-- BAY_FAULT (R158). -/
  | bayFault (t : Nat) (b : Bay)
  /-- RAIL_UPDATE (R229). The stage's current and V_TERM. -/
  | railUpdate (t : Nat) (n : Chan) (mA v : Rat)
  /-- OUTPUT_CONDITION (R239). Row k of Table 7.4 from Compliance on, held or gone for its time; the stage at mA, V_TERM v. -/
  | outputCondition (t : Nat) (n : Chan) (k : Fin 6) (on : Bool) (mA v : Rat)
  /-- IOUT_REACH_UPDATE (R240). The stage's current and V_TERM. -/
  | ioutReachUpdate (t : Nat) (n : Chan) (mA v : Rat)
  /-- OPEN_LOOP_PROBE (R239). -/
  | openLoopProbe (t : Nat) (n : Chan) (mA : Rat)
  /-- SRC_HOLD_EXPIRE (R233). -/
  | srcHoldExpire (t : Nat) (n : Chan)
  /-- CMD_TIMEOUT_EXPIRE (R231). -/
  | cmdTimeoutExpire (t : Nat) (n : Chan)
  /-- REPEATER_STUCK (R247). Whether the terminal follows the driven edges. -/
  | repeaterStuck (t : Nat) (n : Chan) (seen : Stuck)
  /-- HART_POLL (R253). -/
  | hartPoll (t : Nat) (n : Chan)
  /-- HART_REPLY (R253). -/
  | hartReply (t : Nat) (n : Chan) (a : HartAnswer)
  /-- HART_REPLY_TIMEOUT (R253). The attempt drew a frame with an error. -/
  | hartReplyTimeout (t : Nat) (n : Chan) (bad : Bool)
  /-- HART_BURST_FRAME (R255). From this device. -/
  | hartBurstFrame (t : Nat) (n : Chan) (dev : HartId)
  /-- DI_SAMPLE (R261). TA at v V at the decision; TA crossed a threshold within the window. -/
  | diSample (t : Nat) (n : Chan) (v : Rat) (crossed : Bool)
  /-- DI_SUPERVISION_PULSE (R263). -/
  | diSupervisionPulse (t : Nat) (n : Chan) (vTA vTB : Rat)
  /-- SENSOR_SUPPLY_TRIP (R262). -/
  | sensorSupplyTrip (t : Nat) (n : Chan)
  /-- CNT_EDGE (R266). -/
  | cntEdge (t : Nat) (n : Chan) (e : Edge)
  /-- FRQ_EDGE (R269). At tick units of 10 ns past the microsecond. -/
  | frqEdge (t : Nat) (n : Chan) (e : Edge) (tick : Fin 100)
  /-- FRQ_GATE_END (R269). -/
  | frqGateEnd (t : Nat) (n : Chan)
  /-- SWITCH_TRIP (R271). -/
  | switchTrip (t : Nat) (n : Chan) (x : Excess)
  /-- SWITCH_RETRY (R271). The sensor supply, not the switch. -/
  | switchRetry (t : Nat) (n : Chan) (supply : Bool)
  /-- DO_FAULT_DETECT (R274). EXT_V, else OPEN_LOAD, held or gone for its time; switch current and TA. -/
  | doFaultDetect (t : Nat) (n : Chan) (ext : Bool) (on : Bool) (mA v : Rat)
  /-- DEMAG_LIMIT (R273). Energy of a turn-off that has ended, 0 for none. -/
  | demagLimit (t : Nat) (n : Chan) (mJ : Rat)
  /-- LAMP_SAMPLE (R278). -/
  | lampSample (t : Nat) (n : Chan) (mA : Rat)
  /-- LAMP_COLD_TEST (R280). Mean current of the last 0.5 ms. -/
  | lampColdTest (t : Nat) (n : Chan) (mA : Rat)
  /-- LAMP_EXT_V (R281). TA has stood for 100 ms at or above 5.0 V, or below. -/
  | lampExtV (t : Nat) (n : Chan) (v : Rat)
  /-- FLASH_PHASE (R277). -/
  | flashPhase (t : Nat) (n : Chan)
  /-- FIELD_SUPPLY_THRESHOLD (R285). FS_OV, FS_WARN, FS_LOW or FS_LOST confirmed or cleared at V_FS v. -/
  | fieldSupplyThreshold (t : Nat) (b : Bay) (which : Fin 4) (on : Bool) (v : Rat)
  /-- LATCH_FLOOR_PASSED (R284). FS+ at the instant. -/
  | latchFloorPassed (at_ : Supplied) (b : Bay)
  /-- BAY_CURRENT_SAMPLE (R286). FS+ current, FS_SENSE, and the bay's 32 switch currents, mA. -/
  | bayCurrentSample (t : Nat) (b : Bay) (amps : Rat) (sense : Sense) (loads : List Rat)
  /-- LANE_WORD_ARRIVAL (R299). Line of the second core (LS); count and check code right; mask of the lanes whose close bit arrives inverted. -/
  | laneWordArrival (t : Nat) (b : Bay) (ls : Bool) (valid : Bool) (flip : Nat)
  /-- LANE_WD_EXPIRE (R299). -/
  | laneWdExpire (t : Nat) (l : Lane) (ls : Bool)
  /-- LANE_OUTPUT_TRIP (R300). -/
  | laneOutputTrip (t : Nat) (l : Lane) (x : LaneExcess)
  /-- LANE_PULSE_TEST (R302). Voltage across the opened switch within 200 µs. -/
  | lanePulseTest (t : Nat) (l : Lane) (v : Rat)
  /-- LANE_DEGRADE_EXPIRE (R294). -/
  | laneDegradeExpire (t : Nat) (l : Lane)
  /-- LANE_DISC (R295). -/
  | laneDisc (t : Nat) (l : Lane)
  /-- GRANARY_SUBMIT (R37). 0 control, 1 data, 2 management, 3 Toll. -/
  | granarySubmit (t : Nat) (port : Fin 4)
  /-- LOSS_RECORD (R38). -/
  | lossRecord (t : Nat) (port : Fin 4)
  /-- GRANARY_DRAIN_PAGE (R367). -/
  | granaryDrainPage (t : Nat)
  /-- GRANARY_FLUSH (R367). -/
  | granaryFlush (t : Nat)
  /-- SECTOR_ERASE (R378). -/
  | sectorErase (t : Nat)
  /-- FLOOD_END (R369). -/
  | floodEnd (t : Nat) (code : Fin 1024)
  /-- FLOOD_SUMMARY (R369). -/
  | floodSummary (t : Nat) (code : Fin 1024)
  /-- GRN_LEASE_EXPIRE (R374). -/
  | grnLeaseExpire (t : Nat)
  /-- GRN_FREEZE_LIMIT (R374). -/
  | grnFreezeLimit (t : Nat)
  /-- WEAR_REPORT (R379). -/
  | wearReport (t : Nat)
  /-- PPS_EDGE (R396). -/
  | ppsEdge (t : Nat) (e : PpsEdge)
  /-- TIME_SENTENCE (R396). t: its final character. -/
  | timeSentence (t : Nat) (x : Sentence)
  /-- TIME_LOCK_LOSS (R396). -/
  | timeLockLoss (t : Nat)
  /-- RING_LOCK_LOSS (R397). -/
  | ringLockLoss (t : Nat)
  /-- TIME_STEP (R398). -/
  | timeStep (t : Nat)
  /-- LEAP_HOLD (R401). -/
  | leapHold (t : Nat)
  /-- CLOCK_SLAVE_SECOND (R385). -/
  | clockSlaveSecond (t : Nat)
  /-- OSC_STOP_DETECT (R392). -/
  | oscStopDetect (t : Nat)
  /-- CLOCK_RANGE_END (R386). -/
  | clockRangeEnd (t : Nat)
  /-- SYNC_FRAME (R425). Arrives ns past the microsecond. -/
  | syncFrame (t : Nat) (ns : Fin 1000) (p : Port) (f : Frame)
  /-- LINK_FRAME (R427). -/
  | linkFrame (t : Nat) (ns : Fin 1000) (p : Port) (f : Frame)
  /-- DATA_FRAME (R419). -/
  | dataFrame (t : Nat) (p : Port) (f : Frame)
  /-- POLL_FRAME (R421). -/
  | pollFrame (t : Nat) (p : Port) (f : Frame)
  /-- NIL_FRAME (R421). -/
  | nilFrame (t : Nat) (p : Port) (f : Frame)
  /-- ACYC_FRAME (R422). -/
  | acycFrame (t : Nat) (p : Port) (f : Frame)
  /-- BABBLE_REOPEN (R430). -/
  | babbleReopen (t : Nat) (p : Port)
  /-- PORT_SILENT (R427). -/
  | portSilent (t : Nat) (p : Port)
  /-- PORT_SYNC_LOSS (R427). Synchronisation gained, not lost. -/
  | portSyncLoss (t : Nat) (p : Port) (up : Bool)
  /-- DATA_START (R416). -/
  | dataStart (t : Nat)
  /-- ADDR_CLASH_CLEAR (R416). -/
  | addrClashClear (t : Nat)
  /-- SFP_INSERT (R90). It declares 1000BASE-X; SFF-8472 identity. -/
  | sfpInsert (t : Nat) (p : Port) (ok : Bool) (vendor part serial : List Byte)
  /-- SFP_REMOVE (R91). -/
  | sfpRemove (t : Nat) (p : Port)
  /-- SFP_DIAG_POLL (R90). Temperature, supply, bias, transmit and receive power, where offered. -/
  | sfpDiagPoll (t : Nat) (p : Port) (d : List Rat)
  /-- HEARTBEAT_RX (R444). On the packet lane, not the pair lane. -/
  | heartbeatRx (t : Nat) (pkt : Bool) (h : Heartbeat)
  /-- PART_I_RX (R445). -/
  | partIRx (t : Nat) (m : PartI)
  /-- PART_C_RX (R445). -/
  | partCRx (t : Nat) (c : PartC)
  /-- HEARTBEAT_LOSS (R447). -/
  | heartbeatLoss (t : Nat)
  /-- PAIR_LANE_FALLBACK (R444). -/
  | pairLaneFallback (t : Nat)
  /-- READBACK_MISMATCH (R449). By the terminal monitor, not the stage's readback, for three cycles. -/
  | readbackMismatch (t : Nat) (n : Chan) (mon : Bool)
  /-- DISAGREE (R450). Channel k, or point k - 1024. -/
  | disagree (t : Nat) (k : Nat)
  /-- PAIR_REF_CHECK (R451). -/
  | pairRefCheck (t : Nat) (note : RefNote)
  /-- FORCED_RELEASE (R453). -/
  | forcedRelease (t : Nat)
  /-- TAKEOVER_YIELD_CHECK (R454). -/
  | takeoverYieldCheck (t : Nat)
  /-- SLUICE_YIELD (R438). -/
  | sluiceYield (t : Nat)
  /-- SLUICE_RECLAIM (R438). -/
  | sluiceReclaim (t : Nat)
  /-- SLUICE_SHUT_IN (R441). -/
  | sluiceShutIn (t : Nat) (on : Bool)
  /-- SLUICE_WATCHDOG_EXPIRE (R438). -/
  | sluiceWatchdogExpire (t : Nat)
  /-- SLUICE_LOOP_FAULT (R443). The loop of SLUICE_SHUT_OUT, not SLUICE_OWN, and its current. -/
  | sluiceLoopFault (t : Nat) (shut : Bool) (mA : Rat)
  /-- HANDOVER_CLAIM (R457). -/
  | handoverClaim (t : Nat)
  /-- HANDOVER_TIMEOUT (R457). -/
  | handoverTimeout (t : Nat)
  /-- RESYNC_STEP (R459). What the duty unit gives for the step under way. -/
  | resyncStep (t : Nat) (m : ResyncMsg)
  /-- PAIR_RECORD_RX (R446). -/
  | pairRecordRx (t : Nat) (r : RecCopy)
  /-- SESSION_TABLE_RX (R484). -/
  | sessionTableRx (t : Nat) (tab : List SessCopy)
  /-- PEER_COMMIT_RX (R507). The epoch of the new content and the change list. -/
  | peerCommitRx (t epoch : Nat) (chs : List (Nat × Option Nat))
  /-- COMMIT_PEER_TIMEOUT (R507). -/
  | commitPeerTimeout (t : Nat)
  /-- MAILBOX_ACK (R36). -/
  | mailboxAck (t : Nat)
  /-- PEER_REPLY_RX (R472). The reply packet with opcode op. -/
  | peerReplyRx (t : Nat) (op : Nat) (r : Request)
  /-- SESSION_IDLE_EXPIRE (R479). -/
  | sessionIdleExpire (t : Nat) (k : Fin 8)
  /-- BULK_IDLE_EXPIRE (R495). -/
  | bulkIdleExpire (t : Nat) (h : Fin 4)
  /-- NOTIFY_HOLD_EXPIRE (R552). -/
  | notifyHoldExpire (t : Nat) (k : Fin 8)
  /-- FW_TRIAL_EXPIRE (R522). -/
  | fwTrialExpire (t : Nat)
  /-- TOLL_SEAL_BROKEN (R540). The cover contact, not the seal switch; opened, or closed. -/
  | tollSealBroken (t : Nat) (cover opened : Bool)
  /-- TOLL_PEER_PRESENT (R531). -/
  | tollPeerPresent (t : Nat)
  /-- TOLL_CHECKPOINT (R536). -/
  | tollCheckpoint (t : Nat)
  /-- TOLL_CAPTURE (R534). -/
  | tollCapture (t : Nat)
  /-- TOLL_FAULT (R535). -/
  | tollFault (t : Nat)
  /-- TRACE_SYNC (R554). -/
  | traceSync (t : Nat)
  /-- TRACE_COUNTERS (R554). -/
  | traceCounters (t : Nat)
  /-- SVC_DATAGRAM (R469). -/
  | svcDatagram (t : Nat) (d : Datagram)
  /-- PEER_PRES_OPEN (R441). -/
  | peerPresOpen (t : Nat)
  /-- SLUICE_PEER_RELEASED (R453). -/
  | sluicePeerReleased (t : Nat)
  /-- COMMIT_BANK_WRITTEN (R507). -/
  | commitBankWritten (t : Nat)
  /-- COMMIT_PEER_ACK (R507). -/
  | commitPeerAck (t : Nat)
  /-- BULK_CLOSE_DONE (R494). -/
  | bulkCloseDone (t : Nat) (h : Fin 4)
  deriving DecidableEq, Repr

end Sys2Proof
end

