-- ==== Sys2Proof/Decode.lean ====
section
/-! DEFINITION. The rows of the opcode table give no bits, so no word spells a command. -/

namespace Sys2Proof

/-- The command that `nbits` bits `w` spell in the opcode table's numbering: none, since no row has bits (log 5). -/
def decodeTableWord (_nbits _w : Nat) : Option Instr := none

end Sys2Proof
end

