-- ==== Sys2Proof/Machine/Bytes.lean ====
section
/-! DEFINITION. Byte-order, bit-field and list helpers that the meanings use (R14: little-endian). -/

namespace Sys2Proof.Machine

/-- The `n` little-endian bytes of `v` (R14). -/
def le : Nat → Nat → List Byte
  | 0, _ => []
  | n + 1, v => BitVec.ofNat 8 v :: le n (v / 256)

/-- The number that little-endian bytes spell (R14). -/
def ofLe : List Byte → Nat
  | [] => 0
  | b :: bs => b.toNat + 256 * ofLe bs

/-- `len` bytes of `bs` from `off`, short where `bs` ends. -/
def slice (bs : List Byte) (off len : Nat) : List Byte := (bs.drop off).take len

/-- The little-endian number in `len` bytes of `bs` at `off`. -/
def fieldAt (bs : List Byte) (off len : Nat) : Nat := ofLe (slice bs off len)

/-- The byte of `bs` at `off`, 0 where there is none. -/
def byteAt (bs : List Byte) (off : Nat) : Nat := (bs.getD off 0#8).toNat

/-- `n` zero bytes. -/
def zeros (n : Nat) : List Byte := List.replicate n 0#8

/-- `bs` filled with zero bytes to `n` and cut at `n`. -/
def fit (n : Nat) (bs : List Byte) : List Byte := (bs ++ zeros (n - bs.length)).take n

/-- `bs` with the bytes from `off` on replaced by `new`. -/
def overlay (bs : List Byte) (off : Nat) (new : List Byte) : List Byte :=
  fit off bs ++ new ++ bs.drop (off + new.length)

/-- 1 for true, 0 for false. -/
def bit (b : Bool) : Nat := if b then 1 else 0

/-- The flag word whose bit k is the k-th Boolean of the list. -/
def bitsOf : List Bool → Nat
  | [] => 0
  | b :: bs => bit b + 2 * bitsOf bs

/-- Bit `k` of `v`. -/
def hasBit (v k : Nat) : Bool := v.testBit k

/-- Bits `[hi:lo]` of `v`. -/
def bitsAt (v hi lo : Nat) : Nat := (v >>> lo) % 2 ^ (hi + 1 - lo)

/-- `v` with bit `k` set or cleared. -/
def setBit (v k : Nat) (b : Bool) : Nat :=
  if b == v.testBit k then v else if b then v + 2 ^ k else v - 2 ^ k

/-- The ASCII bytes of `str`, filled with zero bytes to `n` (names and serial numbers). -/
def ascii (n : Nat) (str : String) : List Byte :=
  fit n (str.toList.map fun c => BitVec.ofNat 8 c.toNat)

/-- A 32-bit counter's next value. -/
def wrap32 (n : Nat) : Nat := n % 4294967296

/-- A 16-bit counter's next value. -/
def wrap16 (n : Nat) : Nat := n % 65536

/-- A counter that stops at its largest value. -/
def satAdd (max n k : Nat) : Nat := min max (n + k)

/-- The elements of `xs` from the first that fails `p`. -/
def dropUntil {α : Type} (p : α → Bool) : List α → List α
  | [] => []
  | x :: xs => if p x then x :: xs else dropUntil p xs

/-- `xs` with its last `n` elements only. -/
def lastN {α : Type} (n : Nat) (xs : List α) : List α := xs.drop (xs.length - n)

/-- `xs` without the first element that satisfies `p`. -/
def removeFirst {α : Type} (p : α → Bool) : List α → List α
  | [] => []
  | x :: xs => if p x then xs else x :: removeFirst p xs

/-- The numbers `lo, …, lo + n - 1`. -/
def rangeFrom (lo n : Nat) : List Nat := (List.range n).map (lo + ·)

/-- The whole number of microseconds `t` rounded up to a multiple of `q`. -/
def nextMultiple (t q : Nat) : Nat := (t / q + 1) * q

/-- The least whole multiple of `q` that is at or above `t` and is not `last`, the one already served. -/
def nextStart (t q : Nat) (last : Option Nat) : Nat :=
  if t % q = 0 ∧ last ≠ some t then t else nextMultiple t q

end Sys2Proof.Machine
end

