-- ==== Sys2Proof/Machine/Hash.lean ====
section
/-! DEFINITION. The check sums and the keyed hash the spec names: CRC-32 (IEEE 802.3), the 16-bit CRC of
Granary records and panel frames, SHA-256 and HMAC-SHA-256 (R465, R476, R477, R504). -/

namespace Sys2Proof.Machine

/-- One bit of the reflected CRC-32 register. -/
def crc32Bit (c : Word32) : Word32 :=
  if c.getLsbD 0 then (c >>> 1) ^^^ 0xEDB88320#32 else c >>> 1

/-- `n` bits of the reflected CRC-32 register. -/
def crc32Bits : Nat → Word32 → Word32
  | 0, c => c
  | n + 1, c => crc32Bits n (crc32Bit c)

/-- The CRC-32 register after the bytes `bs`. -/
def crc32Run (c : Word32) : List Byte → Word32
  | [] => c
  | b :: bs => crc32Run (crc32Bits 8 (c ^^^ b.setWidth 32)) bs

/-- The CRC-32 of `bs` as the FCS of IEEE 802.3 computes it (R465). -/
def crc32 (bs : List Byte) : Nat := (crc32Run 0xFFFFFFFF#32 bs ^^^ 0xFFFFFFFF#32).toNat

/-- One bit of a 16-bit CRC register, most significant bit first, with polynomial `p`. -/
def crc16Bit (p c : BitVec 16) : BitVec 16 :=
  if c.getLsbD 15 then (c <<< 1) ^^^ p else c <<< 1

/-- `n` bits of a 16-bit CRC register. -/
def crc16Bits (p : BitVec 16) : Nat → BitVec 16 → BitVec 16
  | 0, c => c
  | n + 1, c => crc16Bits p n (crc16Bit p c)

/-- The 16-bit CRC register after the bytes `bs`. -/
def crc16Run (p c : BitVec 16) : List Byte → BitVec 16
  | [] => c
  | b :: bs => crc16Run p (crc16Bits p 8 (c ^^^ (b.setWidth 16 <<< 8))) bs

/-- The SHA-256 round constants (FIPS 180-4). -/
def shaK : List Word32 :=
  [0x428a2f98#32, 0x71374491#32, 0xb5c0fbcf#32, 0xe9b5dba5#32, 0x3956c25b#32, 0x59f111f1#32, 0x923f82a4#32, 0xab1c5ed5#32,
   0xd807aa98#32, 0x12835b01#32, 0x243185be#32, 0x550c7dc3#32, 0x72be5d74#32, 0x80deb1fe#32, 0x9bdc06a7#32, 0xc19bf174#32,
   0xe49b69c1#32, 0xefbe4786#32, 0x0fc19dc6#32, 0x240ca1cc#32, 0x2de92c6f#32, 0x4a7484aa#32, 0x5cb0a9dc#32, 0x76f988da#32]
  ++ [0x983e5152#32, 0xa831c66d#32, 0xb00327c8#32, 0xbf597fc7#32, 0xc6e00bf3#32, 0xd5a79147#32, 0x06ca6351#32, 0x14292967#32,
   0x27b70a85#32, 0x2e1b2138#32, 0x4d2c6dfc#32, 0x53380d13#32, 0x650a7354#32, 0x766a0abb#32, 0x81c2c92e#32, 0x92722c85#32,
   0xa2bfe8a1#32, 0xa81a664b#32, 0xc24b8b70#32, 0xc76c51a3#32, 0xd192e819#32, 0xd6990624#32, 0xf40e3585#32, 0x106aa070#32]
  ++ [0x19a4c116#32, 0x1e376c08#32, 0x2748774c#32, 0x34b0bcb5#32, 0x391c0cb3#32, 0x4ed8aa4a#32, 0x5b9cca4f#32, 0x682e6ff3#32,
   0x748f82ee#32, 0x78a5636f#32, 0x84c87814#32, 0x8cc70208#32, 0x90befffa#32, 0xa4506ceb#32, 0xbef9a3f7#32, 0xc67178f2#32]

/-- The eight working words of SHA-256. -/
structure ShaState where
  a : Word32
  b : Word32
  c : Word32
  d : Word32
  e : Word32
  f : Word32
  g : Word32
  h : Word32
  deriving DecidableEq, Repr

/-- The initial hash value of SHA-256. -/
def shaInit : ShaState :=
  ⟨0x6a09e667#32, 0xbb67ae85#32, 0x3c6ef372#32, 0xa54ff53a#32, 0x510e527f#32, 0x9b05688c#32, 0x1f83d9ab#32, 0x5be0cd19#32⟩

/-- One SHA-256 round with constant `k` and schedule word `w`. -/
def shaRound (s : ShaState) (k w : Word32) : ShaState :=
  let s1 := s.e.rotateRight 6 ^^^ s.e.rotateRight 11 ^^^ s.e.rotateRight 25
  let ch := (s.e &&& s.f) ^^^ (~~~s.e &&& s.g)
  let t1 := s.h + s1 + ch + k + w
  let s0 := s.a.rotateRight 2 ^^^ s.a.rotateRight 13 ^^^ s.a.rotateRight 22
  let mj := (s.a &&& s.b) ^^^ (s.a &&& s.c) ^^^ (s.b &&& s.c)
  ⟨t1 + (s0 + mj), s.a, s.b, s.c, s.d + t1, s.e, s.f, s.g⟩

/-- The rounds of one block: `win` holds the next sixteen schedule words. -/
def shaRounds : List Word32 → List Word32 → ShaState → ShaState
  | [], _, s => s
  | k :: ks, win, s =>
    let w := win.getD 0 0#32
    let x := win.getD 1 0#32
    let y := win.getD 14 0#32
    let g0 := x.rotateRight 7 ^^^ x.rotateRight 18 ^^^ (x >>> 3)
    let g1 := y.rotateRight 17 ^^^ y.rotateRight 19 ^^^ (y >>> 10)
    let nw := g1 + win.getD 9 0#32 + g0 + w
    shaRounds ks (win.drop 1 ++ [nw]) (shaRound s k w)

/-- One block of SHA-256. -/
def shaBlock (s : ShaState) (win : List Word32) : ShaState :=
  let r := shaRounds shaK win s
  ⟨s.a + r.a, s.b + r.b, s.c + r.c, s.d + r.d, s.e + r.e, s.f + r.f, s.g + r.g, s.h + r.h⟩

/-- Sixteen big-endian words of a block of bytes. -/
def shaWords : Nat → List Byte → List Word32
  | 0, _ => []
  | n + 1, bs =>
    ((bs.getD 0 0#8) ++ (bs.getD 1 0#8) ++ (bs.getD 2 0#8) ++ (bs.getD 3 0#8)) :: shaWords n (bs.drop 4)

/-- The blocks of a padded message. -/
def shaBlocks : Nat → List Byte → ShaState → ShaState
  | 0, _, s => s
  | n + 1, bs, s => shaBlocks n (bs.drop 64) (shaBlock s (shaWords 16 (bs.take 64)))

/-- A message with SHA-256 padding. -/
def shaPad (bs : List Byte) : List Byte :=
  let z := (119 - bs.length % 64) % 64
  bs ++ [0x80#8] ++ zeros z ++ (le 8 (8 * bs.length)).reverse

/-- The 32 bytes of a SHA-256 state, big-endian. -/
def shaBytes (s : ShaState) : List Byte :=
  [s.a, s.b, s.c, s.d, s.e, s.f, s.g, s.h].flatMap fun w => (le 4 w.toNat).reverse

/-- SHA-256 of `bs`. -/
def sha256 (bs : List Byte) : List Byte :=
  let p := shaPad bs
  shaBytes (shaBlocks (p.length / 64) p shaInit)

/-- HMAC-SHA-256 with a key of at most 64 bytes (R476; RFC 2104). -/
def hmac (key msg : List Byte) : List Byte :=
  let k := fit 64 key
  sha256 (k.map (· ^^^ 0x5C#8) ++ sha256 (k.map (· ^^^ 0x36#8) ++ msg))

end Sys2Proof.Machine
end

