-- ==== Sys2Proof/Machine/Table.lean ====
section
/-! DEFINITION. Sparse tables: one list of (key, value) pairs with rising keys, in which a key that is
not listed holds the table's default value. Equal tables are equal lists. -/

namespace Sys2Proof.Machine

/-- A sparse table of values by number. -/
abbrev Tbl (α : Type) := List (Nat × α)

/-- The value at `k`, `d` where `k` is not listed. -/
def tget {α : Type} (d : α) : Tbl α → Nat → α
  | [], _ => d
  | (j, v) :: t, k => if j = k then v else tget d t k

/-- The value at `k`, if listed. -/
def tfind {α : Type} : Tbl α → Nat → Option α
  | [], _ => none
  | (j, v) :: t, k => if j = k then some v else tfind t k

/-- The table with `v` listed at `k`. -/
def tput {α : Type} (k : Nat) (v : α) : Tbl α → Tbl α
  | [] => [(k, v)]
  | (j, w) :: t => if k < j then (k, v) :: (j, w) :: t else if k = j then (k, v) :: t else (j, w) :: tput k v t

/-- The table without any entry at `k`. -/
def tdel {α : Type} (k : Nat) : Tbl α → Tbl α
  | [] => []
  | (j, w) :: t => if j = k then tdel k t else (j, w) :: tdel k t

/-- The table in which `k` holds `v`: the entry goes where `v` is the default. -/
def tset {α : Type} [DecidableEq α] (d : α) (t : Tbl α) (k : Nat) (v : α) : Tbl α :=
  if v = d then tdel k t else tput k v t

/-- The table in which the value at `k` has passed through `f`. -/
def tmod {α : Type} [DecidableEq α] (d : α) (t : Tbl α) (k : Nat) (f : α → α) : Tbl α :=
  tset d t k (f (tget d t k))

/-- Every listed value passed through `f`; entries that become the default go. -/
def tmap {α : Type} [DecidableEq α] (d : α) (f : Nat → α → α) : Tbl α → Tbl α
  | [] => []
  | (j, w) :: t => if f j w = d then tdel j (tmap d f t) else (j, f j w) :: tdel j (tmap d f t)

/-- The keys rise strictly from `lo` on and no value is the default. -/
def twfFrom {α : Type} [DecidableEq α] (d : α) : Nat → Tbl α → Bool
  | _, [] => true
  | lo, (j, w) :: t => decide (lo ≤ j) && decide (w ≠ d) && twfFrom d (j + 1) t

/-- The canonical form of a table. -/
def twf {α : Type} [DecidableEq α] (d : α) (t : Tbl α) : Bool := twfFrom d 0 t

/-- A sparse byte memory: the list of its bytes that differ from what an unlisted byte reads as. -/
abbrev ByteMem := List Host.Cell

/-- The canonical form of a byte memory: rising addresses, no byte listed that an unlisted address reads as. -/
def Memory.wf (d : Byte) (m : ByteMem) : Bool := twf d m

/-- The byte at `a`. -/
def memRead (d : Byte) (m : ByteMem) (a : Nat) : Byte := tget d m a

/-- The memory with `b` at `a`. -/
def memWrite (d : Byte) (m : ByteMem) (a : Nat) (b : Byte) : ByteMem := tset d m a b

/-- `n` bytes from `a`. -/
def memReadN (d : Byte) (m : ByteMem) (a : Nat) : Nat → List Byte
  | 0 => []
  | n + 1 => memRead d m a :: memReadN d m (a + 1) n

/-- The memory with the bytes `bs` from `a` on. -/
def memWriteN (d : Byte) (m : ByteMem) (a : Nat) : List Byte → ByteMem
  | [] => m
  | b :: bs => memWriteN d (memWrite d m a b) (a + 1) bs

end Sys2Proof.Machine
end

