-- ==== Sys2Proof/Machine/HostState.lean ====
section
/-! DEFINITION. State of packets, sessions, the mailbox, bulk transfers, configuration, calibration and firmware
(chapters 1, 16 and 17). -/

namespace Sys2Proof.Machine

/-- A command packet, request or reply, less MAGIC and CRC (Table 16.1). -/
structure Packet where
  link : Link
  version : Nat
  flags : Nat
  opcode : Nat
  session : Nat
  retry : Nat
  status : Nat
  sequence : Nat
  target : Nat
  source : Nat
  reserved : Nat
  payload : List Byte
  deriving DecidableEq, Repr

/-- What the node keeps of a taken request until its final reply (R466, R482). -/
structure Ticket where
  link : Link
  flags : Nat
  opcode : Nat
  session : Nat
  retry : Nat
  sequence : Nat
  /-- SOURCE_NODE of the request, the reply's TARGET_NODE. -/
  source : Nat
  deriving DecidableEq, Repr

/-- What the session keeps about one sequence number (R478); a free number is not listed. -/
inductive SeqMark where
  | outstanding
  | complete (status : Nat) (payload : List Byte)
  deriving DecidableEq, Repr

/-- The condition of a session (Table 16.15 STATE). -/
inductive SessState where
  | free | openUnproven | proven
  deriving DecidableEq, Repr

/-- One notification waiting in a session (R550 to R552). -/
structure PendingItem where
  /-- Source number s (Table 19.1). -/
  source : Nat
  /-- Record code of the latest event. -/
  code : Nat
  /-- Occurrences folded into the item. -/
  count : Nat
  /-- The item's record was suppressed or refused, so it has no sequence number. -/
  noRecord : Bool
  seq : Nat
  time : Micros
  detail : List Byte
  /-- It has waited under the hold mask (HELD, Table 19.2). -/
  held : Bool
  /-- Node time at which the item began to wait. -/
  since : Micros
  deriving DecidableEq, Repr

/-- One of the eight sessions (R475 to R485, R549 to R553). -/
structure Session where
  state : SessState
  keySlot : Nat
  rights : Nat
  /-- The sender the session is bound to. -/
  link : Link
  /-- Highest sequence taken. -/
  high : Nat
  /-- Sequence numbers outstanding or complete, of the 64 that end at H. -/
  marks : List (Nat × SeqMark)
  /-- Physical time of the last valid packet. -/
  lastValid : Micros
  /-- Physical times of AUTH_FAIL within the last 60 s. -/
  authFails : List Micros
  /-- The session key. -/
  key : List Byte
  /-- SEQUENCE of the next notification (R485). -/
  notifySeq : Nat
  /-- Source classes subscribed, bit by bit. -/
  sub : Nat
  /-- Source classes held. -/
  hold : Nat
  /-- NOTIFY_HOLD of the session, ms. -/
  notifyHold : Nat
  items : List PendingItem
  /-- Physical time of the last notification packet. -/
  notifyAt : Micros
  notifySent : Nat
  deriving DecidableEq, Repr

/-- A link that names no sender. -/
def Link.zero : Link := ⟨false, false, 0, 0, 0⟩

/-- A session that is not open. -/
def Session.closed : Session :=
  ⟨.free, 0, 0, Link.zero, 0, [], 0, [], [], 0, 0, 0, 0, [], 0, 0⟩

/-- One parameter change: PID and its new value, none for the default (Table 17.2). -/
abbrev Change := Nat × Option Nat

/-- What the mailbox carries to the control plane (R36). -/
inductive MbxWork where
  /-- Phase k, from 1, of the commit under way, with its records. -/
  | phase (k : Nat) (changes : List Change)
  /-- A command taken with its request payload. -/
  | command (tk : Ticket) (payload : List Byte)
  /-- New calibration of channel n (R518). -/
  | calBlock (n : Nat)
  /-- The ACK key of panel slot k, marked ready at node time `at_`: GRP_ACK on group g with T_SEEN (R356). -/
  | panelAck (at_ g seen k : Nat)
  deriving DecidableEq, Repr

/-- The commit mailbox's one slot (R36). -/
inductive MbxSlot where
  | empty
  /-- Marked ready: one piece of work, or a phase with the commands that travel with it (R508). -/
  | ready (ws : List MbxWork)
  /-- Acknowledged, each piece with a status and, for a command, its reply payload. -/
  | acked (ws : List (MbxWork × Nat × List Byte))
  deriving DecidableEq, Repr

/-- A bulk transfer (R490 to R495). -/
structure Bulk where
  object : Nat
  /-- true: write. -/
  write : Bool
  session : Nat
  total : Nat
  data : ByteMem
  /-- Byte intervals written, [a, b), rising and apart. -/
  written : List (Nat × Nat)
  /-- Physical time of the last BULK command on the handle. -/
  lastCmd : Micros
  crc : Nat
  /-- A completed write whose owner's handling runs: the reply's ticket. -/
  closing : Option Ticket
  /-- The whole object, for a read. -/
  image : List Byte
  deriving DecidableEq, Repr

/-- A configuration: the parameters that are not at their default, by PID. -/
abbrev Cfg := Tbl Nat

/-- One bank (R504, Table 17.3). -/
structure Bank where
  /-- HDR_CHECK and CONFIG_CRC are correct. -/
  sound : Bool
  /-- COMMITTED reads 0. -/
  committed : Bool
  format : Nat
  gen : Nat
  epoch : Nat
  records : Cfg
  tCommit : Micros
  deriving DecidableEq, Repr

/-- A bank that nothing has been written into. -/
def Bank.blank : Bank := ⟨false, false, 1, 0, 0, [], 0⟩

/-- A commit under way (Table 17.4). -/
structure Commit where
  /-- Step of Table 17.4: 3 to 7. -/
  step : Nat
  session : Nat
  ticket : Option Ticket
  /-- This unit runs it; the other unit of the pair only follows the phases that come in part I. -/
  own : Bool
  /-- CFG_REVERT made it. -/
  revert : Bool
  changes : List Change
  /-- The phase plan (R508). -/
  phases : List (List Change)
  /-- The configuration being written. -/
  target : Cfg
  /-- The bank being written. -/
  bank : Nat
  bankWritten : Bool
  /-- The peer has written its own bank. -/
  peerAcked : Bool
  /-- The wait for the peer has ended: by its acknowledgement, or after 5,000 ms. -/
  peerDone : Bool
  /-- Physical time at which step 3 began. -/
  began : Micros
  /-- Lanes the commit touches. -/
  lanes : List Nat
  deriving DecidableEq, Repr

/-- A copy of the calibration set (Tables 17.7, 17.8). SERIAL is always the module's own (R517). A word not listed has its nominal
value (log 4). -/
structure CalCopy where
  source : Nat
  overwrites : Nat
  tFactory : Nat
  tWritten : Nat
  /-- The binary32 words of bytes 64 to 131,003, by byte offset. -/
  words : Tbl Word32
  signature : List Byte
  deriving DecidableEq, Repr

/-- A firmware slot's condition (Table 17.9). -/
inductive FwState where
  | empty | valid | active | trial | rejected
  deriving DecidableEq, Repr

/-- The code of Table 17.9. -/
def FwState.code : FwState → Nat
  | .empty => 0 | .valid => 1 | .active => 2 | .trial => 3 | .rejected => 4

/-- A firmware slot (R519). -/
structure FwSlot where
  state : FwState
  part : Nat
  major : Nat
  minor : Nat
  patch : Nat
  build : Nat
  imageCrc : Nat
  deriving DecidableEq, Repr

/-- A slot without an image. -/
def FwSlot.blank : FwSlot := ⟨.empty, 0, 0, 0, 0, 0, 0⟩

/-- Sessions, queues, the mailbox and bulk transfers. -/
structure HostSt where
  sessions : Tbl Session
  /-- Command packets from the rings and the packet lane (Table 1.4), oldest first. -/
  cmdQueue : List Packet
  /-- Replies and notifications on their way to the data plane (Table 1.4), oldest first. -/
  replyQueue : List Packet
  /-- Replies the management plane holds while the reply queue is full (R39). -/
  replyWait : List Packet
  /-- SVC datagrams waiting for the management plane (R469). -/
  svcQueue : List Packet
  mbx : MbxSlot
  /-- Mailbox requests the management plane has yet to write, oldest first. -/
  mbxWait : List MbxWork
  /-- Commands waiting for the sweep that applies them (reply kind W), with the boundary that took each. -/
  sweepCmds : List (Micros × Ticket × List Byte)
  /-- Commands waiting for the Hopper Bell tick. -/
  bellCmds : List (Ticket × List Byte)
  /-- Unit requests passed to the peer and not yet answered (R472). -/
  passed : List Ticket
  bulk : Tbl (Option Bulk)
  /-- Discarded packets and datagrams (Table 16.4). -/
  discarded : Nat
  /-- BUSY replies. -/
  busyReplies : Nat
  /-- Datagrams dropped because 64 wait. -/
  svcDropped : Nat
  /-- Commands that end with a reset or a switch-off, deferred by a handover. -/
  afterHandover : Option (Ticket × Nat × Nat)
  deriving DecidableEq, Repr

/-- Configuration, calibration and firmware. -/
structure CfgSt where
  bank0 : Bank
  bank1 : Bank
  /-- What the planes apply now. -/
  inForce : Cfg
  /-- Objects that already carry the next epoch during a commit. -/
  ahead : List Nat
  liveEpoch : Nat
  /-- The session that owns the staging (R502). -/
  stageOwner : Option Nat
  staged : List Change
  commit : Option Commit
  /-- PHASES and PHASE_DONE of the commit under way or last. -/
  phases : Nat
  phaseDone : Nat
  /-- FREEZE_MS, the length of the last freeze. -/
  freezeMs : Nat
  /-- Byte 11 of Table 17.11. -/
  slotMismatch : Bool
  formatBad : Bool
  calInv : Bool
  cal0 : Option CalCopy
  cal1 : Option CalCopy
  fw0 : FwSlot
  fw1 : FwSlot
  /-- The slot that runs. -/
  running : Nat
  /-- Physical time at which the trial began, while the running image is TRIAL. -/
  trialFrom : Option Micros
  deriving DecidableEq, Repr

/-- No session open, nothing waiting. -/
def HostSt.reset : HostSt where
  sessions := []
  cmdQueue := []
  replyQueue := []
  replyWait := []
  svcQueue := []
  mbx := .empty
  mbxWait := []
  sweepCmds := []
  bellCmds := []
  passed := []
  bulk := []
  discarded := 0
  busyReplies := 0
  svcDropped := 0
  afterHandover := none

/-- The factory copy of the calibration set. DESIGN CHOICE (log 4): every word at its nominal value. -/
def CalCopy.factory : CalCopy := ⟨1, 0, 0, 0, [], []⟩

/-- Empty banks, a valid calibration set and a running image in slot 0 (DESIGN CHOICE, log 4). -/
def CfgSt.reset : CfgSt where
  bank0 := Bank.blank
  bank1 := Bank.blank
  inForce := []
  ahead := []
  liveEpoch := 0
  stageOwner := none
  staged := []
  commit := none
  phases := 0
  phaseDone := 0
  freezeMs := 0
  slotMismatch := false
  formatBad := false
  calInv := false
  cal0 := some CalCopy.factory
  cal1 := some CalCopy.factory
  fw0 := ⟨.active, 3, 1, 0, 0, 0, 0⟩
  fw1 := FwSlot.blank
  running := 0
  trialFrom := none

end Sys2Proof.Machine
end

