-- ==== Sys2Proof/Machine/Real.lean ====
section
/-! DEFINITION. binary32 images and the exact numbers they stand for (R14). Quantities are exact rationals inside
a meaning and are rounded to the nearest binary32, ties to even, where they are stored or sent. -/

namespace Sys2Proof.Machine

/-- A not-a-number image, the initial VALUE of a channel (Table 5.9). -/
def f32NaN : Word32 := 0x7FC00000#32

/-- The binary32 image names a finite number. -/
def f32Finite (w : Word32) : Bool := (w >>> 23).toNat % 256 != 255

/-- The number a finite binary32 image stands for, 0 for an infinity or a not-a-number. -/
def f32Val (w : Word32) : Rat :=
  let e := (w >>> 23).toNat % 256
  let m := w.toNat % 8388608
  let sgn : Int := if w.getLsbD 31 then -1 else 1
  if e = 255 then 0
  else if e = 0 then mkRat (sgn * m) (2 ^ 149)
  else if 150 ≤ e then mkRat (sgn * ((m + 8388608) * 2 ^ (e - 150) : Nat)) 1
  else mkRat (sgn * (m + 8388608 : Nat)) (2 ^ (150 - e))

/-- `n / d` to the nearest whole number, ties to even. -/
def roundEven (n d : Nat) : Nat :=
  let q := n / d
  let r := n % d
  if 2 * r < d then q else if 2 * r = d then q + q % 2 else q + 1

/-- `|n| / d` scaled by `2 ^ k`, rounded to even. -/
def scaleEven (n d : Nat) (k : Int) : Nat :=
  match k with
  | .ofNat j => roundEven (n * 2 ^ j) d
  | .negSucc j => roundEven n (d * 2 ^ (j + 1))

/-- The exponent e with `2 ^ e ≤ n / d < 2 ^ (e + 1)`. -/
def binExp (n d : Nat) : Int :=
  let e : Int := (n.log2 : Int) - (d.log2 : Int)
  let below : Bool := match e with
    | .ofNat j => n < d * 2 ^ j
    | .negSucc j => n * 2 ^ (j + 1) < d
  if below then e - 1 else e

/-- The binary32 image nearest to `x`, ties to even; an infinity past the largest finite number. -/
def f32Of (x : Rat) : Word32 :=
  let n := x.num.natAbs
  let d := x.den
  let sgn : Nat := if x.num < 0 then 2147483648 else 0
  if n = 0 then 0#32
  else
    let e := max (binExp n d) (-126)
    let m := scaleEven n d (23 - e)
    let body := m + ((e + 126).toNat) * 8388608
    if body ≥ 2139095040 then BitVec.ofNat 32 (sgn + 2139095040)
    else BitVec.ofNat 32 (sgn + body)

/-- The bytes of the binary32 image of `x`. -/
def f32Bytes (x : Rat) : List Byte := le 4 (f32Of x).toNat

/-- The value of `x` after one rounding to binary32. -/
def f32Round (x : Rat) : Rat := f32Val (f32Of x)

/-- The value of `x` after one rounding to binary64. -/
def f64Round (x : Rat) : Rat :=
  let n := x.num.natAbs
  if n = 0 then 0
  else
    let e := max (binExp n x.den) (-1022)
    let m : Int := scaleEven n x.den (52 - e)
    let m' : Int := if x.num < 0 then -m else m
    match e - 52 with
    | .ofNat j => mkRat (m' * 2 ^ j) 1
    | .negSucc j => mkRat m' (2 ^ (j + 1))

/-- The magnitude of `x`. -/
def rabs (x : Rat) : Rat := if x < 0 then -x else x

/-- `x` held within `lo` and `hi`. -/
def clamp (lo hi x : Rat) : Rat := if x < lo then lo else if hi < x then hi else x

/-- A polynomial, lowest coefficient first. -/
def poly (cs : List Rat) (x : Rat) : Rat := cs.foldr (fun c acc => c + x * acc) 0

/-- `x` raised to the `n`-th power. -/
def rpow (x : Rat) : Nat → Rat
  | 0 => 1
  | n + 1 => x * rpow x n

/-- The largest whole number whose square is at most `n`, by `fuel` Newton steps from above. -/
def isqrtGo : Nat → Nat → Nat → Nat
  | 0, _, r => r
  | f + 1, n, r => if r * r ≤ n then r else isqrtGo f n ((r + n / r) / 2)

/-- The whole square root of `n`. -/
def isqrt (n : Nat) : Nat :=
  if n = 0 then 0 else
  let r := isqrtGo (n.log2 + 2) n (2 ^ (n.log2 / 2 + 1))
  if (r + 1) * (r + 1) ≤ n then r + 1 else if n < r * r then r - 1 else r

/-- The square root of a non-negative number, rounded down in units of 2^-40 relative to its own exponent. -/
def rsqrt (x : Rat) : Rat :=
  if x ≤ 0 then 0
  else mkRat (isqrt (x.num.natAbs * x.den * 2 ^ 80)) (x.den * 2 ^ 40)

/-- The arc tangent of x from 0 to 1, in degrees: two halvings of the angle, then the series. -/
def arctanDeg (x : Rat) : Rat :=
  let half (y : Rat) : Rat := y / (1 + rsqrt (1 + y * y))
  let fine (y : Rat) : Rat := mkRat (roundEven (y.num.natAbs * 2 ^ 60) y.den) (2 ^ 60)
  let z := fine (half (fine (half x)))
  let q := z * z
  let s := poly [1, -1 / 3, 1 / 5, -1 / 7, 1 / 9, -1 / 11, 1 / 13, -1 / 15, 1 / 17, -1 / 19, 1 / 21, -1 / 23, 1 / 25] q
  4 * z * s * 180 * 1000000000000000 / 3141592653589793

/-- The angle of the point (x, y) against the first axis, in degrees above -180 to 180; 0 at the origin. -/
def angleDeg (x y : Rat) : Rat :=
  let a := rabs x
  let b := rabs y
  let t := if a = 0 && b = 0 then 0 else if b ≤ a then arctanDeg (b / a) else 90 - arctanDeg (a / b)
  let u := if x < 0 then 180 - t else t
  if y < 0 then -u else u

/-- The whole number nearest below or equal to a non-negative `x`. -/
def rfloorNat (x : Rat) : Nat := (x.num / (x.den : Int)).toNat

/-- The whole number below or equal to `x`. -/
def rfloor (x : Rat) : Int := x.num / (x.den : Int)

/-- `x` rounded to the nearest whole number, ties to even. -/
def rround (x : Rat) : Int :=
  let m := roundEven x.num.natAbs x.den
  if x.num < 0 then -(m : Int) else m

/-- The two's complement image of `i` in `n` bytes. -/
def leInt (n : Nat) (i : Int) : List Byte := le n (i % (2 ^ (8 * n) : Nat) : Int).toNat

/-- The signed number that `n`-byte two's complement bits `v` stand for. -/
def toSigned (n v : Nat) : Int := if v < 2 ^ (8 * n - 1) then v else (v : Int) - (2 ^ (8 * n) : Nat)

end Sys2Proof.Machine
end

