-- ==== Sys2Proof/Machine/ChannelState.lean ====
section
/-! DEFINITION. State of the channels: matrix, protection, reference checks, filter, results, supervision (chapters 4 to 6). -/

namespace Sys2Proof.Machine

/-- The result record of a channel (Table 5.9), with node times in full. -/
structure Result where
  value : Word32
  quality : Nat
  detail : Nat
  seq : Nat
  epoch : Nat
  tEnd : Micros
  tNext : Micros
  deriving DecidableEq, Repr

/-- The record of a channel that has produced nothing (Table 5.9, Reset). -/
def Result.initial : Result := ⟨f32NaN, 8, 1, 0, 0, 0, 0⟩

/-- The side on which a protection trip left the terminal (R153). -/
inductive Side where
  | none | above | below
  deriving DecidableEq, Repr

/-- One terminal as its protection keeps it (R152 to R154). -/
structure TermRun where
  /-- A trip has opened the terminal. -/
  opened : Bool
  side : Side
  /-- Physical time of the last trip. -/
  tripAt : Micros
  /-- Physical time of the last reconnection. -/
  reconnectAt : Option Micros
  /-- The 10 s wait is in force. -/
  longWait : Bool
  /-- Physical time since which the terminal has been inside its windows, while open. -/
  insideSince : Option Micros
  deriving DecidableEq, Repr

/-- A terminal that no trip has opened. -/
def TermRun.initial : TermRun := ⟨false, .none, 0, none, false, none⟩

/-- A result as a reference for other channels (R192): curve output, quality and T_END. -/
structure RefResult where
  curve : Rat
  quality : Nat
  tEnd : Micros
  deriving DecidableEq, Repr

/-- A LEAD_CAPTURE under way (R205). -/
structure LeadCapture where
  ticket : Ticket
  sum : Rat
  count : Nat
  deriving DecidableEq, Repr

/-- One channel as its bay engine runs it. -/
structure ChanRun where
  connA : Nat
  connB : Nat
  connC : Nat
  connD : Nat
  vA : Rat
  vB : Rat
  vC : Rat
  vD : Rat
  /-- IEX1 and IEX2 of the last passed reference check, µA. -/
  iEx : Option (Rat × Rat)
  refTime : Micros
  refFault : Bool
  matchFault : Bool
  /-- EXC_FAULT of DETAIL: the last reference check failed, and no passed one or COLD reset has followed (Table 5.10). -/
  excFault : Bool
  /-- Node time at which a reference check falls due. -/
  refDue : Option Micros
  /-- Node time at which a lead conversion falls due. -/
  leadDue : Option Micros
  /-- PROT_TRIP of Table 4.13. -/
  protTrip : Bool
  /-- TA to TD, 0 to 3. -/
  terms : Tbl TermRun
  tripCount : Nat
  /-- MODEM_IN_USE, 0xFF for none. -/
  modem : Nat
  /-- The filter has not yet given the result that ends at `tNext`. -/
  settling : Bool
  /-- When the converter has been awake over the last 10 s, latest first: the physical end of each time and its length, µs. -/
  woke : List (Micros × Nat)
  /-- The converter has been awake since the latest of them: its mode is continuous. -/
  awakeOn : Bool
  /-- Node time of the last restart of the filter. -/
  tRestart : Micros
  /-- t_H and t_AS of that restart (R174). -/
  restH : Nat
  restAs : Nat
  /-- T_NEXT, the next valid time. -/
  tNext : Micros
  /-- Node time at which the next result ends. -/
  nextEnd : Micros
  /-- Settled burst samples, V, latest first; under SWAP both sub-samples. -/
  samples : List (Rat × Rat)
  /-- Burst samples since the last part I, latest first (R444). -/
  fresh : List (Rat × Rat)
  /-- The last raw value, in the unit of x (R209). -/
  lastRaw : Rat
  /-- R_L of the last lead conversion. -/
  leadR : Option Rat
  leadHigh : Bool
  /-- The last accepted reference temperature and its T_END (R193). -/
  refAccepted : Option (Rat × Micros)
  /-- The reference result of a channel of another bay, as the last output transfer brought it (R192). -/
  refIn : Option RefResult
  /-- The result before the latest, as a reference for channels of the bay (R192). -/
  prevRef : Option RefResult
  cjFallback : Bool
  /-- Signal quantity x, the reference temperature used and the curve output y of the latest result. -/
  signal : Rat
  refT : Option Rat
  curve : Rat
  /-- IIN_LOOP: physical time since which the loop has carried 24.0 mA or more (R184). -/
  overSince : Option Micros
  /-- The latest result completed. -/
  latest : Result
  /-- An image write has published a value since the bay started. -/
  hasValue : Bool
  /-- VALUE as published before the first of the chain of restarts under way (R176). -/
  heldValue : Word32
  /-- A commit has changed records without a restart: the next result shows EPOCH_CHANGE (R513). -/
  epochDue : Bool
  /-- The latest result is to show EPOCH_CHANGE at its first image write. -/
  epochMark : Bool
  /-- Physical time at which the latest result was delivered (R201). -/
  deliveredAt : Micros
  capture : Option LeadCapture
  /-- Calibration requests not yet passed for this channel leave the old values in force (R518). -/
  calOld : Option CalCopy
  deriving DecidableEq, Repr

/-- A channel that is OFF and has never been tripped. -/
def ChanRun.initial : ChanRun where
  connA := 0
  connB := 0
  connC := 0
  connD := 0
  vA := 0
  vB := 0
  vC := 0
  vD := 0
  iEx := none
  refTime := 0
  refFault := false
  matchFault := false
  excFault := false
  refDue := none
  leadDue := none
  protTrip := false
  terms := []
  tripCount := 0
  modem := 255
  settling := false
  woke := []
  awakeOn := false
  tRestart := 0
  restH := 0
  restAs := 0
  tNext := 0
  nextEnd := 0
  samples := []
  fresh := []
  lastRaw := 0
  leadR := none
  leadHigh := false
  refAccepted := none
  refIn := none
  prevRef := none
  cjFallback := false
  signal := 0
  refT := none
  curve := 0
  overSince := none
  latest := Result.initial
  hasValue := false
  heldValue := f32NaN
  epochDue := false
  epochMark := false
  deliveredAt := 0
  capture := none
  calOld := none

/-- What one impedance check found (Table 6.4): binary32 images. -/
structure Figures where
  zF1 : Word32
  phF1 : Word32
  zF2 : Word32
  phF2 : Word32
  zF3 : Word32
  phF3 : Word32
  cEst : Word32
  ins : Word32
  insF3 : Word32
  /-- R_L in use, 3-wire. -/
  lead : Word32
  deriving DecidableEq, Repr

/-- No figure. -/
def Figures.none : Figures :=
  ⟨f32NaN, f32NaN, f32NaN, f32NaN, f32NaN, f32NaN, f32NaN, f32NaN, f32NaN, f32NaN⟩

/-- One entry of the trend window: check time in node µs, the LEAD or LOOP figure, INS, C_EST. -/
structure TrendItem where
  time : Micros
  ll : Word32
  ins : Word32
  cap : Word32
  deriving DecidableEq, Repr

/-- Consecutive checks at which a figure's trend conditions held, and at which neither held (R221). -/
structure TrendRun where
  held : Nat
  clear : Nat
  deriving DecidableEq, Repr

/-- Consecutive raw values that failed, and that passed (R210). -/
structure RawRun where
  fails : Nat
  passes : Nat
  deriving DecidableEq, Repr

/-- How a compliance trip is classified (R209). -/
inductive CompKind where
  | none | broken | drift
  deriving DecidableEq, Repr

/-- A check under way: its node times, the SUP_CHECKs it answers, and the fields of the supervision setup in force as it
began (R226). -/
structure CheckRun where
  began : Micros
  endAt : Micros
  tickets : List Ticket
  setup : List Nat
  deriving DecidableEq, Repr

/-- Supervision of one channel (Tables 6.11, 6.12). -/
structure SupRun where
  /-- STATUS, Table 6.12, without NO_BASE. -/
  status : Nat
  /-- Baseline capture is under way (NO_BASE). -/
  noBase : Bool
  checks : Nat
  tCheck : Micros
  fig : Figures
  baseLL : Word32
  baseIns : Word32
  baseCap : Word32
  baseCount : Nat
  /-- Figures taken into the baseline so far. -/
  baseItems : List TrendItem
  tProj : Word32
  /-- The trend window, latest first. -/
  window : List TrendItem
  runLL : TrendRun
  runIns : TrendRun
  runCap : TrendRun
  rawShort : RawRun
  rawLoop : RawRun
  pipB : RawRun
  pipC : RawRun
  comp : CompKind
  /-- Physical time of the last compliance trip. -/
  compAt : Micros
  /-- Consecutive raw values without a compliance trip since it. -/
  compClear : Nat
  due : Option Micros
  check : Option CheckRun
  /-- SUP_CHECK commands that wait for the check they made due. -/
  waiting : List Ticket
  /-- A 4-wire channel pips TC at its next burst sample, else TB (R211). -/
  pipTC : Bool
  /-- Node time at which the burst sample that a compliance trip discarded ends (R208). -/
  dropTo : Option Micros
  /-- HOLD has ended and no valid result has followed (R216). -/
  afterHold : Bool
  deriving DecidableEq, Repr

/-- Supervision of a channel that nothing has been checked on. -/
def SupRun.initial : SupRun where
  status := 0
  noBase := false
  checks := 0
  tCheck := 0
  fig := Figures.none
  baseLL := f32NaN
  baseIns := f32NaN
  baseCap := f32NaN
  baseCount := 0
  baseItems := []
  tProj := 0x7F800000#32
  window := []
  runLL := ⟨0, 0⟩
  runIns := ⟨0, 0⟩
  runCap := ⟨0, 0⟩
  rawShort := ⟨0, 0⟩
  rawLoop := ⟨0, 0⟩
  pipB := ⟨0, 0⟩
  pipC := ⟨0, 0⟩
  comp := .none
  compAt := 0
  compClear := 0
  due := none
  check := none
  waiting := []
  pipTC := false
  dropTo := none
  afterHold := false

/-- The state of a bay domain (Table 4.14 STATE). -/
inductive BayState where
  | off | starting | running | fault
  deriving DecidableEq, Repr

/-- STATE of Table 4.14. -/
def BayState.code : BayState → Nat
  | .off => 0 | .starting => 1 | .running => 2 | .fault => 3

end Sys2Proof.Machine
end

