-- ==== Sys2Proof/Machine/LinkState.lean ====
section
/-! DEFINITION. State of the Ponor rings, the redundant pair, the Toll partition and the trace (chapters 14, 15, 18, 19). -/

namespace Sys2Proof.Machine

/-- The ring states (Table 14.11 STATE). -/
inductive RingState where
  | off | opened | closed | noMaster
  deriving DecidableEq, Repr

/-- The port states (Table 14.7). -/
inductive PortState where
  | disabled | down | silent | miscabled | cut | up | crossed
  deriving DecidableEq, Repr

/-- The POLL frames of one CYCLE to one unit: how many came on each port, and how many were taken. -/
structure PollKey where
  unit : Nat
  onE : Nat
  onW : Nat
  taken : Nat
  deriving DecidableEq, Repr

/-- What a ring remembers of one source of frames (R413). -/
structure SrcKeys where
  src : Nat
  /-- Last CYCLE taken, per frame kind. -/
  cycles : Tbl Nat
  /-- Last 64 SEQ values of ACYC frames, latest first. -/
  seqs : List Nat
  /-- CYCLE of its latest POLL frames, by unit polled. -/
  pollCycle : Nat
  polls : List PollKey
  deriving DecidableEq, Repr

/-- A sender of DATA in the present cycle, with its rank. -/
structure Candidate where
  node : Nat
  prio : Nat
  deriving DecidableEq, Repr

/-- One ring, L or U. -/
structure RingRun where
  state : RingState
  units : Nat
  /-- NODE_ADDR and unit address of the master last heard. -/
  master : Nat
  masterUnit : Nat
  isMaster : Bool
  /-- A SYNC from a better candidate has arrived: the next cycle is not this unit's (R424). -/
  yielding : Bool
  tRing : Nat
  l0 : Nat
  polls : Nat
  budgetOver : Bool
  dups : Nat
  /-- Sources, the most recent first. -/
  keys : List SrcKeys
  /-- SEQ of the next ACYC frame this node originates. -/
  acycSeq : Nat
  /-- Cycles since the last SYNC. -/
  sinceSync : Nat
  /-- Cycles in a row in which this unit has been the best candidate, and in which the master has ranked below it. -/
  bestRun : Nat
  belowRun : Nat
  /-- Of the present cycle: wire bytes of DATA taken, units heard, senders of DATA, ports on which SYNC came. -/
  l0Acc : Nat
  unitsAcc : List Nat
  seen : List Candidate
  syncPorts : List Nat
  /-- CYCLE, HOPS and DIR of the SYNC that node time follows in this cycle. -/
  syncBest : Option (Nat × Nat × Bool)
  /-- ns of node time at which the own SYNC left. -/
  syncTx : Nat
  /-- Units known, the place of the rotation, and units whose last reply carried MORE (R421). -/
  known : List Nat
  turn : Nat
  moreUnits : List Nat
  /-- The limiter (R429): POLL frames naming this unit taken in this cycle, frames sent in it by kind, and frames withheld. -/
  polled : Nat
  sent : Tbl Nat
  withheld : Nat
  /-- Compatibility mode: CYCLE of the DATA last sent for the duty unit, and its ACYC frames not yet copied (R461). -/
  copiedCycle : Nat
  copies : List Frame
  deriving DecidableEq, Repr

/-- A ring that is not started. -/
def RingRun.initial : RingRun where
  state := .off
  units := 0
  master := 0
  masterUnit := 0
  isMaster := false
  yielding := false
  tRing := 0
  l0 := 0
  polls := 0
  budgetOver := false
  dups := 0
  keys := []
  acycSeq := 0
  sinceSync := 4
  bestRun := 0
  belowRun := 0
  l0Acc := 0
  unitsAcc := []
  seen := []
  syncPorts := []
  syncBest := none
  syncTx := 0
  known := []
  turn := 0
  moreUnits := []
  polled := 0
  sent := []
  withheld := 0
  copiedCycle := 0
  copies := []

/-- One port of a ring. -/
structure PortRun2 where
  state : PortState
  /-- The receiver has 1000BASE-X synchronisation. -/
  sync : Bool
  /-- Valid LINK frames in a row. -/
  linkRun : Nat
  /-- Physical time of the last valid LINK. -/
  linkAt : Micros
  /-- CYCLE and arrival, ns of node time, of the last LINK. -/
  rxOf : Nat
  tRx : Nat
  /-- CYCLE and departure, ns of node time, of the own last LINK frames, latest first. -/
  sent : List (Nat × Nat)
  neighbour : Nat
  nUnit : Nat
  nPort : Nat
  /-- The last 16 delays measured, ns, latest first. -/
  delays : List Int
  /-- Babble guard (R430): physical times of the last trip and of the last reopening, the hold in µs. -/
  cutAt : Micros
  reopenAt : Option Micros
  cutHold : Nat
  /-- Wire bytes of the neighbour's own frames in this cycle, and whether the cycle before exceeded the limit. -/
  bytes : Nat
  overPrev : Bool
  fcsErr : Nat
  cuts : Nat
  rx : Nat
  tx : Nat
  deriving DecidableEq, Repr

/-- A port that has received nothing (Table 14.14). -/
def PortRun2.initial : PortRun2 where
  state := .disabled
  sync := false
  linkRun := 0
  linkAt := 0
  rxOf := 0
  tRx := 0
  sent := []
  neighbour := 0
  nUnit := 0
  nPort := 255
  delays := []
  cutAt := 0
  reopenAt := none
  cutHold := 1000000
  bytes := 0
  overPrev := false
  fcsErr := 0
  cuts := 0
  rx := 0
  tx := 0

/-- One remote or output slot (Table 14.8). -/
structure RemoteSlot where
  kind : Nat
  stale : Bool
  relayed : Bool
  index : Nat
  data : List Byte
  rxCycle : Nat
  /-- Ring cycles since the last update. -/
  age : Nat
  deriving DecidableEq, Repr

/-- A slot that has taken nothing (Table 14.8, Reset). -/
def RemoteSlot.initial : RemoteSlot := ⟨0, true, false, 0, zeros 12, 0, 5⟩

/-- One frame waiting in a bridge queue (R432). -/
structure BridgeFrame where
  src : Nat
  dest : Nat
  seq : Nat
  payload : List Byte
  deriving DecidableEq, Repr

/-- A node summary seen on a ring, with the ring cycles begun since its arrival (R433). -/
structure Summary where
  node : Nat
  age : Nat
  bytes : List Byte
  deriving DecidableEq, Repr

/-- The Ponor link (chapter 14). -/
structure PonorSt where
  /-- Rings by number, 0 Local, 1 Uplink. -/
  rings : Tbl RingRun
  ports : Tbl PortRun2
  /-- Remote slots by r, and output slots by 1,024 + n, as last flipped. -/
  slots : Tbl RemoteSlot
  /-- The slots as the DATA frames of this ring cycle leave them. -/
  work : Tbl RemoteSlot
  /-- Node time at which the remote region flips next. -/
  flipAt : Option Micros
  /-- The slots as they stood at the latest sweep boundary, which a sweep begun later reads (R29). -/
  atSweep : Option (Micros × Tbl RemoteSlot)
  /-- Node time of the latest ring cycle start served (R43). -/
  cycleAt : Option Micros
  /-- NODE_ADDR and the RING_IDs in force (R435). -/
  nodeAddr : Nat
  ringIdL : Nat
  ringIdU : Nat
  addrClash : Bool
  /-- The ring and the unit address of the frame that set it (R434). -/
  clashRing : Nat
  clashUnit : Nat
  /-- Ring cycles since the last frame that clashed. -/
  clashFree : Nat
  /-- The wait of R416 has ended and this unit sends DATA. -/
  dataStarted : Bool
  /-- Ring cycles waited. -/
  dataWait : Nat
  /-- Busy answers of the data plane on their way to a ring (R39). -/
  busy : List Packet
  /-- ACYC frames on their way to the upper, and to the lower, ring. -/
  up : List BridgeFrame
  down : List BridgeFrame
  /-- Latest summaries of the Local ring's nodes. -/
  summaries : List Summary
  deriving DecidableEq, Repr

/-- A link that has carried nothing: defaults of Table 14.12 in force. -/
def PonorSt.initial : PonorSt where
  rings := []
  ports := []
  slots := []
  work := []
  flipAt := none
  atSweep := none
  cycleAt := none
  nodeAddr := 0x3FFF
  ringIdL := 1
  ringIdU := 2
  addrClash := false
  clashRing := 0
  clashUnit := 0
  clashFree := 0
  dataStarted := false
  dataWait := 0
  busy := []
  up := []
  down := []
  summaries := []

/-- What a unit reports of a sluice loop it drives (R80). -/
inductive LoopState where
  | sound | opened | shorted
  deriving DecidableEq, Repr

/-- The loop is faulty (R443). -/
def LoopState.faulty : LoopState → Bool
  | .sound => false | _ => true

/-- What a loop that carries `mA` is found to be (R80), `was` before: a released loop shows a short alone (log 250). -/
def LoopState.judge (was : LoopState) (asserted : Bool) (mA : Rat) : LoopState :=
  if 15 < mA then .shorted
  else if asserted then (if mA < 5 then .opened else .sound)
  else if was = .shorted then .sound else was

/-- What a unit of a pair is to its peer (Table 15.14 ROLE). -/
inductive Role where
  | solo | duty | standby | resync | none
  deriving DecidableEq, Repr

/-- ROLE of Table 15.14. -/
def Role.code : Role → Nat
  | .solo => 0 | .duty => 1 | .standby => 2 | .resync => 3 | .none => 4

/-- A claim on its way (R454). -/
structure Claiming where
  kind : Nat
  cause : Nat
  /-- Physical time of step 1. -/
  began : Micros
  deriving DecidableEq, Repr

/-- One unit's part of the redundant pair (chapter 15). -/
structure PairSt where
  /-- SLUICE_OWN is driven. -/
  own : Bool
  claimReq : Bool
  shutOut : Bool
  /-- Physical time at which SLUICE_SHUT_OUT was last asserted or released. -/
  shutAt : Micros
  /-- The unit that SLUICE_SHUT_OUT shut has not completed RESYNC since (R441). -/
  shutWait : Bool
  /-- The receivers: SLUICE_PEER and SLUICE_SHUT_IN. -/
  peerLine : Bool
  shutIn : Bool
  /-- The loops of SLUICE_OWN and SLUICE_SHUT_OUT are open or shorted. -/
  ownLoop : LoopState
  shutLoop : LoopState
  /-- Physical time of the last service of the sluice watchdog. -/
  servedAt : Micros
  /-- Physical time at which the peer line was last seen released. -/
  peerFreeAt : Micros
  /-- The peer line has been asserted without a break since the heartbeat was lost. -/
  lostAsserted : Bool
  /-- Physical time at which both lanes lost the heartbeat, while lost. -/
  lostAt : Option Micros
  faults : Nat
  named : Nat
  first : Nat
  /-- This unit is marked not eligible (R451, R453). -/
  marked : Bool
  declared : Bool
  cause : Nat
  step : Nat
  /-- RESYNC: granary tail bytes taken and own records discarded. -/
  tailBytes : Nat
  tailDiscarded : Nat
  refConfig : Nat
  refImage : Nat
  /-- The peer's IMAGE_CRC as it has last passed it, 0 before (R451; log 247). -/
  peerImage : Nat
  tSwitch : Nat
  switches : Nat
  hbMissed : Nat
  gapNs : Nat
  /-- A handover under way: physical time of its request. -/
  handover : Option Micros
  /-- The peer's last heartbeat, and physical times of the last valid one on the pair and packet lanes. -/
  hb : Option Heartbeat
  hbPairAt : Option Micros
  hbPktAt : Option Micros
  /-- Parts I and C travel on the packet lane; clean heartbeats on the pair lane since (R444). -/
  onPkt : Bool
  clean : Nat
  /-- Readback mismatches in a row, per channel (R449). -/
  readback : Tbl Nat
  /-- Disagreements in a row, per channel or point (R450). -/
  disagree : Tbl Nat
  claiming : Option Claiming
  /-- A claim that yielded to one made at the same time, with the physical time of the yield: it is made again (R438). -/
  yieldAt : Option Claiming
  /-- Physical time of the BOOT decision still to be made, or of its next try. -/
  decideAt : Option Micros
  /-- The numbers passed over at the last claim. -/
  gapFirst : Nat
  gapLast : Nat
  /-- Node time from which on parts I have come without a break (R459 step 6), and of the last one. -/
  partsFrom : Option Micros
  partAt : Micros
  /-- Parts I and C that the next control cycle works on (R445). -/
  partI : Option PartI
  partC : Option PartC
  /-- STATE, SUPPRESS and ACTIVE of the duty unit's alarm entries, by point, as part I has shown them (R450). -/
  peerPts : Tbl (Nat × Nat × Bool)
  /-- Node time at which a HANDOVER heartbeat came (R457). -/
  offered : Option Micros
  /-- A PAIR_CLEAR of this duty unit goes to the peer with the next part I (R463). -/
  clearing : Bool
  deriving DecidableEq, Repr

/-- A unit whose peer has never been heard. -/
def PairSt.initial : PairSt where
  own := false
  claimReq := false
  shutOut := false
  shutAt := 0
  shutWait := false
  peerLine := false
  shutIn := false
  ownLoop := .sound
  shutLoop := .sound
  servedAt := 0
  peerFreeAt := 0
  lostAsserted := false
  lostAt := none
  faults := 0
  named := 0
  first := 0xFFFF
  marked := false
  declared := false
  cause := 0
  step := 0
  tailBytes := 0
  tailDiscarded := 0
  refConfig := 0
  refImage := 0
  peerImage := 0
  tSwitch := 0
  switches := 0
  hbMissed := 0
  gapNs := 0
  handover := none
  hb := none
  hbPairAt := none
  hbPktAt := none
  onPkt := false
  clean := 0
  readback := []
  disagree := []
  claiming := none
  yieldAt := none
  decideAt := none
  gapFirst := 0
  gapLast := 0
  partsFrom := none
  partAt := 0
  partI := none
  partC := none
  peerPts := []
  offered := none
  clearing := false

/-- The partition states (Table 18.1). -/
inductive TollState where
  | absent | unsealed | sealed | broken
  deriving DecidableEq, Repr

/-- The code of Table 18.1. -/
def TollState.code : TollState → Nat
  | .absent => 0 | .unsealed => 1 | .sealed => 2 | .broken => 3

/-- One Toll log entry (Table 18.7). -/
structure TollEntry where
  no : Nat
  event : Nat
  sealNo : Nat
  time : Micros
  trusted : Bool
  args : List Byte
  chain : List Byte
  deriving DecidableEq, Repr

/-- One Toll point (Table 18.6). -/
structure TollPoint where
  total : Int
  totalFault : Int
  /-- What is left of the totals below one unit (R534). -/
  remainder : Rat
  remainderF : Rat
  /-- Update time and total, latest first, of the last 60 s. -/
  history : List (Micros × Int)
  quality : Nat
  faultNow : Bool
  unit : Nat
  seq : Nat
  tEnd : Micros
  /-- Last accepted temperature and count. -/
  temp : Option Rat
  count : Option Nat
  /-- Quantity since the fault began. -/
  faultQty : Int
  deriving DecidableEq, Repr

/-- A point that has measured nothing. -/
def TollPoint.initial : TollPoint := ⟨0, 0, 0, 0, [], 8, false, 0, 0, 0, none, none, 0⟩

/-- A Toll firmware image (R528, R545). -/
structure TollImage where
  major : Nat
  minor : Nat
  patch : Nat
  bytes : List Byte
  deriving DecidableEq, Repr

/-- The Toll partition (chapter 18). -/
structure TollSt where
  state : TollState
  sealNo : Nat
  log : List TollEntry
  /-- Entry numbers returned since the last entry was written (R543): intervals [a, b), rising and apart. -/
  read : List (Nat × Nat)
  logLow : Bool
  logFull : Bool
  switchOpen : Bool
  coverOpen : Bool
  /-- The seal watch: clock time of the opening latched while the core was off, and its cause. -/
  latched : Option (Nat × Nat)
  tSeal : Nat
  /-- The Toll parameter set as the store holds it, none before the first, its GEN and its records. -/
  set : Option (List Byte)
  gen : Nat
  params : Cfg
  /-- The Toll core runs its firmware, which passed verification after its last restart (R540). -/
  fwOk : Bool
  fw : TollImage
  /-- An image taken while UNSEALED, used after the next restart. -/
  fwNext : Option TollImage
  /-- The Toll calibration copied at sealing. -/
  cal : Tbl Word32
  pts : Tbl TollPoint
  /-- Clock time at which the logic domain last lost its supply, until the next restart. -/
  downAt : Option Nat
  /-- The checkpoint: totals and their clock time. -/
  checkTotals : List (Int × Int)
  checkAt : Micros
  /-- Physical time since which PEER_PRES has been tied, while SEALED. -/
  peerSince : Option Micros
  /-- Results of channels 0 to 63 as the Toll core holds them. -/
  results : Tbl Result
  deriving DecidableEq, Repr

/-- A partition that has never been sealed. -/
def TollSt.initial : TollSt where
  state := .unsealed
  sealNo := 0
  log := []
  read := []
  logLow := false
  logFull := false
  switchOpen := true
  coverOpen := false
  latched := none
  tSeal := 0
  set := none
  gen := 0
  params := []
  fwOk := false
  fw := ⟨0, 0, 0, []⟩
  fwNext := none
  cal := []
  pts := []
  downAt := none
  checkTotals := []
  checkAt := 0
  peerSince := none
  results := []

/-- The trace port and the performance counters (R554 to R557). -/
structure TraceSt where
  tseq : Nat
  /-- Bytes waiting in the trace buffer. -/
  waiting : Nat
  /-- Records dropped since the last DROPPED record, by class in the row order of Table 19.5. -/
  dropped : Tbl Nat
  /-- Records dropped since the last COLD or POR. -/
  droppedAll : Nat
  /-- The counters of Table 19.6 by ID, less UPTIME, which is formed at reading. -/
  counters : Tbl Nat
  deriving DecidableEq, Repr

/-- A trace port that has sent nothing. -/
def TraceSt.initial : TraceSt := ⟨0, 0, [], 0, []⟩

end Sys2Proof.Machine
end

