-- ==== Sys2Proof/Machine/NodeState.lean ====
section
/-! DEFINITION. State of the module, its supplies, resets, modes, governor, image regions and SFP cages (chapters 1 to 3). -/

namespace Sys2Proof.Machine

/-- The operating modes (Table 3.9). -/
inductive Mode where
  | dormant | boot | commission | duty | standby | resync | hold | safe
  deriving DecidableEq, Repr

/-- The mode code of Table 3.9. -/
def Mode.code : Mode → Nat
  | .dormant => 0 | .boot => 1 | .commission => 2 | .duty => 3
  | .standby => 4 | .resync => 5 | .hold => 6 | .safe => 7

/-- The mode a code of Table 3.9 names. -/
def Mode.ofCode : Nat → Option Mode
  | 0 => some .dormant | 1 => some .boot | 2 => some .commission | 3 => some .duty
  | 4 => some .standby | 5 => some .resync | 6 => some .hold | 7 => some .safe
  | _ => none

/-- The reset kinds (Table 3.6, Table 3.8 KIND). -/
inductive ResetKind where
  | warm | cold | por | mgmt | ring
  deriving DecidableEq, Repr

/-- KIND of Table 3.8. -/
def ResetKind.code : ResetKind → Nat
  | .warm => 1 | .cold => 2 | .por => 3 | .mgmt => 4 | .ring => 5

/-- The part (R2): without or with the Toll partition. -/
inductive Part where
  | m | mt
  deriving DecidableEq, Repr

/-- The WITHDRAW lamp (Table 2.4). -/
inductive Withdraw where
  | off | flash2 | steady | flash8
  deriving DecidableEq, Repr

/-- A dip under way (R104, R106). -/
structure Dip where
  /-- Node time of entry. -/
  entry : Micros
  /-- Physical time of entry. -/
  since : Micros
  /-- The mode at entry. -/
  mode : Mode
  minV : Rat
  minAt : Micros
  minA : Rat
  minB : Rat
  deriving DecidableEq, Repr

/-- One region of the point image: its update count and the node time of its flip (R35). -/
structure Region where
  count : Nat
  flip : Micros
  deriving DecidableEq, Repr

/-- One step the governor holds (Table 3.11). -/
inductive GovStep where
  /-- Step 1: channel n's rate lowered by one code. -/
  | rate (n : Nat)
  /-- Step 2: channel n's test-tone checks spaced at four times the interval. -/
  | space (n : Nat)
  /-- Step 3: the HART poll interval of channel n doubled. -/
  | poll (n : Nat)
  /-- Step 4: the dissipation alarm. -/
  | alarm
  deriving DecidableEq, Repr

/-- One SFP cage (R89 to R91). -/
structure Sfp where
  fitted : Bool
  refused : Bool
  vendor : List Byte
  partNo : List Byte
  serial : List Byte
  /-- Temperature, supply, laser bias, transmit power, receive power; empty where none are offered. -/
  diag : List Rat
  /-- Physical time of the latest report of the diagnostics (R90). -/
  diagAt : Option Micros
  deriving DecidableEq, Repr

/-- An empty cage. -/
def Sfp.none : Sfp := ⟨false, false, [], [], [], [], Option.none⟩

/-- The module supply supervision (Tables 3.1, 3.2, 3.14). -/
structure PowerSt where
  supply : Supply
  vRes : Rat
  vCell : Rat
  pD : Rat
  tF : Rat
  ovSet : Bool
  warnSet : Bool
  /-- The reset threshold is set. -/
  resetSet : Bool
  /-- Physical time at which the reset threshold was confirmed, while the logic domain is still on. -/
  resetAt : Option Micros
  /-- V_MOD has fallen below the reset threshold since the logic domain went off (R120). -/
  fell : Bool
  lostA : Bool
  lostB : Bool
  cellLow : Bool
  cellAbsent : Bool
  backupLow : Bool
  /-- Physical time of the last cell test. -/
  cellTestAt : Micros
  dip : Option Dip
  dipCount : Nat
  resetCount : Nat
  /-- Microseconds with the logic domain on, up to `onSince`. -/
  opMicros : Nat
  /-- Physical time since which the logic domain has been on, while it is. -/
  onSince : Option Micros
  deriving DecidableEq, Repr

/-- The governor (R121 to R126). -/
structure GovSt where
  /-- The steps held, newest first. -/
  steps : List GovStep
  /-- Per channel, the rate steps that its bay engine runs with (Table 5.3). -/
  inForce : Tbl Nat
  /-- Since when P_D has stayed at least 10 W below the budget. -/
  lowSince : Option Micros
  /-- Per channel, the physical time of its last released rate step. -/
  released : Tbl Nat
  /-- Physical time of the last governor period. -/
  tickAt : Micros
  deriving DecidableEq, Repr

/-- The module, its base and its mode (chapters 2 and 3). -/
structure NodeSt where
  part : Part
  mode : Mode
  /-- The mode HOLD returns to (R104); in BOOT after a reset, the mode before it. -/
  recorded : Mode
  /-- RESET_CAUSE (Table 3.8) with GOV_ACTIVE and CTRL_WINDOW, which are formed at reading, clear. -/
  cause : Word32
  /-- Physical time at which the control plane fault window ends, while armed (R111). -/
  ctrlWindow : Option Micros
  seatOpen : Bool
  /-- The node has run since power was applied (R58). -/
  hasRun : Bool
  withdraw : Withdraw
  /-- Physical time at which the seat contact of the running node opened (R61). -/
  seatOpenedAt : Micros
  nresetLow : Bool
  /-- Physical time of the last change of nRESET. -/
  nresetAt : Micros
  /-- A counted assertion holds the node in COLD reset (R113). -/
  nresetHold : Bool
  /-- BOOT waits for a supply warning to clear (R102). -/
  bootPaused : Bool
  /-- Physical time of the last COLD or POR reset (UPTIME, Table 19.6). -/
  resetTime : Micros
  /-- Node time at which the planes last left BOOT. -/
  runFrom : Micros
  /-- Node time at which a COLD or POR reset last started the planes. -/
  upFrom : Micros
  /-- Kind of the last reset that restarted the control plane. -/
  resetKind : ResetKind
  /-- Source code of that reset. -/
  resetSource : Nat
  /-- Commanded DORMANT: the wake time, clock µs, 0 for none (R120). -/
  wake : Option Nat
  /-- Physical times of the management restarts of the last 3,600 s (Table 3.7 code 0x0B). -/
  mgmtRestarts : List Micros
  /-- SLOT_ID latched (R75). -/
  slot : Nat
  /-- PAIR_POS latched: true for position B. -/
  posB : Bool
  slotPins : Nat
  posPin : Bool
  /-- PEER_PRES is tied: the other position holds a module. -/
  peerPres : Bool
  /-- The base has two positions (R56). -/
  pairBase : Bool
  /-- Straps tied to FG, per bay (open is the unlisted state, 1). -/
  strapTied : Tbl Bool
  /-- The straps as BOOT latched them (R236). -/
  strapLatched : Tbl Bool
  regChannel : Region
  regAlarm : Region
  regRemote : Region
  regService : Region
  regToll : Region
  ctrlStalled : Bool
  fabricStalled : Bool
  dataStalled : Bool
  mgmtStalled : Bool
  tollStalled : Bool
  /-- The control plane has stopped after a lockstep mismatch (R25). -/
  ctrlStopped : Bool
  overrunRun : Nat
  sweepDropRun : Nat
  /-- Node time of the latest control-cycle boundary served (R43). -/
  cycleAt : Option Micros
  /-- A wake event of commanded DORMANT stands while V_MOD is yet to clear the reset threshold (R101, R120). -/
  woken : Bool
  sfp : Tbl Sfp
  /-- Node fault in the service region (Table 1.6). -/
  nodeFault : Bool
  power : PowerSt
  gov : GovSt
  deriving DecidableEq, Repr

/-- The supply supervision at the first power-up. DESIGN CHOICE (log 3): the readings the manual leaves open stand at the
nominal 24 V, 3 V and 25 °C, the reservoir at the 5.0 V of its full charge; the counts are those of a new module. -/
def PowerSt.reset : PowerSt where
  supply := ⟨24, 24, 24⟩
  vRes := 5
  vCell := 3
  pD := 0
  tF := 25
  ovSet := false
  warnSet := false
  resetSet := false
  resetAt := none
  fell := false
  lostA := false
  lostB := false
  cellLow := false
  cellAbsent := false
  backupLow := false
  cellTestAt := 0
  dip := none
  dipCount := 0
  resetCount := 0
  opMicros := 0
  onSince := some 0

/-- A governor that holds no step. -/
def GovSt.reset : GovSt := ⟨[], [], none, [], 0⟩

/-- The module at the first power-up: in BOOT, RESET_CAUSE at its Reset values (Table 3.8: SOURCE 0x01, KIND 0x3). DESIGN
CHOICE (log 2): an EVT-512MT on a solo base with SLOT_ID 0, its seat contact closed and every strap open. -/
def NodeSt.reset : NodeSt where
  part := .mt
  mode := .boot
  recorded := .boot
  cause := 0x00013000#32
  ctrlWindow := none
  seatOpen := false
  hasRun := true
  withdraw := .off
  seatOpenedAt := 0
  nresetLow := false
  nresetAt := 0
  nresetHold := false
  bootPaused := false
  resetTime := 0
  runFrom := 0
  upFrom := 0
  resetKind := .por
  resetSource := 1
  wake := none
  mgmtRestarts := []
  slot := 0
  posB := false
  slotPins := 0
  posPin := false
  peerPres := false
  pairBase := false
  strapTied := []
  strapLatched := []
  regChannel := ⟨0, 0⟩
  regAlarm := ⟨0, 0⟩
  regRemote := ⟨0, 0⟩
  regService := ⟨0, 0⟩
  regToll := ⟨0, 0⟩
  ctrlStalled := false
  fabricStalled := false
  dataStalled := false
  mgmtStalled := false
  tollStalled := false
  ctrlStopped := false
  overrunRun := 0
  sweepDropRun := 0
  cycleAt := none
  woken := false
  sfp := []
  nodeFault := false
  power := PowerSt.reset
  gov := GovSt.reset

end Sys2Proof.Machine
end

