-- ==== Sys2Proof/Machine/OutputState.lean ====
section
/-! DEFINITION. State of outputs, HART modems, digital channels, lamps, bays and safety lanes (chapters 7 to 9). -/

namespace Sys2Proof.Machine

/-- STATE of an output (Table 7.11). -/
inductive OutMode where
  | off | following | holding | safe | strap | latched
  deriving DecidableEq, Repr

/-- The code of Table 7.11. -/
def OutMode.code : OutMode → Nat
  | .off => 0 | .following => 1 | .holding => 2 | .safe => 3 | .strap => 4 | .latched => 5

/-- A wave of a pulse generator: high for `high` from `start` and from each whole `period` before and after it, µs of physical time;
with a period of 0 the level is low throughout. -/
structure Wave where
  start : Rat
  period : Rat
  high : Rat
  deriving DecidableEq, Repr

/-- The pulse generator in an output stage (R244 to R246, R277): the wave it drives, and the one it drives from an edge to come. -/
structure Pulse where
  wave : Wave
  next : Option (Rat × Wave)
  /-- Locked to the bay oscillator; otherwise it runs from its own. -/
  locked : Bool
  deriving DecidableEq, Repr

/-- One output channel: analog, repeater, switched or lamp (Tables 7.11, 7.12). A switched output drives 1 or 0, a lamp
0 OFF, 1 ON, 2 FLASH. -/
structure OutRun where
  mode : OutMode
  /-- Table 7.12 without HART_BUSY; SRC_FAIL of a switched output or lamp also stands here. -/
  status : Nat
  /-- The field-side latch holds the output connections and `drive` (R136). -/
  latched : Bool
  /-- FUNCTION and RANGE with which the latch took its value (R237). -/
  stage : Option (Nat × Nat)
  /-- The value the stage drives or would drive. -/
  drive : Rat
  /-- The generator of a repeater, and that of a lamp that goes on with its character without the bay engine. -/
  pulse : Option Pulse
  /-- STATE reads 0x00 since a WARM reset (Table 7.11). -/
  forgot : Bool
  /-- State and value transferred in this cycle, applied at the next boundary (R28). -/
  xfer : Option (OutMode × Rat)
  /-- The last u formed from the source. -/
  lastU : Rat
  /-- The last accepted command v. -/
  lastV : Option Rat
  /-- Physical time of the last accepted command, or of the setup's start. -/
  writtenAt : Micros
  /-- Physical time since which the source has failed. -/
  failSince : Option Micros
  /-- The value was latched at the start of HOLD and its inputs have not settled since (R105). -/
  keepLatched : Bool
  meas : Rat
  /-- The stage's own measure of its current, mA, and of TA, V. -/
  iTerm : Rat
  vTerm : Rat
  /-- The rail at physical time `railAt`, and the target it slews to from there (R229). -/
  vRail : Rat
  railAt : Micros
  railGoal : Rat
  /-- The terminal voltage that a value loaded at a boundary needs, and the physical time until which the rail is kept for it
  (R230). -/
  aim : Option (Rat × Micros)
  iReach : Rat
  iHeld : Option Rat
  pStage : Rat
  /-- Physical time since which I_REACH has stayed 0.5 mA above I_HELD. -/
  reachSince : Option Micros
  /-- Physical time since which the command has been within reach. -/
  withinSince : Option Micros
  /-- Results in a row out of, and within, the readback tolerance. -/
  devOut : Nat
  devIn : Nat
  deriving DecidableEq, Repr

/-- An output that nothing has set. -/
def OutRun.initial : OutRun where
  mode := .off
  status := 0
  latched := false
  stage := none
  drive := 0
  pulse := none
  forgot := false
  xfer := none
  lastU := 0
  lastV := none
  writtenAt := 0
  failSince := none
  keepLatched := false
  meas := 0
  iTerm := 0
  vTerm := 0
  vRail := 0
  railAt := 0
  railGoal := 0
  aim := none
  iReach := 0
  iHeld := none
  pStage := 0
  reachSince := none
  withinSince := none
  devOut := 0
  devIn := 0

/-- STATE as OUT_READ and DIO_READ show it (Table 7.11). -/
def OutRun.shown (o : OutRun) : Nat := if o.forgot then 0 else o.mode.code

/-- HART device states (Table 7.7). -/
inductive HartDevState where
  | found | missing | replaced | burst
  deriving DecidableEq, Repr

/-- The code of Table 7.7. -/
def HartDevState.code : HartDevState → Nat
  | .found => 1 | .missing => 2 | .replaced => 3 | .burst => 4

/-- A HART device on the list (Table 7.14). -/
structure HartDev where
  addr : Nat
  state : HartDevState
  /-- The unique identifier that the last scan recorded. -/
  uid : Nat
  /-- The unique identifier of its latest command 0 reply, under which it is addressed. -/
  liveUid : Nat
  devStatus : Nat
  iLoop : Word32
  pv : Word32
  sv : Word32
  tv : Word32
  qv : Word32
  units : Nat
  /-- Physical time of the last valid reply. -/
  repliedAt : Option Micros
  /-- Physical time of the start of its last poll. -/
  polledAt : Option Micros
  deriving DecidableEq, Repr

/-- What a HART transaction is for. -/
inductive HartKind where
  | scan | park | poll | seek | endBurst
  | pass (tk : Ticket)
  deriving DecidableEq, Repr

/-- A HART transaction under way (R253). -/
structure HartTrans where
  kind : HartKind
  addr : Nat
  /-- The unique identifier that a long frame carries. -/
  uid : Nat
  cmd : Nat
  data : List Byte
  /-- Repeats already sent. -/
  tries : Nat
  /-- Physical time of the end of the last request. -/
  sentAt : Micros
  /-- Every attempt so far drew a frame with an error. -/
  allBad : Bool
  deriving DecidableEq, Repr

/-- A pass-through waiting for the modem (R257). -/
structure HartPass where
  ticket : Ticket
  addr : Nat
  cmd : Nat
  data : List Byte
  deriving DecidableEq, Repr

/-- The HART work of one channel. -/
structure HartRun where
  devices : List HartDev
  trans : Option HartTrans
  queue : List HartPass
  /-- The scan under way: next address. -/
  scan : Option Nat
  scanTickets : List Ticket
  /-- Addresses still to be parked (R251). -/
  park : List Nat
  /-- Addresses to be sent command 109, with the identifiers that their burst frames carry (R255). -/
  endBurst : List (Nat × Nat)
  /-- Identifiers of the devices that have been sent command 109 (R255). -/
  told : List Nat
  lastPolled : Nat
  deriving DecidableEq, Repr

/-- No device known and no work. -/
def HartRun.initial : HartRun := ⟨[], none, [], none, [], [], [], [], 0⟩

/-- A switch with the retry rule of R271. -/
structure SwitchRun where
  closed : Bool
  /-- Physical time since which it has stayed closed, while closed. -/
  closedAt : Micros
  /-- Open after a trip, since this physical time. -/
  trippedAt : Option Micros
  /-- Physical time of the last trip. -/
  lastTrip : Option Micros
  /-- Physical time of the last retry. -/
  retriedAt : Option Micros
  longWait : Bool
  deriving DecidableEq, Repr

/-- A switch that is open. -/
def SwitchRun.initial : SwitchRun := ⟨false, 0, none, none, none, false⟩

/-- The class of a supervised line (Table 8.3). -/
inductive LineClass where
  | none | closed | opened | broken
  deriving DecidableEq, Repr

/-- A digital, counter or frequency channel, or the switch of a switched output or lamp (Tables 8.15, 8.16). -/
structure DioRun where
  /-- Table 8.16 without SRC_FAIL. -/
  status : Nat
  /-- The counted state, none before the first. -/
  state : Option Bool
  /-- The last sample, and how many in a row have shown it. -/
  sample : Bool
  run : Nat
  /-- Node time of the first sample of the run, and of the last decision. -/
  runAt : Micros
  pulseAt : Option Micros
  line : LineClass
  lineCand : LineClass
  lineRun : Nat
  changes : Nat
  switch : SwitchRun
  supply : SwitchRun
  count : Nat
  captured : Nat
  /-- The unit's own count at its last boundaries, with their control cycle counts, latest first (R268). -/
  caps : List (Nat × Nat)
  /-- Edge stamps in units of 10 ns: the last edge at or before the previous gate end, and the last edge. -/
  edge0 : Option Nat
  edgeN : Option Nat
  periods : Nat
  freq : Rat
  /-- Node time of the previous gate end. -/
  gateEnd : Micros
  iSw : Rat
  /-- Turn-offs of the last 10 s: physical time and energy in the clamp, mJ (R273). -/
  demag : List (Micros × Rat)
  deriving DecidableEq, Repr

/-- A digital channel that has sampled nothing. -/
def DioRun.initial : DioRun where
  status := 0
  state := none
  sample := false
  run := 0
  runAt := 0
  pulseAt := none
  line := .none
  lineCand := .none
  lineRun := 0
  changes := 0
  switch := SwitchRun.initial
  supply := SwitchRun.initial
  count := 0
  captured := 0
  caps := []
  edge0 := none
  edgeN := none
  periods := 0
  freq := 0
  gateEnd := 0
  iSw := 0
  demag := []

/-- The lamp states (Table 8.8). -/
inductive LampState where
  | off | offUnproven | offProven | offDark | lit | partialLit | dark | overCurrent | tripped | extV | unlearned
  deriving DecidableEq, Repr

/-- The code of Table 8.8. -/
def LampState.code : LampState → Nat
  | .off => 0 | .offUnproven => 1 | .offProven => 2 | .offDark => 3 | .lit => 5 | .partialLit => 6
  | .dark => 7 | .overCurrent => 8 | .tripped => 9 | .extV => 10 | .unlearned => 11

/-- A LAMP_LEARN under way (R282). -/
structure LampLearn where
  ticket : Ticket
  sumI : Rat
  sumV : Rat
  count : Nat
  deriving DecidableEq, Repr

/-- One lamp (Table 8.18). -/
structure LampRun where
  state : LampState
  /-- The class of the last sample and how many in a row have given it (Table 8.9). -/
  cand : LampState
  run : Nat
  /-- The lamp is in an on-phase or on. -/
  phaseOn : Bool
  /-- Physical time of the last switch-on and of the last switch-off. -/
  onAt : Micros
  offAt : Micros
  /-- Physical time since which the lamp has been commanded ON without a change. -/
  commandAt : Micros
  iLamp : Rat
  iExp : Rat
  iCold : Rat
  tTest : Micros
  /-- The last cold test failed and its repeat is due. -/
  testFailed : Bool
  /-- Physical time at which the next cold test falls due. -/
  testDue : Micros
  darkCount : Nat
  tripCount : Nat
  learn : Option LampLearn
  deriving DecidableEq, Repr

/-- A lamp that has done nothing. -/
def LampRun.initial : LampRun where
  state := .off
  cand := .off
  run := 0
  phaseOn := false
  onAt := 0
  offAt := 0
  commandAt := 0
  iLamp := 0
  iExp := 0
  iCold := 0
  tTest := 0
  testFailed := false
  testDue := 0
  darkCount := 0
  tripCount := 0
  learn := none

/-- One bay: domain, field supply, claim latch and safe-state timer (Tables 4.14, 8.19). -/
structure BayRun where
  state : BayState
  /-- Node time at which the bay reported running. -/
  startedAt : Micros
  /-- The claim latch, on the field side (R139, R439), and the physical time at which a peer's claim last cleared it. -/
  claim : Bool
  yieldedAt : Option Micros
  fsOv : Bool
  fsWarn : Bool
  fsLow : Bool
  fsLost : Bool
  senseOpen : Bool
  ssExpired : Bool
  latchLost : Bool
  /-- FS+ passed the latch floor with no bay engine to report it (R284). -/
  latchOwed : Bool
  ssCount : Nat
  /-- Expiries that the bay engine has counted and not yet reported (R287). -/
  ssOwed : Nat
  /-- The timer has run out since the last sync pulse. -/
  ssRun : Bool
  /-- Physical time of the last sync pulse received. -/
  syncAt : Micros
  vFs : Rat
  vFsMin : Rat
  iFs : Rat
  iFsPeak : Rat
  /-- FS+ current samples of the last 10 s, latest first. -/
  iHist : List Rat
  overload : Bool
  shedding : Bool
  /-- Physical time since which the current has exceeded 8.0 A. -/
  over8Since : Option Micros
  pBay : Rat
  /-- The channel whose reference check last used the bus, and the node time at which it ended. -/
  refUser : Option (Nat × Micros)
  /-- The bay's connector sensor, °C. -/
  baySensor : Rat
  deriving DecidableEq, Repr

/-- A bay whose domain is off. -/
def BayRun.initial : BayRun where
  state := .off
  startedAt := 0
  claim := false
  yieldedAt := none
  fsOv := false
  fsWarn := false
  fsLow := false
  fsLost := false
  senseOpen := false
  ssExpired := false
  latchLost := false
  latchOwed := false
  ssCount := 0
  ssOwed := 0
  ssRun := false
  syncAt := 0
  vFs := 24
  vFsMin := 24
  iFs := 0
  iFsPeak := 0
  iHist := []
  overload := false
  shedding := false
  over8Since := none
  pBay := 0
  refUser := none
  baySensor := 25

/-- The lane states (Table 9.1). -/
inductive LaneState where
  | off | unproven | ready | armed | tripped
  deriving DecidableEq, Repr

/-- The code of Table 9.1. -/
def LaneState.code : LaneState → Nat
  | .off => 0 | .unproven => 1 | .ready => 2 | .armed => 3 | .tripped => 4

/-- One lane leg as the control plane evaluates it (R292, R293, R298). -/
structure LegRun where
  demand : Bool
  fault : Bool
  proven : Bool
  /-- New results in a row beyond the limit. -/
  count : Nat
  /-- SEQ of the last result evaluated. -/
  seq : Nat
  /-- The leg has been evaluated since the last reset. -/
  seen : Bool
  tDemand : Micros
  /-- Node time since which the leg has been out of fault. -/
  soundSince : Option Micros
  /-- The last demand state out of fault, which serves the record of T_DEMAND alone (R293). -/
  held : Bool
  /-- Node time at which the fault began with which the leg degrades its lane (R294). -/
  degradeFrom : Option Micros
  deriving DecidableEq, Repr

/-- A leg not yet evaluated. -/
def LegRun.initial : LegRun := ⟨false, false, false, 0, 0, false, 0, none, false, none⟩

/-- One drive line's lane latch for one lane (R299). -/
structure DriveLine where
  /-- The close bit the core sent last. -/
  sent : Bool
  /-- The close bit of the latest valid word. -/
  bit : Bool
  /-- Physical time of the latest valid word. -/
  validAt : Micros
  /-- The watchdog has run out. -/
  expired : Bool
  /-- The switch is closed. -/
  closed : Bool
  deriving DecidableEq, Repr

/-- A line that has carried nothing. -/
def DriveLine.initial : DriveLine := ⟨false, false, 0, false, false⟩

/-- One safety lane (Table 9.8). -/
structure LaneRun where
  state : LaneState
  driveDisc : Bool
  outFault : Bool
  stuckLs : Bool
  stuckHs : Bool
  legDisc : Bool
  degraded : Bool
  tripCause : Nat
  legA : LegRun
  legB : LegRun
  tTrip : Micros
  tripCount : Nat
  pulseCount : Nat
  /-- Node time of the last pulse test and whether it opened HS. -/
  pulseAt : Micros
  pulseHs : Bool
  /-- Node time since which the legs have differed, or agreed. -/
  differSince : Option Micros
  agreeSince : Option Micros
  /-- The first core's line (HS) and the second core's line (LS). -/
  hs : DriveLine
  ls : DriveLine
  /-- Words in a row in which the lines disagreed. -/
  disagree : Nat
  deriving DecidableEq, Repr

/-- A lane that is OFF. -/
def LaneRun.initial : LaneRun where
  state := .off
  driveDisc := false
  outFault := false
  stuckLs := false
  stuckHs := false
  legDisc := false
  degraded := false
  tripCause := 0
  legA := LegRun.initial
  legB := LegRun.initial
  tTrip := 0
  tripCount := 0
  pulseCount := 0
  pulseAt := 0
  pulseHs := false
  differSince := none
  agreeSince := none
  hs := DriveLine.initial
  ls := DriveLine.initial
  disagree := 0

/-- The status words of a channel as they stand in the channel region (R315); a lane's flags stand in `flags` under 512 + L. -/
structure Words where
  /-- Table 6.12. -/
  sup : Nat
  /-- Table 7.12. -/
  out : Nat
  /-- Table 8.16. -/
  dio : Nat
  /-- STATE of Table 8.8. -/
  lamp : Nat
  /-- Byte 3 of Table 4.13, or bytes 2 and 3 of Table 9.8. -/
  flags : Nat
  deriving DecidableEq, Repr

/-- No status bit set. -/
def Words.initial : Words := ⟨0, 0, 0, 0, 0⟩

/-- The runtime tables of channels, bays and lanes. Keys are channel, bay and lane numbers. -/
structure FieldSt where
  chan : Tbl ChanRun
  sup : Tbl SupRun
  out : Tbl OutRun
  hart : Tbl HartRun
  dio : Tbl DioRun
  lamp : Tbl LampRun
  bay : Tbl BayRun
  lane : Tbl LaneRun
  /-- The channel region as last flipped. -/
  image : Tbl Result
  /-- The status words of the same update. -/
  words : Tbl Words
  /-- The channel region and words at the latest sweep boundary that a flip has followed, with the boundary's node time (R29). -/
  atSweep : Option (Micros × Tbl Result × Tbl Words)
  /-- The channel region written but not yet flipped, with its flip time. -/
  imageNext : Option (Micros × Tbl Result × Tbl Words)
  deriving DecidableEq, Repr

/-- Every channel OFF. -/
def FieldSt.initial : FieldSt := ⟨[], [], [], [], [], [], [], [], [], [], none, none⟩

end Sys2Proof.Machine
end

