-- ==== Sys2Proof/Machine/ServiceState.lean ====
section
/-! DEFINITION. State of the alarm points and groups, the Hopper Bell, the Granary and the clock (chapters 10 to 13). -/

namespace Sys2Proof.Machine

/-- The alarm states (Table 10.4). -/
inductive AlState where
  | normal | actUnack | actAck | rtnUnack
  deriving DecidableEq, Repr

/-- The code of Table 10.4. -/
def AlState.code : AlState → Nat
  | .normal => 0 | .actUnack => 1 | .actAck => 2 | .rtnUnack => 3

/-- The state a code of Table 10.4 names. -/
def AlState.ofCode : Nat → AlState
  | 1 => .actUnack | 2 => .actAck | 3 => .rtnUnack | _ => .normal

/-- RANK of Table 10.4. -/
def AlState.rank : AlState → Nat
  | .normal => 1 | .actUnack => 4 | .actAck => 3 | .rtnUnack => 2

/-- The unacknowledged states. -/
def AlState.unack : AlState → Bool
  | .actUnack => true | .rtnUnack => true | _ => false

/-- The states of an active alarm. -/
def AlState.act : AlState → Bool
  | .actUnack => true | .actAck => true | _ => false

/-- One alarm point as the fabric runs it (Tables 10.11, 10.12). -/
structure PtRun where
  blocked : Bool
  /-- SHELVE_LEFT, minutes, kept through every event (R326). -/
  shelveLeft : Nat
  /-- Kept through every event (R327). -/
  inhibited : Bool
  /-- SUPPRESS as the last sweep showed it. -/
  suppress : Nat
  priority : Nat
  state : AlState
  active : Bool
  inputBad : Bool
  frozen : Bool
  paused : Bool
  timing : Bool
  raiseSeq : Nat
  epoch : Nat
  /-- The condition before its delays. -/
  cond : Bool
  /-- Count of the running delay, ms. -/
  delay : Nat
  /-- Start time of the first sweep since which the block input has been false. -/
  blockFalse : Option Micros
  /-- RATE samples, latest first. -/
  samples : List Rat
  input : Word32
  inputQ : Nat
  tChange : Micros
  /-- Raises since manufacture. -/
  raises : Nat
  /-- Start time of the sweep of the latest raise. -/
  raisedAt : Micros
  /-- A commit has changed the setup and the delays restart at the next sweep (R319). -/
  restart : Bool
  /-- Start time of the sweep in which this point was last worked on. -/
  sweptAt : Micros
  deriving DecidableEq, Repr

/-- A point of KIND OFF that never raised. -/
def PtRun.initial : PtRun where
  blocked := false
  shelveLeft := 0
  inhibited := false
  suppress := 0
  priority := 0
  state := .normal
  active := false
  inputBad := false
  frozen := false
  paused := false
  timing := false
  raiseSeq := 0
  epoch := 0
  cond := false
  delay := 0
  blockFalse := none
  samples := []
  input := f32NaN
  inputQ := 0
  tChange := 0
  raises := 0
  raisedAt := 0
  restart := false
  sweptAt := 0

/-- A group entry (Table 11.1). -/
structure GrpEntry where
  state : AlState
  priority : Nat
  unackPrio : Nat
  inputBad : Bool
  frozen : Bool
  suppressed : Bool
  empty : Bool
  activeCount : Nat
  unackCount : Nat
  raises : Nat
  epoch : Nat
  suppCount : Nat
  deriving DecidableEq, Repr

/-- A group without children. -/
def GrpEntry.initial : GrpEntry := ⟨.normal, 0, 0, false, false, false, true, 0, 0, 0, 0, 0⟩

/-- What the sweep has to apply to one point, in the order taken (R323, R326, R327, R341). -/
inductive PtOp where
  | ack (raiseSeq : Nat)
  | shelve (minutes : Nat)
  | inhibit (on : Bool)
  | grpAck (minPrio : Nat) (tSeen : Nat)
  deriving DecidableEq, Repr

/-- A record on its way into the intake (R37): no SEQ yet. -/
structure Submission where
  code : Nat
  time : Micros
  payload : List Byte
  deriving DecidableEq, Repr

/-- A sweep result not yet flipped (R29): its flip time, the groups it formed, its records and the replies that wait for it.
Points stand in `AlarmSt.pts`. -/
structure AlarmNext where
  flip : Micros
  grps : Tbl GrpEntry
  recs : List Submission
  replies : List (Ticket × Nat × List Byte)
  deriving DecidableEq, Repr

/-- A command on its way into the points of a sweep (R323, R341); those left in a frozen point wait (R332). -/
structure SweepCmd where
  op : PtOp
  /-- The point, or the group, that the command names. -/
  target : Nat
  /-- Points still to be worked on. -/
  points : List Nat
  /-- Points acknowledged. -/
  count : Nat
  status : Nat
  /-- ORIGIN of Table 12.3. -/
  origin : Nat
  ticket : Option Ticket
  deriving DecidableEq, Repr

/-- The alarm evaluation fabric (chapters 10 and 11). -/
structure AlarmSt where
  pts : Tbl PtRun
  grps : Tbl GrpEntry
  /-- The alarm region as flipped last. -/
  imgPts : Tbl PtRun
  imgGrps : Tbl GrpEntry
  next : Option AlarmNext
  /-- Points frozen for a phased change (R510). -/
  frozen : List Nat
  /-- Physical time at which the freeze began, less the time spent in HOLD. -/
  frozenAt : Micros
  /-- The freeze is to end at the first sweep at or after this node time. -/
  thawAt : Option Micros
  /-- The group tree in use while a phased change is applied: PARENT and ENABLE of the old configuration (R511). -/
  tree : Option Cfg
  waiting : List SweepCmd
  /-- Group acknowledgements from panels on their way to the fabric: the boundary that takes it, group, T_SEEN, slot. -/
  panelAcks : List (Micros × Nat × Nat × Nat)
  /-- Node time of the latest boundary at which the fabric had no power (R45). -/
  offAt : Micros
  /-- Start time of the sweep under way or last. -/
  sweepAt : Micros
  deriving DecidableEq, Repr

/-- No point configured. -/
def AlarmSt.initial : AlarmSt := ⟨[], [], [], [], none, [], 0, none, none, [], [], 0, 0⟩

/-- Escalation stages (R345). -/
inductive Stage where
  | idle | stage1 | stage2 | attend | stage3
  deriving DecidableEq, Repr

/-- The stage code (R345). -/
def Stage.code : Stage → Nat
  | .idle => 0 | .stage1 => 1 | .stage2 => 2 | .attend => 3 | .stage3 => 4

/-- The stage a code names. -/
def Stage.ofCode : Nat → Stage
  | 1 => .stage1 | 2 => .stage2 | 3 => .attend | 4 => .stage3 | _ => .idle

/-- Dead-man states (Table 11.5). -/
inductive DmState where
  | off | armed | prewarn | expired
  deriving DecidableEq, Repr

/-- The code of Table 11.5. -/
def DmState.code : DmState → Nat
  | .off => 0 | .armed => 1 | .prewarn => 2 | .expired => 3

/-- The dead-man state a code names. -/
def DmState.ofCode : Nat → DmState
  | 1 => .armed | 2 => .prewarn | 3 => .expired | _ => .off

/-- The panel keys (Table 11.10). -/
inductive Key where
  | ack | silence | accept | dmOn | dmReset | dmOff | manned | unmanned
  deriving DecidableEq, Repr

/-- The key a code of Table 11.10 names. -/
def Key.ofCode : Nat → Option Key
  | 1 => some .ack | 2 => some .silence | 3 => some .accept | 4 => some .dmOn | 5 => some .dmReset
  | 6 => some .dmOff | 7 => some .manned | 8 => some .unmanned | _ => none

/-- A key event noted and not yet taken (R356). -/
structure KeyEvent where
  eventNo : Nat
  key : Key
  view : Nat
  deriving DecidableEq, Repr

/-- One panel slot's running state (R354 to R356). -/
structure PanelRun where
  /-- Failed polls in a row on each bus. -/
  failA : Nat
  failB : Nat
  /-- Passed polls in a row on each bus. -/
  okA : Nat
  okB : Nat
  missing : Bool
  /-- EVENT_NO of the last key noted, none before the first. -/
  noted : Option Nat
  keyTaken : Nat
  keyResult : Nat
  silenced : Bool
  /-- RAISES of the panel's group at the last tick. -/
  raises : Nat
  key : Option KeyEvent
  deriving DecidableEq, Repr

/-- A panel slot that has answered nothing. -/
def PanelRun.initial : PanelRun := ⟨0, 0, 0, 0, false, none, 0, 0, false, 0, none⟩

/-- A STATUS frame waiting for its reply on one bus: slot, SEQ, physical time of its end. -/
structure PanelWait where
  slot : Nat
  seq : Nat
  sentAt : Micros
  deriving DecidableEq, Repr

/-- The Hopper Bell (R342 to R357). -/
structure BellSt where
  stage : Stage
  /-- Watch mode UNMANNED, nonvolatile. -/
  unmanned : Bool
  dm : DmState
  /-- DM_LEFT, ticks of 100 ms. -/
  dmLeft : Nat
  duty : Nat
  called : Nat
  /-- The duty engineer the roster named at the last tick with trusted time. -/
  rosterDuty : Nat
  /-- The stage timer, ticks of 100 ms left, none where none runs. -/
  timer : Option Nat
  /-- States of the system alarms (Table 11.3). -/
  sys : Tbl AlState
  /-- The same in the service region, as of its latest flip (R340, R342). -/
  sysImage : Tbl AlState
  /-- Node time of each system alarm's raise. -/
  sysRaised : Tbl Nat
  /-- A system alarm that counts as a call has raised since the last tick. -/
  sysCall : Bool
  /-- DEAD_MAN has raised since the last tick. -/
  dmRaised : Bool
  /-- CALL_GROUP and its RAISES at the last tick. -/
  prevGroup : Nat
  prevRaises : Nat
  overrideEng : Nat
  overrideUntil : Option Nat
  panels : Tbl PanelRun
  waitA : Option PanelWait
  waitB : Option PanelWait
  /-- Physical time of the end of the last frame on each bus (R354). -/
  busEndA : Micros
  busEndB : Micros
  nextA : Nat
  nextB : Nat
  seqA : Nat
  seqB : Nat
  /-- Physical time of the last state message to the peer (R357). -/
  syncAt : Micros
  /-- Node time of the last tick. -/
  tickAt : Micros
  /-- The last state received from the duty unit and its physical time of arrival. -/
  peerAt : Micros
  deriving DecidableEq, Repr

/-- The Hopper Bell before HB_ENABLE is first set. -/
def BellSt.initial : BellSt where
  stage := .idle
  unmanned := false
  dm := .off
  dmLeft := 0
  duty := 255
  called := 255
  rosterDuty := 255
  timer := none
  sys := []
  sysImage := []
  sysRaised := []
  sysCall := false
  dmRaised := false
  prevGroup := 0
  prevRaises := 0
  overrideEng := 255
  overrideUntil := none
  panels := []
  waitA := none
  waitB := none
  busEndA := 0
  busEndB := 0
  nextA := 0
  nextB := 0
  seqA := 0
  seqB := 0
  syncAt := 0
  tickAt := 0
  peerAt := 0

/-- A Granary record without its LEN and COMMIT words, which follow from it (Table 12.2). -/
structure GrnRec where
  code : Nat
  seq : Nat
  time : Micros
  payload : List Byte
  deriving DecidableEq, Repr

/-- The submission ports of the intake (R37). -/
inductive GrnPort where
  | control | data | management | toll
  deriving DecidableEq, Repr

/-- PORT of the LOSS record (Table 12.3). -/
def GrnPort.code : GrnPort → Nat
  | .control => 0 | .data => 1 | .management => 2 | .toll => 3

/-- One intake port: records waiting, and the refused counts by event code. -/
structure PortRun where
  queue : List Submission
  refused : Tbl Nat
  deriving DecidableEq, Repr

/-- A token bucket (R368), with the millisecond of node time of its last refill, and the flood of its code (R369). -/
structure Bucket where
  tokens : Rat
  at_ : Nat
  flood : Bool
  suppressed : Nat
  tFirst : Micros
  tLast : Micros
  /-- Physical time of the flood's beginning or of its last SUMMARY. -/
  since : Micros
  deriving DecidableEq, Repr

/-- One sector of the store (R359). -/
structure Sector where
  /-- The 32 bytes of Table 12.1 as its opening programmed them, empty where the sector is erased. -/
  header : List Byte
  erases : Nat
  /-- The unbroken run of valid records. -/
  records : List GrnRec
  /-- Bytes used, header and closed pages included. -/
  used : Nat
  deriving DecidableEq, Repr

/-- A sector that has never been opened. -/
def Sector.initial : Sector := ⟨[], 0, [], 0⟩

/-- A freeze of the store (R373). -/
structure Freeze where
  holder : Nat
  oldest : Nat
  newest : Nat
  /-- Physical times of its beginning and of the last renewal of its lease. -/
  began : Micros
  lease : Micros
  deriving DecidableEq, Repr

/-- The Granary (chapter 12). -/
structure GranarySt where
  ports : Tbl PortRun
  /-- Staged records, oldest first, each with the physical time of its staging. -/
  staged : List (Micros × GrnRec)
  /-- Staged records, the oldest, that a body pass has programmed whole and no commit pass yet (R362). -/
  bodies : Nat
  /-- Bytes of the staged record after those that a full page already holds. -/
  carry : Nat
  stagedPeak : Nat
  sectors : Tbl Sector
  /-- The sector records go into. -/
  sector : Nat
  openings : Nat
  /-- Physical time at which a sector was last opened, while the one after it is yet to be erased. -/
  eraseDue : Option Micros
  nextSeq : Nat
  buckets : Tbl Bucket
  freeze : Option Freeze
  charged : Nat
  eraseTotal : Nat
  maxErases : Nat
  restraint : Bool
  suppressed : Nat
  lost : Nat
  torn : Nat
  /-- Physical time of the last WEAR record. -/
  wearAt : Micros
  /-- The staging of a withdrawal is yet to be written (R60). -/
  urgent : Bool
  /-- Recovery has not yet run since the reset (R376). -/
  recovering : Bool
  /-- The next SEQ since the reset comes from the store, not from backup RAM (R377). -/
  fromStore : Bool
  /-- Records, each with its port, that a node held in cold reset submits once it is released (R116). -/
  owed : List (Nat × Submission)
  deriving DecidableEq, Repr

/-- SOURCE of the clock (Table 13.1). -/
inductive ClkSource where
  | free | ring | time | host | millpond
  deriving DecidableEq, Repr

/-- The code of SOURCE. -/
def ClkSource.code : ClkSource → Nat
  | .free => 0 | .ring => 1 | .time => 2 | .host => 3 | .millpond => 4

/-- A session's read shadow (R388). -/
structure ClkShadow where
  session : Nat
  /-- Physical time at which the freeze began. -/
  began : Micros
  block : List Byte
  deriving DecidableEq, Repr

/-- A session's write staging (R389): bytes 0x20 to 0x37 of Table 13.1. -/
structure ClkStaging where
  session : Nat
  /-- Physical time of its first write. -/
  began : Micros
  fields : List Byte
  deriving DecidableEq, Repr

/-- A step of node time that waits for the next sweep boundary (R398). -/
structure StepPending where
  /-- Microseconds to add, a multiple of 10,000. -/
  amount : Int
  /-- Nanoseconds to slew after it. -/
  rest : Int
  /-- The step comes from an apply: OLD, NEW and SESSION of its record. -/
  apply : Option (Nat × Nat × Nat)
  deriving DecidableEq, Repr

/-- The clock, node time and backup RAM (chapter 13). -/
structure ClockSt where
  /-- The millpond clock, µs. -/
  clock : Nat
  rangeEnd : Bool
  oscStop : Bool
  lowBak : Bool
  /-- The hold that repeats its second, until node time reaches it again: LEAP_NOW (R401). -/
  leapEnd : Option Micros
  /-- FREE, RING, TIME or HOST; MILLPOND is formed at reading. -/
  source : ClkSource
  /-- Locked to TIME, and to RING. -/
  timeLock : Bool
  ringLock : Bool
  /-- TRUSTED as last recorded. -/
  trusted : Bool
  snap : Nat
  shadows : List ClkShadow
  staging : List ClkStaging
  /-- Sessions whose staging has lapsed and whose W_RESULT says so. -/
  lapsed : List Nat
  /-- W_RESULT by session, 1 where not listed. -/
  wResult : Tbl Nat
  /-- Nanoseconds still to be slewed. -/
  slew : Int
  /-- Nanoseconds slewed that do not yet make a microsecond of node time. -/
  frac : Int
  step : Option StepPending
  /-- PPS: node stamp of the last edge in ns, whether a sentence has labelled it, labelled edges in a row, the last label. -/
  ppsStamp : Option Int
  ppsAt : Micros
  ppsLabelled : Bool
  labelRun : Nat
  lastLabel : Nat
  /-- Physical time of the last labelled edge. -/
  labelAt : Micros
  /-- Physical time of the last synchronisation from the ring. -/
  ringAt : Micros
  ppsEdges : Nat
  senOk : Nat
  senBad : Nat
  steps : Nat
  /-- Last measured offset, ns. -/
  offset : Int
  /-- Backup RAM (Table 13.5): BR_MAGIC is good. -/
  brMagic : Bool
  /-- NEXT_SEQ_INV is the ones' complement of NEXT_SEQ. -/
  seqIntact : Bool
  nextSeq : Nat
  modeReq : Bool
  dmSaved : DmState
  leapAt : Nat
  lastLock : Nat
  user : List Byte
  deriving DecidableEq, Repr

/-- An empty store (R377: a first power-up). At the management port wait the RESET record, the MODE record of DORMANT to BOOT and
the BOOT_CHECK record of an empty live bank (R110, R506). -/
def GranarySt.reset : GranarySt where
  ports := [(2, ⟨[⟨0x010, 0, le 4 0x00013000⟩, ⟨0x012, 0, le 4 0x0100⟩, ⟨0x1C3, 0, le 8 0x00FF0001⟩], []⟩)]
  staged := []
  bodies := 0
  carry := 0
  stagedPeak := 0
  sectors := []
  sector := 0
  openings := 0
  eraseDue := none
  nextSeq := 0
  buckets := []
  freeze := none
  charged := 0
  eraseTotal := 0
  maxErases := 0
  restraint := false
  suppressed := 0
  lost := 0
  torn := 0
  wearAt := 0
  urgent := false
  recovering := true
  fromStore := true
  owed := []

/-- The clock at the first power-up: Table 13.1 and Table 13.5 at their Reset values. -/
def ClockSt.reset : ClockSt where
  clock := 0
  rangeEnd := false
  oscStop := true
  lowBak := false
  leapEnd := none
  source := .free
  timeLock := false
  ringLock := false
  trusted := false
  snap := 0
  shadows := []
  staging := []
  lapsed := []
  wResult := []
  slew := 0
  frac := 0
  step := none
  ppsStamp := none
  ppsAt := 0
  ppsLabelled := false
  labelRun := 0
  lastLabel := 0
  labelAt := 0
  ringAt := 0
  ppsEdges := 0
  senOk := 0
  senBad := 0
  steps := 0
  offset := 0
  brMagic := true
  seqIntact := false
  nextSeq := 0
  modeReq := false
  dmSaved := .off
  leapAt := 0
  lastLock := 0
  user := zeros 64

end Sys2Proof.Machine
end

