-- ==== Sys2Proof/Machine/State.lean ====
section
/-! DEFINITION. The state of the block, the reasons a command can stop, and the state right after the first power-up. -/

namespace Sys2Proof.Machine

/-- What the manual has the unit report without naming a reply or a record that carries it (log 197). -/
inductive Report where
  /-- The identity of the SFP module fitted in a cage (R90). -/
  | sfpIdentity (port : Nat) (vendor part serial : List Byte)
  /-- The diagnostics of a cage's module: temperature, supply, laser bias, transmit power, receive power (R90). -/
  | sfpDiag (port : Nat) (d : List Rat)
  /-- FS_SENSE of a bay, unconnected or connected (R68). -/
  | fsSense (bay : Nat) (isOpen : Bool)
  deriving DecidableEq, Repr

/-- What a command sends out of the unit. -/
inductive Emission where
  /-- A reply or a notification packet on its way to its sender. -/
  | packet (p : Packet)
  /-- A Ponor frame of a kind (Table 14.2) out of a port. -/
  | frame (kind : Nat) (port : Nat) (f : Frame)
  /-- A panel frame on bus A (false) or B (true). -/
  | panel (busB : Bool) (bytes : List Byte)
  /-- A HART request on a channel. -/
  | hart (n : Nat) (bytes : List Byte)
  /-- A trace record. -/
  | trace (bytes : List Byte)
  /-- A message to the peer on the pair or packet lane. -/
  | peer (what : Nat) (bytes : List Byte)
  /-- Parts I and C of a control cycle to the peer (Table 15.3), on the pair lane or, where `pkt`, the packet lane, with the CRC-32 of the
  frame (R444). -/
  | partI (pkt : Bool) (m : PartI) (crc : Nat)
  | partC (pkt : Bool) (m : PartC) (crc : Nat)
  /-- A heartbeat with its CRC-32 on the pair lane or, where `pkt`, the packet lane (R444). -/
  | beat (pkt : Bool) (bytes : List Byte)
  /-- The session table passed to the peer (R484). -/
  | sessions (t : List SessCopy)
  /-- What SVC answers besides packets (R94): an ARP reply for the address, an ICMP echo reply with its data. -/
  | arp (address : Nat)
  | echo (data : List Byte)
  | report (r : Report)
  deriving DecidableEq, Repr

/-- The block: the commands that wait, and everything the manual gives the unit. -/
structure State where
  /-- Commands not yet taken, first in, first out. -/
  pending : List Instr
  /-- What the last command sent. -/
  out : List Emission
  /-- The model's own: the count of free values drawn (log 1). -/
  free : Nat
  /-- Physical time since the first power-up, µs. -/
  now : Micros
  /-- Node time at `now`, µs (R43). -/
  node : Micros
  nd : NodeSt
  host : HostSt
  cfg : CfgSt
  field : FieldSt
  alarm : AlarmSt
  bell : BellSt
  grn : GranarySt
  clk : ClockSt
  ponor : PonorSt
  pair : PairSt
  toll : TollSt
  trace : TraceSt
  deriving DecidableEq, Repr

/-- Why the model stops on a command. -/
inductive Fault where
  /-- The operands are none that the unit's surroundings can give (`Instr.wellFormed` fails). Safe: such a command
  cannot occur. -/
  | illFormed
  deriving DecidableEq, Repr

/-- Why the model has no meaning for a command. -/
inductive Refusal where
  /-- The command has no meaning yet; raised by Dispatch alone. Safe: nothing is claimed of it. -/
  | notModelled (mnemonic : String)
  deriving DecidableEq, Repr

/-- The unit right after the power-on reset of a first power-up (R109, Tables 3.8, 13.1, 13.5; logs 1 to 4). -/
def State.reset : State where
  pending := []
  out := []
  free := 0
  now := 0
  node := 0
  nd := NodeSt.reset
  host := HostSt.reset
  cfg := CfgSt.reset
  field := FieldSt.initial
  alarm := AlarmSt.initial
  bell := BellSt.initial
  grn := GranarySt.reset
  clk := ClockSt.reset
  ponor := PonorSt.initial
  pair := PairSt.initial
  toll := TollSt.initial
  trace := TraceSt.initial

end Sys2Proof.Machine
end

