-- ==== Sys2Proof/Machine/Params.lean ====
section
/-! DEFINITION. The parameter space: every PID, its width, its default and the check its value passes alone (R500, R501,
and the setup tables and parameter tables of each chapter). -/

namespace Sys2Proof.Machine

/-- The image of a real number as a parameter value. -/
def f32n (x : Rat) : Nat := (f32Of x).toNat

/-- What a parameter's value must satisfy taken alone. -/
inductive PCheck where
  /-- Any value of the field's width. -/
  | any
  /-- Whole numbers from lo to hi, and the values listed besides. -/
  | range (lo hi : Nat) (also : List Nat)
  /-- Only these bits may be set; the others are RESERVED (R20). -/
  | mask (m : Nat)
  /-- A KIND up to k in bits [31:24] and 16 bits below (R417, R419). -/
  | kinds (k : Nat)
  /-- binary32 from lo to hi. -/
  | real (lo hi : Rat)
  /-- binary32, finite. -/
  | finite
  /-- binary32, finite, lo or above. -/
  | least (lo : Rat)
  /-- binary32, finite and non-zero. -/
  | nonzero
  /-- binary32, finite, 0.0 or above. -/
  | nonneg
  /-- int32 from lo to hi. -/
  | int (lo hi : Int)
  deriving Repr

/-- The value passes the check. -/
def PCheck.ok (c : PCheck) (v : Nat) : Bool :=
  let w := BitVec.ofNat 32 v
  match c with
  | .any => true
  | .range lo hi also => (lo ≤ v && v ≤ hi) || also.contains v
  | .mask m => v &&& m == v
  | .kinds k => v &&& 0xFF00FFFF == v && decide (v / 16777216 ≤ k)
  | .real lo hi => f32Finite w && decide (lo ≤ f32Val w) && decide (f32Val w ≤ hi)
  | .finite => f32Finite w
  | .least lo => f32Finite w && decide (lo ≤ f32Val w)
  | .nonzero => f32Finite w && decide (f32Val w ≠ 0)
  | .nonneg => f32Finite w && decide (0 ≤ f32Val w)
  | .int lo hi => decide (lo ≤ toSigned 4 v) && decide (toSigned 4 v ≤ hi)

/-- One field of a setup: its parameter index, its place in the setup record, its width in bytes, its default and its
check. -/
structure PField where
  index : Nat
  off : Nat
  len : Nat
  dflt : Nat
  check : PCheck
  deriving Repr

/-- The setups that are staged whole. -/
inductive Subj where
  | ch | meas | curve | sup | out | hart | dio | lamp | bay | lane | pt | grp
  deriving DecidableEq, Repr

/-- The parameter of field i of object k (R166, R203, R226, R258, R289, R311, R333, R358). -/
def Subj.pid (j : Subj) (k i : Nat) : Nat :=
  match j with
  | .ch => 0x02010000 + 128 * k + i
  | .meas => 0x02100000 + 32 * k + i
  | .curve => 0x02120000 + 32 * k + i
  | .sup => 0x02200000 + 32 * k + i
  | .out => 0x02300000 + 32 * k + i
  | .hart => 0x02400000 + 32 * k + i
  | .dio => 0x02500000 + 32 * k + i
  | .lamp => 0x02600000 + 32 * k + i
  | .bay => 0x02700000 + 16 * k + i
  | .lane => 0x02800000 + 32 * k + i
  | .pt => (0x1020 + i) * 65536 + k
  | .grp => (0x1040 + i) * 65536 + k

/-- How many objects of the kind there are. -/
def Subj.count : Subj → Nat
  | .bay => 16 | .lane => 32 | .pt => 65536 | .grp => 16384 | _ => 512

/-- Bytes of the object number that begins the setup record. -/
def Subj.keyLen : Subj → Nat
  | .bay => 1 | .lane => 1 | _ => 2

/-- Bytes of the whole setup record. -/
def Subj.size : Subj → Nat
  | .ch => 40 | .meas => 40 | .curve => 84 | .sup => 28 | .out => 56 | .hart => 12 | .dio => 24 | .lamp => 36
  | .bay => 4 | .lane => 44 | .pt => 60 | .grp => 24

/-- The fields of each setup (Tables 4.12, 5.16, 5.17, 6.10, 7.10, 7.13, 8.13, 8.14, 8.17, 9.6, 10.10, 11.2). -/
def Subj.fields : Subj → List PField
  | .ch => [⟨0, 2, 1, 0, .range 0 0x12 []⟩, ⟨1, 3, 1, 0, .any⟩, ⟨2, 4, 1, 0, .any⟩, ⟨3, 5, 1, 0, .any⟩,
      ⟨4, 6, 1, 0, .range 0 10 []⟩, ⟨5, 7, 1, 1, .mask 3⟩, ⟨6, 8, 1, 0xFF, .range 0 7 [0xFE, 0xFF]⟩, ⟨7, 10, 2, 0, .any⟩,
      ⟨8, 12, 2, 10, .range 1 3600 []⟩, ⟨9, 16, 24, 0, .any⟩]
  | .meas => [⟨0, 2, 1, 0, .any⟩, ⟨1, 3, 1, 0, .any⟩, ⟨2, 4, 2, 0, .range 0 511 []⟩, ⟨3, 6, 1, 1, .mask 3⟩,
      ⟨4, 8, 2, 10, .range 1 3600 []⟩, ⟨5, 10, 2, 60, .range 0 3600 []⟩, ⟨6, 12, 4, f32n 25, .real (-50) 125⟩,
      ⟨7, 16, 4, 0, .real 0 200⟩, ⟨8, 20, 4, f32n 50, .real (f32Round (1 / 10)) 200⟩, ⟨9, 24, 4, f32n 1, .nonzero⟩,
      ⟨10, 28, 4, 0, .finite⟩, ⟨11, 32, 8, 0, .any⟩]
  | .curve => [⟨0, 4, 4, 0, .finite⟩, ⟨1, 8, 4, 0, .finite⟩] ++
      (List.range 18).map fun k => ⟨2 + k, 12 + 4 * k, 4, 0, .finite⟩
  | .sup => [⟨0, 2, 1, 0x17, .mask 0x1F⟩, ⟨1, 3, 1, 0, .range 0 4 []⟩, ⟨2, 4, 2, 3600, .range 60 65535 []⟩,
      ⟨3, 6, 1, 24, .range 8 64 []⟩, ⟨4, 7, 1, 50, .range 10 100 []⟩, ⟨5, 8, 2, 720, .any⟩, ⟨6, 12, 4, 0, .nonneg⟩,
      ⟨7, 16, 4, 0, .nonneg⟩, ⟨8, 20, 4, f32n 100000, .nonneg⟩, ⟨9, 24, 4, f32n 100, .nonneg⟩]
  | .out => [⟨0, 2, 1, 0, .range 0 2 []⟩, ⟨1, 3, 1, 0, .range 0 2 []⟩, ⟨2, 4, 2, 0, .range 0 511 []⟩, ⟨3, 6, 1, 0, .range 0 2 []⟩,
      ⟨4, 7, 1, 1, .mask 1⟩, ⟨5, 8, 2, 0, .range 0 10000 []⟩, ⟨6, 10, 2, 0, .range 20 60000 [0]⟩, ⟨7, 12, 4, 0, .finite⟩,
      ⟨8, 16, 4, 0, .finite⟩, ⟨9, 20, 4, 0, .finite⟩, ⟨10, 24, 4, 0, .finite⟩, ⟨11, 28, 4, 0, .finite⟩,
      ⟨12, 32, 4, 0, .finite⟩, ⟨13, 36, 4, 0, .finite⟩, ⟨14, 40, 4, 0, .finite⟩, ⟨15, 44, 4, 0, .finite⟩,
      ⟨16, 48, 4, 1000, .range 100 10000000 []⟩, ⟨17, 52, 4, f32n 1, .real (f32Round (1 / 10)) 10⟩]
  | .hart => [⟨0, 2, 1, 0, .range 0 2 []⟩, ⟨1, 3, 1, 15, .range 1 15 []⟩, ⟨2, 4, 2, 5, .range 1 3600 []⟩,
      ⟨3, 6, 1, 2, .range 0 5 []⟩, ⟨4, 7, 1, 5, .range 5 20 []⟩, ⟨5, 8, 1, 1, .mask 1⟩]
  | .dio => [⟨0, 2, 1, 0, .range 0 2 []⟩, ⟨1, 3, 1, 0, .range 0 2 []⟩, ⟨2, 4, 2, 0, .range 0 511 []⟩, ⟨3, 6, 1, 0x12, .mask 0xFE⟩,
      ⟨4, 7, 1, 3, .any⟩, ⟨5, 8, 2, 0, .range 0 10000 []⟩, ⟨6, 10, 2, 0, .range 20 60000 [0]⟩, ⟨7, 12, 4, f32n 1, .nonzero⟩,
      ⟨8, 16, 2, 100, .range 10 10000 []⟩, ⟨9, 18, 2, 200, .range 1 10000 []⟩, ⟨10, 20, 2, 10, .range 5 200 []⟩]
  | .lamp => [⟨0, 2, 1, 0, .range 0 1 []⟩, ⟨1, 3, 1, 0, .range 0 2 []⟩, ⟨2, 4, 2, 0, .range 0 511 []⟩, ⟨3, 6, 1, 0, .range 0 3 []⟩,
      ⟨4, 7, 1, 1, .mask 1⟩, ⟨5, 8, 1, 8, .range 2 16 []⟩, ⟨6, 9, 1, 50, .range 10 90 []⟩, ⟨7, 10, 1, 85, .range 20 99 []⟩,
      ⟨8, 11, 1, 130, .range 101 250 []⟩, ⟨9, 12, 2, 0, .range 5 500 [0]⟩, ⟨10, 14, 2, 0, .range 0 10000 []⟩,
      ⟨11, 16, 2, 0, .range 20 60000 [0]⟩, ⟨12, 18, 2, 500, .range 50 60000 []⟩, ⟨13, 20, 2, 3000, .any⟩,
      ⟨14, 22, 2, 0, .any⟩, ⟨15, 24, 4, 0, .nonneg⟩, ⟨16, 28, 4, f32n 24, .real 18 32⟩, ⟨17, 32, 4, 0, .nonneg⟩]
  | .bay => [⟨0, 2, 2, 100, .range 5 10000 []⟩]
  | .lane => [⟨0, 1, 1, 8, .mask 0x1F⟩, ⟨1, 2, 2, 0, .range 0 511 []⟩, ⟨2, 4, 2, 0, .range 0 511 []⟩,
      ⟨3, 6, 2, 0, .range 0 511 []⟩, ⟨4, 8, 4, 0, .finite⟩, ⟨5, 12, 4, 0, .nonneg⟩, ⟨6, 16, 4, 0, .nonneg⟩,
      ⟨7, 20, 2, 1000, .range 100 60000 []⟩, ⟨8, 22, 1, 1, .range 1 16 []⟩, ⟨9, 23, 1, 24, .range 1 72 []⟩,
      ⟨10, 24, 2, 20, .range 5 100 []⟩, ⟨11, 26, 2, 10, .range 1 3600 []⟩, ⟨12, 28, 16, 0, .any⟩]
  | .pt => [⟨0, 2, 1, 0, .any⟩, ⟨1, 3, 1, 3, .range 1 4 []⟩, ⟨2, 4, 2, 0, .any⟩, ⟨3, 6, 2, 0, .mask 0x3FFF⟩,
      ⟨4, 8, 2, 0x20, .mask 0xFF⟩, ⟨5, 10, 1, 0, .any⟩, ⟨6, 12, 2, 0, .any⟩, ⟨7, 14, 2, 0, .any⟩, ⟨8, 16, 2, 0, .any⟩,
      ⟨9, 18, 2, 0, .range 0 3600 []⟩, ⟨10, 20, 2, 480, .range 0 1440 []⟩, ⟨11, 22, 2, 100, .range 1 7500 []⟩,
      ⟨12, 24, 4, 0, .finite⟩, ⟨13, 28, 4, 0, .nonneg⟩, ⟨14, 32, 4, 0, .any⟩, ⟨15, 36, 2, 0, .any⟩, ⟨16, 38, 2, 0, .any⟩,
      ⟨17, 40, 2, 0, .any⟩, ⟨18, 42, 2, 0, .any⟩, ⟨19, 44, 16, 0, .any⟩]
  | .grp => [⟨0, 2, 2, 0, .mask 0x3FFF⟩, ⟨1, 4, 1, 0, .mask 1⟩, ⟨2, 8, 16, 0, .any⟩]

/-- The field of a setup with a parameter index. -/
def Subj.field (j : Subj) (i : Nat) : Option PField := j.fields.find? (·.index == i)

/-- The setup, object and field index that a PID of the setup groups names. -/
def Subj.ofPid (pid : Nat) : Option (Subj × Nat × Nat) :=
  let hi := pid / 65536
  let lo := pid % 65536
  let at32 (j : Subj) (n : Nat) : Option (Subj × Nat × Nat) := if lo / 32 < n then some (j, lo / 32, lo % 32) else none
  if hi = 0x0201 then some (.ch, lo / 128, lo % 128)
  else if hi = 0x0210 then at32 .meas 512
  else if hi = 0x0212 then at32 .curve 512
  else if hi = 0x0220 then at32 .sup 512
  else if hi = 0x0230 then at32 .out 512
  else if hi = 0x0240 then at32 .hart 512
  else if hi = 0x0250 then at32 .dio 512
  else if hi = 0x0260 then at32 .lamp 512
  else if hi = 0x0270 then if lo / 16 < 16 then some (.bay, lo / 16, lo % 16) else none
  else if hi = 0x0280 then at32 .lane 32
  else if 0x1020 ≤ hi && hi < 0x1034 then some (.pt, lo, hi - 0x1020)
  else if 0x1040 ≤ hi && hi < 0x1043 then if lo < 16384 then some (.grp, lo, hi - 0x1040) else none
  else none

/-- Default RATE and DEPTH of an event code's rate limit (Table 12.4, R404, R434, R462, R499), none for a code that is
exempt. -/
def rateDefault (code : Nat) : Option (Nat × Nat) :=
  if code = 0x080 then some (20000, 400000)
  else if code = 0x041 then some (20, 1024)
  else if code = 0x040 || code = 0x042 || code = 0x043 || code = 0x044 || code = 0x047 then some (10, 64)
  else if code = 0x046 then some (5, 64)
  else if code = 0x045 then some (2, 20)
  else if code = 0x013 || code = 0x014 then some (5, 50)
  else if code = 0x082 then some (10, 100)
  else if code = 0x103 then some (1, 10)
  else if code = 0x140 || code = 0x141 || code = 0x143 || code = 0x144 || code = 0x145 then some (5, 50)
  else if code = 0x181 then some (5, 50)
  else if code = 0x240 || code = 0x242 then some (5, 50)
  else if code = 0x241 then some (20, 200)
  else none

/-- A uint32 parameter. -/
def u32 (d : Nat) (c : PCheck) : Option PField := some ⟨0, 0, 4, d, c⟩

/-- An IPv4 address is unicast: neither 0, nor multicast, nor broadcast. -/
def unicast (a : Nat) : Bool := decide (0x01000000 ≤ a) && decide (a < 0xE0000000)

/-- The parameters outside the setups (Tables 3.15, 11.14, 12.5, 13.9, 14.12, 15.15, 16.13, 17.14, 19.7). Fields given
"per field" have the least width that holds their range (log 7). -/
def globalParam (pid : Nat) : Option PField :=
  let lo := pid % 65536
  match pid / 65536 with
  | 0x0300 =>
    if lo = 1 then u32 10000 (.range 1000 60000 [])
    else if lo = 2 then u32 (f32n 110) (.real 40 110)
    else if 0x1000 ≤ lo && lo ≤ 0x11FF then u32 (f32n (5 / 2)) (.least (5 / 2))
    else none
  | 0x1100 =>
    match lo with
    | 1 => u32 0 (.range 0 1 [])
    | 2 => u32 0 (.range 0 0x3FFF [])
    | 3 => u32 3 (.range 1 4 [])
    | 4 => u32 60 (.range 10 600 [])
    | 5 => u32 180 (.range 10 900 [])
    | 6 => u32 300 (.range 60 1800 [])
    | 7 => u32 1800 (.range 300 3600 [])
    | 8 => u32 180 (.range 30 600 [])
    | 9 => u32 3 (.mask 3)
    | 10 => u32 0 (.int (-720) 840)
    | 16 => u32 115200 (.range 9600 1000000 [])
    | 17 => u32 115200 (.range 9600 1000000 [])
    | 18 => u32 0 (.mask 3)
    | 19 => u32 0 (.mask 3)
    | _ => none
  | 0x1101 =>
    if lo < 64 then
      if lo % 4 = 0 then some ⟨0, 0, 16, 0, .any⟩
      else if lo % 4 = 1 then some ⟨0, 0, 1, 0xFF, .range 0 63 [0xFF]⟩ else none
    else none
  | 0x1102 =>
    if lo < 256 then
      if lo % 4 = 0 then some ⟨0, 0, 1, 0, .mask 0x7F⟩
      else if lo % 4 = 1 then some ⟨0, 0, 2, 0, .range 0 1439 []⟩
      else if lo % 4 = 2 then some ⟨0, 0, 1, 0, .range 0 15 []⟩ else none
    else none
  | 0x1103 =>
    if lo < 256 then
      if lo % 4 = 0 then some ⟨0, 0, 1, 0, .range 0 5 []⟩
      else if lo % 4 = 1 then some ⟨0, 0, 1, 0, .mask 3⟩
      else if lo % 4 = 2 then some ⟨0, 0, 1, 1, .range 1 32 []⟩
      else some ⟨0, 0, 2, 0xFFFF, .range 0 0x3FFF [0xFFFF]⟩
    else none
  | 0x1210 =>
    match rateDefault (lo / 4) with
    | none => none
    | some (r, d) =>
      if lo % 4 = 0 then u32 r (.range 1 65535 [])
      else if lo % 4 = 1 then u32 d (.range 1 1048576 []) else none
  | 0x1300 =>
    match lo with
    | 1 => u32 1 (.range 1 3 [])
    | 2 => u32 0 (.range 0 3 [])
    | 3 => u32 0 (.range 0 1 [])
    | 4 => u32 0 (.mask 3)
    | 5 => u32 4800 (.range 4800 4800 [38400])
    | 6 => u32 0 (.int (-1000000) 1000000)
    | _ => none
  | 0x1400 =>
    match lo with
    | 1 => u32 0x3FFF (.range 0 0x3FFF [])
    | 2 => u32 1 (.range 1 0xFFFE [])
    | 3 => u32 2 (.range 1 0xFFFE [])
    | 4 => u32 3 (.mask 15)
    | 5 => u32 0 (.range 0 1 [])
    | 6 => u32 0 (.range 0 0x3FFF [])
    | 7 => u32 0 (.range 0 0x3FFF [])
    | 8 => u32 0 (.range 0 64 [])
    | 9 => u32 0 (.range 0 1 [])
    | _ => none
  | 0x1401 => if lo < 64 then u32 0 (.kinds 4) else none
  | 0x1402 => if lo < 2048 then u32 0 (if lo % 2 = 0 then .mask 0xC0003FFF else .kinds 3) else none
  | 0x1403 => if lo < 1024 then u32 0 (if lo % 2 = 0 then .mask 0xC0003FFF else .kinds 3) else none
  | 0x1500 =>
    match lo with
    | 1 => u32 0 (.range 0 1 [])
    | 2 => u32 0 (.range 0 1 [])
    | 3 => u32 (f32n (1 / 2)) (.real (f32Round (1 / 10)) 5)
    | 4 => u32 3 (.range 3 100 [])
    | _ => none
  | 0x1600 =>
    if lo = 1 then u32 300 (.range 10 3600 []) else if lo = 2 then u32 40512 (.range 1024 65535 []) else none
  | 0x1601 =>
    if lo < 128 then
      if lo % 16 < 8 then u32 0 .any
      else if lo % 16 = 8 then u32 (if lo < 16 then 4 else 0) (.range 0 4 [])
      else if lo % 16 = 9 then u32 (if lo < 16 then 3 else 0) (.mask 3) else none
    else none
  | 0x1700 =>
    match lo with
    | 1 => u32 0xFF (.range 0 63 [0xFF])
    | 2 => u32 600 (.range 60 3600 [])
    | 0x10 => u32 0xC0A8FA0A .any
    | 0x11 => u32 0xC0A8FA0B .any
    | 0x12 => u32 0xFFFFFF00 .any
    | 0x13 => u32 0 .any
    | _ => none
  | 0x1900 => if lo = 1 then u32 0x7B (.mask 0x7F) else none
  | _ => none

/-- The contiguous network masks. -/
def contiguous (m : Nat) : Bool := (List.range 33).any fun k => m == 2 ^ 32 - 2 ^ k

/-- A value in a parameter's range, the IPv4 rules of Table 17.14 included. -/
def globalOk (pid : Nat) (f : PField) (v : Nat) : Bool :=
  f.check.ok v &&
    (if pid = 0x17000010 || pid = 0x17000011 then unicast v else if pid = 0x17000012 then contiguous v else true)

/-- The parameter a PID names. -/
def pfield (pid : Nat) : Option PField :=
  match Subj.ofPid pid with
  | some (j, _, i) => j.field i
  | none => globalParam pid

/-- Table 7.3: the default of output field i (7 to 15) for a function code and range code. -/
def outDefault (fn range i : Nat) : Nat :=
  let row : List Rat :=
    if fn = 0x07 then [0, 100, 4, 20, 19 / 5, 41 / 2, 22, 16 / 5, 0]
    else if fn = 0x08 then
      if range = 2 then [0, 100, 0, 5, 0, 5, 21 / 4, 0, 0] else [0, 100, 0, 10, 0, 10, 21 / 2, 0, 0]
    else if fn = 0x0E then [0, 100, 0, 100, 0, 100, 100, 0, 0]
    else if fn = 0x0F then [0, 100, 0, 10000, 0, 20000, 0, 0, 0]
    else []
  f32n (row.getD (i - 7) 0)

/-- The value of parameter `pid` where configuration `c` holds no record of it. -/
def pdefault (c : Cfg) (pid : Nat) : Nat :=
  match Subj.ofPid pid with
  | some (.out, n, i) =>
    if 7 ≤ i && i ≤ 15 then
      outDefault ((tfind c (Subj.pid .ch n 0)).getD 0) ((tfind c (Subj.pid .ch n 2)).getD 0) i
    else ((Subj.field .out i).map (·.dflt)).getD 0
  | some (.grp, 0, 1) => 1
  | some (j, _, i) => ((j.field i).map (·.dflt)).getD 0
  | none => ((globalParam pid).map (·.dflt)).getD 0

/-- The value of a parameter. -/
def cget (c : Cfg) (pid : Nat) : Nat := (tfind c pid).getD (pdefault c pid)

/-- The value of field i of object k of a setup. -/
def cfield (c : Cfg) (j : Subj) (k i : Nat) : Nat := cget c (j.pid k i)

/-- The real number that field i of object k holds. -/
def creal (c : Cfg) (j : Subj) (k i : Nat) : Rat := f32Val (BitVec.ofNat 32 (cfield c j k i))

/-- The default of `pid` depends on other parameters (Table 7.3). -/
def floatingDefault (pid : Nat) : Bool :=
  match Subj.ofPid pid with
  | some (.out, _, i) => decide (7 ≤ i) && decide (i ≤ 15)
  | _ => false

/-- The configuration after one change (R501): no record stands for a parameter at its default (R504). -/
def applyChange (c : Cfg) (ch : Change) : Cfg :=
  match ch.2 with
  | none => c.filter (·.1 != ch.1)
  | some v => if !floatingDefault ch.1 && v == pdefault c ch.1 then c.filter (·.1 != ch.1) else tput ch.1 v c

/-- The configuration after the changes, in order. -/
def applyChanges (c : Cfg) (chs : List Change) : Cfg := chs.foldl applyChange c

/-- Value bytes of a parameter. -/
def plen (pid : Nat) : Nat := ((pfield pid).map (·.len)).getD 4

/-- A length filled to a multiple of 4. -/
def pad4 (n : Nat) : Nat := (n + 3) / 4 * 4

/-- Bytes of a change record (R501). -/
def changeSize (ch : Change) : Nat :=
  match ch.2 with
  | none => 8
  | some _ => 8 + pad4 (plen ch.1)

/-- Bytes of all the change records. -/
def changesSize (chs : List Change) : Nat := chs.foldl (fun a ch => a + changeSize ch) 0

/-- The change record (Table 17.2). -/
def changeBytes (ch : Change) : List Byte :=
  match ch.2 with
  | none => le 4 ch.1 ++ le 4 0x100
  | some v => let n := plen ch.1; le 4 ch.1 ++ le 1 n ++ le 3 0 ++ le (pad4 n) v

/-- The records of a configuration in ascending PID (R504). -/
def cfgBytes (c : Cfg) : List Byte := c.flatMap fun (p, v) => changeBytes (p, some v)

/-- CONFIG_CRC of a configuration (R504). -/
def cfgCrc (c : Cfg) : Nat := crc32 (cfgBytes c)

/-- KEY parameters (Table 16.13) are write-only. -/
def isKeyWord (pid : Nat) : Bool := pid / 65536 == 0x1601 && decide (pid % 16 < 8)

/-- The parameter belongs to a key slot. -/
def isKeySlot (pid : Nat) : Bool := pid / 65536 == 0x1601

/-- A record as a host reads it, keys as zeros (R475). -/
def readBytes (pid v : Nat) : List Byte := changeBytes (pid, some (if isKeyWord pid then 0 else v))

/-- The setup record of object k as configuration `c` holds it. -/
def setupBytes (c : Cfg) (j : Subj) (k : Nat) : List Byte :=
  j.fields.foldl (fun bs f => overlay bs f.off (le f.len (cfield c j k f.index))) (fit j.size (le j.keyLen k))

/-- The bytes of a setup record that belong to no field. -/
def reservedOf (j : Subj) (bs : List Byte) : List Byte :=
  (j.fields.foldl (fun r f => overlay r f.off (zeros f.len)) bs).drop j.keyLen

/-- The change records that a setup record stages. -/
def setupChanges (j : Subj) (k : Nat) (bs : List Byte) : List Change :=
  j.fields.map fun f => (j.pid k f.index, some (fieldAt bs f.off f.len))

/-- The first field of a setup record whose value fails its own check. -/
def firstBad (j : Subj) (bs : List Byte) : Option Nat :=
  (j.fields.find? fun f => !f.check.ok (fieldAt bs f.off f.len)).map (·.index)

end Sys2Proof.Machine
end

