-- ==== Sys2Proof/Machine/Fields.lean ====
section
/-! DEFINITION. Named access to the state: channel functions, the runtime tables, the planes and the configuration. -/

namespace Sys2Proof.Machine

/-- The channel functions (Table 4.4). -/
inductive Fn where
  | off | vin | iin | iinLoop | res | rtd | tc | iout | vout | di | doHs | doLs | cnt | frq | repPwm | repFrq | lamp
  | laneIn | laneOut
  deriving DecidableEq, Repr

/-- The function a code of Table 4.4 names. -/
def Fn.ofCode : Nat → Fn
  | 1 => .vin | 2 => .iin | 3 => .iinLoop | 4 => .res | 5 => .rtd | 6 => .tc | 7 => .iout | 8 => .vout | 9 => .di
  | 10 => .doHs | 11 => .doLs | 12 => .cnt | 13 => .frq | 14 => .repPwm | 15 => .repFrq | 16 => .lamp | 17 => .laneIn
  | 18 => .laneOut | _ => .off

/-- The function of channel `n` in a configuration. -/
def fnIn (c : Cfg) (n : Nat) : Fn := Fn.ofCode (cfield c .ch n 0)

/-- The sub-function of a LANE_IN channel (R141), the function itself of any other. -/
def subFnIn (c : Cfg) (n : Nat) : Fn :=
  match fnIn c n with
  | .laneIn => Fn.ofCode (cfield c .ch n 1 / 16)
  | f => f

/-- WIRING of channel `n`. -/
def wiringIn (c : Cfg) (n : Nat) : Nat := cfield c .ch n 1 % 16

/-- The functions that convert (IIN, VIN, IIN_LOOP, RES, RTD, TC, and LANE_IN with such a sub-function). -/
def Fn.converts : Fn → Bool
  | .vin => true | .iin => true | .iinLoop => true | .res => true | .rtd => true | .tc => true | _ => false

/-- The analog outputs and repeaters. -/
def Fn.analogOut : Fn → Bool
  | .iout => true | .vout => true | .repPwm => true | .repFrq => true | _ => false

/-- The repeaters. -/
def Fn.repeater : Fn → Bool
  | .repPwm => true | .repFrq => true | _ => false

/-- The switched outputs. -/
def Fn.switched : Fn → Bool
  | .doHs => true | .doLs => true | _ => false

/-- The functions whose value comes through SRC. -/
def Fn.output : Fn → Bool
  | .iout => true | .vout => true | .repPwm => true | .repFrq => true | .doHs => true | .doLs => true | .lamp => true
  | _ => false

/-- The input functions an output may take its value from (R231). -/
def Fn.input : Fn → Bool
  | .vin => true | .iin => true | .iinLoop => true | .res => true | .rtd => true | .tc => true | .di => true
  | .cnt => true | .frq => true | .laneIn => true | _ => false

/-- The bay of a channel number (R8). -/
def bayOf (n : Nat) : Nat := n / 32

/-- The channel numbers of a bay. -/
def bayChans (b : Nat) : List Nat := rangeFrom (32 * b) 32

/-- All channel numbers. -/
def allChans : List Nat := List.range 512

/-- The parameter `pid` as the planes apply it. -/
def State.param (s : State) (pid : Nat) : Nat := cget s.cfg.inForce pid

/-- The real number parameter `pid` holds, as the planes apply it. -/
def State.paramReal (s : State) (pid : Nat) : Rat := f32Val (BitVec.ofNat 32 (s.param pid))

/-- Field i of object k as the planes apply it. -/
def State.cf (s : State) (j : Subj) (k i : Nat) : Nat := cfield s.cfg.inForce j k i

/-- The real number in field i of object k as the planes apply it. -/
def State.cr (s : State) (j : Subj) (k i : Nat) : Rat := creal s.cfg.inForce j k i

/-- The function of channel n in force. -/
def State.fn (s : State) (n : Nat) : Fn := fnIn s.cfg.inForce n

/-- The converting or sampling function of channel n in force, a LANE_IN's sub-function included. -/
def State.subFn (s : State) (n : Nat) : Fn := subFnIn s.cfg.inForce n

/-- Channel n at run time. -/
def State.ch (s : State) (n : Nat) : ChanRun := tget ChanRun.initial s.field.chan n
/-- Supervision of channel n. -/
def State.sup (s : State) (n : Nat) : SupRun := tget SupRun.initial s.field.sup n
/-- Output n. -/
def State.outp (s : State) (n : Nat) : OutRun := tget OutRun.initial s.field.out n
/-- HART work of channel n. -/
def State.hrt (s : State) (n : Nat) : HartRun := tget HartRun.initial s.field.hart n
/-- Digital channel n. -/
def State.dio (s : State) (n : Nat) : DioRun := tget DioRun.initial s.field.dio n
/-- Lamp n. -/
def State.lamp (s : State) (n : Nat) : LampRun := tget LampRun.initial s.field.lamp n
/-- Bay b. -/
def State.bay (s : State) (b : Nat) : BayRun := tget BayRun.initial s.field.bay b
/-- Lane l. -/
def State.lane (s : State) (l : Nat) : LaneRun := tget LaneRun.initial s.field.lane l
/-- Point p as the fabric runs it. -/
def State.pt (s : State) (p : Nat) : PtRun := tget PtRun.initial s.alarm.pts p
/-- Group g as last evaluated. -/
def State.grp (s : State) (g : Nat) : GrpEntry := tget GrpEntry.initial s.alarm.grps g
/-- The record of channel n in the channel region. -/
def State.img (s : State) (n : Nat) : Result := tget Result.initial s.field.image n
/-- Ring k. -/
def State.ring (s : State) (k : Nat) : RingRun := tget RingRun.initial s.ponor.rings k
/-- Ring port k. -/
def State.port (s : State) (k : Nat) : PortRun2 := tget PortRun2.initial s.ponor.ports k
/-- Session k. -/
def State.sess (s : State) (k : Nat) : Session := tget Session.closed s.host.sessions k
/-- Toll point p. -/
def State.tollPt (s : State) (p : Nat) : TollPoint := tget TollPoint.initial s.toll.pts p

/-- `s` with channel n changed. -/
def State.modCh (s : State) (n : Nat) (f : ChanRun → ChanRun) : State :=
  { s with field := { s.field with chan := tmod ChanRun.initial s.field.chan n f } }
/-- `s` with the supervision of channel n changed. -/
def State.modSup (s : State) (n : Nat) (f : SupRun → SupRun) : State :=
  { s with field := { s.field with sup := tmod SupRun.initial s.field.sup n f } }
/-- `s` with output n changed. -/
def State.modOut (s : State) (n : Nat) (f : OutRun → OutRun) : State :=
  { s with field := { s.field with out := tmod OutRun.initial s.field.out n f } }
/-- `s` with the HART work of channel n changed. -/
def State.modHart (s : State) (n : Nat) (f : HartRun → HartRun) : State :=
  { s with field := { s.field with hart := tmod HartRun.initial s.field.hart n f } }
/-- `s` with digital channel n changed. -/
def State.modDio (s : State) (n : Nat) (f : DioRun → DioRun) : State :=
  { s with field := { s.field with dio := tmod DioRun.initial s.field.dio n f } }
/-- `s` with lamp n changed. -/
def State.modLamp (s : State) (n : Nat) (f : LampRun → LampRun) : State :=
  { s with field := { s.field with lamp := tmod LampRun.initial s.field.lamp n f } }
/-- `s` with bay b changed. -/
def State.modBay (s : State) (b : Nat) (f : BayRun → BayRun) : State :=
  { s with field := { s.field with bay := tmod BayRun.initial s.field.bay b f } }
/-- `s` with lane l changed. -/
def State.modLane (s : State) (l : Nat) (f : LaneRun → LaneRun) : State :=
  { s with field := { s.field with lane := tmod LaneRun.initial s.field.lane l f } }
/-- `s` with point p changed. -/
def State.modPt (s : State) (p : Nat) (f : PtRun → PtRun) : State :=
  { s with alarm := { s.alarm with pts := tmod PtRun.initial s.alarm.pts p f } }
/-- `s` with ring k changed. -/
def State.modRing (s : State) (k : Nat) (f : RingRun → RingRun) : State :=
  { s with ponor := { s.ponor with rings := tmod RingRun.initial s.ponor.rings k f } }
/-- `s` with ring port k changed. -/
def State.modPort (s : State) (k : Nat) (f : PortRun2 → PortRun2) : State :=
  { s with ponor := { s.ponor with ports := tmod PortRun2.initial s.ponor.ports k f } }
/-- `s` with session k changed. -/
def State.modSess (s : State) (k : Nat) (f : Session → Session) : State :=
  { s with host := { s.host with sessions := tmod Session.closed s.host.sessions k f } }
/-- `s` with Toll point p changed. -/
def State.modTollPt (s : State) (p : Nat) (f : TollPoint → TollPoint) : State :=
  { s with toll := { s.toll with pts := tmod TollPoint.initial s.toll.pts p f } }
/-- `s` with the module changed. -/
def State.modNd (s : State) (f : NodeSt → NodeSt) : State := { s with nd := f s.nd }
/-- `s` with the supply supervision changed. -/
def State.modPower (s : State) (f : PowerSt → PowerSt) : State := s.modNd fun d => { d with power := f d.power }
/-- `s` with the pair changed. -/
def State.modPair (s : State) (f : PairSt → PairSt) : State := { s with pair := f s.pair }

/-- A counter of Table 19.6, with k added. -/
def State.count (s : State) (id k : Nat) : State :=
  { s with trace := { s.trace with counters := tmod 0 s.trace.counters id (· + k) } }

/-- A peak of Table 19.6. -/
def State.peak (s : State) (id v : Nat) : State :=
  { s with trace := { s.trace with counters := tmod 0 s.trace.counters id (max v) } }

/-- The next free value's number, drawn (log 1). -/
def State.draw (s : State) : Nat × State := (s.free, { s with free := s.free + 1 })

/-- `s` with an emission more. -/
def State.emit (s : State) (e : Emission) : State := { s with out := s.out ++ [e] }

/-- The logic domain is on. -/
def State.logicOn (s : State) : Bool := s.nd.power.onSince.isSome

/-- A time of the millpond clock at its resolution, one period of 32.768 kHz (R385). -/
def clockTick (t : Nat) : Nat := t * 512 / 15625 * 15625 / 512

/-- What a timestamp taken at node time `t` reads: while the data plane is stalled it comes from the clock (R385, Table 1.6). -/
def State.stamped (s : State) (t : Micros) : Micros :=
  if s.nd.dataStalled then clockTick (t + s.clk.clock - s.node) else t

/-- The node is held in cold reset: its seat contact stands open and it has not run since power was applied (R58), or a
counted nRESET assertion holds it (R113, R116). -/
def State.held (s : State) : Bool := s.nd.nresetHold || (s.nd.seatOpen && !s.nd.hasRun)

/-- The planes run: the logic domain is on, no cold reset holds and the mode is not DORMANT. -/
def State.alive (s : State) : Bool := s.logicOn && !s.held && decide (s.nd.mode ≠ .dormant)

/-- The control plane runs its cycles: not in BOOT, not stopped by a lockstep mismatch (R25, Table 1.9). -/
def State.cycling (s : State) : Bool :=
  s.alive && decide (s.nd.mode ≠ .boot) && !s.nd.ctrlStopped

/-- The mode that decides what the node does: HOLD stands for the mode it returns to (R104). -/
def State.baseMode (s : State) : Mode := if s.nd.mode = .hold then s.nd.recorded else s.nd.mode

/-- This unit is in DUTY, a dip included. -/
def State.onDuty (s : State) : Bool := decide (s.baseMode = .duty)

/-- The Toll core owns bays 0 and 1 (Table 18.1). -/
def State.tollOwns (s : State) : Bool := decide (s.toll.state = .sealed) || decide (s.toll.state = .broken)

/-- The live bank (R505) of two: its number and the bank. -/
def liveOf (b0 b1 : Bank) : Option (Nat × Bank) :=
  let ok (b : Bank) : Bool := b.sound && b.committed
  match ok b0, ok b1 with
  | true, true => if b0.gen ≥ b1.gen then some (0, b0) else some (1, b1)
  | true, false => some (0, b0)
  | false, true => some (1, b1)
  | false, false => none

/-- The live bank. -/
def State.live (s : State) : Option (Nat × Bank) := liveOf s.cfg.bank0 s.cfg.bank1

/-- Bank k. -/
def State.bank (s : State) (k : Nat) : Bank := if k = 0 then s.cfg.bank0 else s.cfg.bank1

/-- `s` with bank k changed. -/
def State.modBank (s : State) (k : Nat) (f : Bank → Bank) : State :=
  if k = 0 then { s with cfg := { s.cfg with bank0 := f s.cfg.bank0 } }
  else { s with cfg := { s.cfg with bank1 := f s.cfg.bank1 } }

/-- The previous bank (R505). -/
def State.prev (s : State) : Option Bank :=
  match s.live with
  | none => none
  | some (k, _) => let b := s.bank (1 - k); if b.sound && b.committed then some b else none

/-- The records of the live bank, none where no bank is live. -/
def State.liveCfg (s : State) : Cfg := match s.live with | some (_, b) => b.records | none => []

/-- The live bank with staging applied (R502). -/
def State.stagedCfg (s : State) : Cfg := applyChanges s.liveCfg s.cfg.staged

/-- CONFIG_CRC of the live bank, 0 without one. -/
def State.liveCrc (s : State) : Nat := match s.live with | some (_, b) => cfgCrc b.records | none => 0

/-- EPOCH of the live bank, 0 without one. -/
def State.bankEpoch (s : State) : Nat := match s.live with | some (_, b) => b.epoch | none => 0

/-- The epoch of an object that a phased commit has or has not yet reached (R512). Objects are numbered: channel n,
512 + lane, 1,024 + point, 66,560 + group. -/
def State.epochOf (s : State) (object : Nat) : Nat :=
  if s.cfg.ahead.contains object then s.cfg.liveEpoch + 1 else s.cfg.liveEpoch

/-- The configuration that BANK 0x00 (live) or 0x01 (staged) of a _GET names. -/
def State.bankView (s : State) (b : Nat) : Option Cfg :=
  if b = 0 then some s.liveCfg else if b = 1 then some s.stagedCfg else none

/-- The calibration copy in use: the valid copy with the higher OVERWRITES (R516). -/
def State.cal (s : State) : Option CalCopy :=
  match s.cfg.cal0, s.cfg.cal1 with
  | some a, some b => if a.overwrites ≥ b.overwrites then some a else some b
  | some a, none => some a
  | none, b => b

/-- A binary32 image as bytes. -/
def w32Bytes (w : Word32) : List Byte := le 4 w.toNat

/-- Whether every channel of a bay is OFF. -/
def bayUnused (c : Cfg) (b : Nat) : Bool := (bayChans b).all fun n => fnIn c n == .off

/-- The running firmware slot. -/
def State.fwSlot (s : State) (k : Nat) : FwSlot := if k = 0 then s.cfg.fw0 else s.cfg.fw1

/-- `s` with firmware slot k changed. -/
def State.modFw (s : State) (k : Nat) (f : FwSlot → FwSlot) : State :=
  if k = 0 then { s with cfg := { s.cfg with fw0 := f s.cfg.fw0 } }
  else { s with cfg := { s.cfg with fw1 := f s.cfg.fw1 } }

end Sys2Proof.Machine
end

