-- ==== Sys2Proof/Machine/Cal.lean ====
section
/-! DEFINITION. The words of the calibration set (Tables 17.7, 5.1, 5.4, 4.5). -/

namespace Sys2Proof.Machine

/-- Excitation current of a step, µA (Table 4.5). -/
def stepCurrent (step : Nat) : Rat :=
  ([0, 10, 25, 50, 100, 250, 500, 750, 1000, 1500, 2000] : List Rat).getD step 0

/-- A word of a channel block at its nominal value, by offset in the block (log 4). Gain and offset stand in pairs, IEX1 and
IEX2 stand in pairs for each step, in µA (log 12). -/
def nominalChan (k : Nat) : Rat :=
  if k < 40 then (if k / 4 % 2 = 0 then 1 else 0)
  else if k < 56 then ([50, 500, 5000, 50000] : List Rat).getD ((k - 40) / 4) 0
  else if k < 136 then stepCurrent (1 + (k - 56) / 8)
  else if k < 184 then (if k / 4 % 2 = 0 then 1 else 0)
  else 0

/-- A word of a bay block at its nominal value, by offset in the block (log 4). -/
def nominalBay (k : Nat) : Rat :=
  if k = 0 then 4000 else if k = 8 then 1 else if k = 20 then 1 else 0

/-- The nominal value of the calibration word at byte offset `off`. -/
def nominalWord (off : Nat) : Rat :=
  if off < 64 then 0
  else if off < 114752 then nominalChan ((off - 64) % 224)
  else if off < 115776 then nominalBay ((off - 114752) % 64)
  else 0

/-- The image of a calibration word of a copy. -/
def CalCopy.wordImage (c : CalCopy) (off : Nat) : Word32 :=
  match tfind c.words off with
  | some w => w
  | none => f32Of (nominalWord off)

/-- A calibration word of a copy. -/
def CalCopy.word (c : CalCopy) (off : Nat) : Rat :=
  match tfind c.words off with
  | some w => f32Val w
  | none => nominalWord off

/-- The set whose values channel n computes with: the set before the last write while its request has not been taken
(R518), else the set in use. With no valid set (R506) the nominal values stand (log 4). A sealed partition's channels take the
Toll calibration (R528). -/
def State.calOf (s : State) (n : Nat) : CalCopy :=
  if n < 64 && s.tollOwns then { CalCopy.factory with words := s.toll.cal } else
  match (s.ch n).calOld with
  | some c => c
  | none => s.cal.getD CalCopy.factory

/-- A word of channel n's block. -/
def State.calChan (s : State) (n k : Nat) : Rat := (s.calOf n).word (64 + 224 * n + k)

/-- A word of bay b's block. -/
def State.calBay (s : State) (b k : Nat) : Rat := (s.calOf (32 * b)).word (114752 + 64 * b + k)

/-- A reading corrected by a gain and an offset of channel n's block. -/
def State.calLine (s : State) (n k : Nat) (v : Rat) : Rat := s.calChan n k * v + s.calChan n (k + 4)

/-- A reading corrected by a gain and an offset of bay b's block. -/
def State.calBayLine (s : State) (b k : Nat) (v : Rat) : Rat := s.calBay b k * v + s.calBay b (k + 4)

/-- The currents of IEX1 and IEX2 that the calibration set holds for a step, µA. -/
def State.calIex (s : State) (n step : Nat) : Rat × Rat :=
  (s.calChan n (56 + 8 * (step - 1)), s.calChan n (60 + 8 * (step - 1)))

end Sys2Proof.Machine
end

