-- ==== Sys2Proof/Machine/Checks.lean ====
section
/-! DEFINITION. The checks that a setup passes at staging with the rest of its object (R141 to R145, R161, R165, R168, R178 to
R180, R183, R190, R194, R203, R204, R312 to R316). A failed check names its field by parameter index. -/

namespace Sys2Proof.Machine

/-- WIRING[3:0] is listed for a function (Table 4.4). -/
def Fn.wiring (f : Fn) (w : Nat) : Bool :=
  match f with
  | .vin => w == 0 || w == 1
  | .res => 2 ≤ w && w ≤ 4
  | .rtd => 2 ≤ w && w ≤ 4
  | _ => w == 0

/-- SUBFUNCTION and WIRING are legal for function f (R141). -/
def wiringOk (f : Fn) (b : Nat) : Bool :=
  match f with
  | .laneIn => [9, 2, 3, 5].contains (b / 16) && (Fn.ofCode (b / 16)).wiring (b % 16)
  | _ => b / 16 == 0 && f.wiring (b % 16)

/-- RANGE is listed for the function (Table 5.4, R228, R260). -/
def Fn.range (f : Fn) (w r : Nat) : Bool :=
  match f with
  | .vin => r ≤ 4 || (r == 5 && w == 0)
  | .iin => r ≤ 4
  | .iinLoop => r ≤ 1
  | .rtd => r ≤ 4
  | .res => r ≤ 4
  | .tc => r ≤ 1
  | .iout => r ≤ 1
  | .vout => r ≤ 2
  | .di => r ≤ 2
  | .cnt => r ≤ 2
  | .frq => r ≤ 2
  | _ => r == 0

/-- RATE is a code of Table 5.2, with CONT on codes 1 to 4 only (R168). -/
def rateOk (r : Nat) : Bool :=
  let code := r % 128
  code ≤ 11 && (r < 128 || (1 ≤ code && code ≤ 4))

/-- Upper end of the span in Ω and converter full scale in V of a resistance range (Table 5.4). -/
def resSpan (f : Fn) (r : Nat) : Rat × Rat :=
  match f with
  | .rtd => if r = 2 then (160, 32 / 100) else if r = 3 then (2000, 128 / 100) else if r = 4 then (4000, 128 / 100)
            else (400, 128 / 100)
  | _ => if r = 2 then (4000, 128 / 100) else if r = 3 then (100000, 1024 / 100) else if r = 4 then (900000, 1024 / 100)
         else (400, 128 / 100)

/-- Excitation current of a step, A (Table 4.5). -/
def stepAmps (step : Nat) : Rat :=
  (([0, 10, 25, 50, 100, 250, 500, 750, 1000, 1500, 2000] : List Rat).getD step 0) / 1000000

/-- IEX_STEP suits the function and range (Table 4.12, R180). -/
def iexOk (f : Fn) (r step : Nat) : Bool :=
  if step = 0 then true
  else if f != .res && f != .rtd then false
  else
    let (top, fs) := resSpan f r
    let v := stepAmps step * top
    decide (v ≤ fs * 95 / 100) && decide (v ≤ 19 / 2)

/-- Default I_DECL, mA (Table 4.9). -/
def Fn.iDecl : Fn → Nat
  | .iinLoop => 25 | .iout => 24 | .vout => 10 | .di => 5 | .cnt => 5 | .frq => 5 | .doHs => 500 | .doLs => 500
  | .repPwm => 100 | .repFrq => 100 | .lamp => 1000 | .laneOut => 500 | _ => 0

/-- The current that channel n declares, mA (R161). -/
def declared (c : Cfg) (n : Nat) : Nat :=
  let d := cfield c .ch n 7
  if d = 0 then (subFnIn c n).iDecl else d

/-- The functions on which HART can run (R142). -/
def Fn.hart : Fn → Bool
  | .iin => true | .iinLoop => true | .iout => true | _ => false

/-- The first field of channel n's setup that a check refuses (R165). -/
def chCheck (c : Cfg) (n : Nat) : Option Nat :=
  let f := fnIn c n
  let g := subFnIn c n
  let b := cfield c .ch n 1
  let r := cfield c .ch n 2
  let rate := cfield c .ch n 3
  let swap := hasBit (cfield c .ch n 5) 1
  let modem := cfield c .ch n 6 != 255
  let i := cfield c .ch n 7
  if !wiringOk f b then some 1
  else if !g.range (b % 16) r then some 2
  else if !rateOk rate || (modem && 6 < rate % 128) then some 3
  else if !iexOk g r (cfield c .ch n 4) then some 4
  else if swap && !((f == .res || f == .rtd) && b == 3 && rate ≤ 6) then some 5
  else if modem && !f.hart then some 6
  else if i != 0 && g.iDecl < i then some 7
  else none

/-- A built-in thermocouple curve (Table 5.8). -/
def tcCurve (k : Nat) : Bool := 0x10 ≤ k && k ≤ 0x17

/-- CURVE is listed for the function (Table 5.8). -/
def curveOk (f : Fn) (k : Nat) : Bool :=
  if k = 0 then true
  else if k = 1 then f == .vin || f == .iin || f == .iinLoop || f == .res
  else if k = 2 then f == .rtd
  else if tcCurve k then f == .tc
  else k == 0x20 && f.converts

/-- The curve in use: code 0x00, or a code the function does not list, gives the function default (Table 5.8). -/
def curveUsed (f : Fn) (k : Nat) : Nat :=
  if k ≠ 0 && curveOk f k then k
  else match f with
    | .rtd => 2
    | .tc => 0x13
    | _ => 1

/-- The first field of channel n's measurement setup that a check refuses (R183, R190, R194). -/
def measCheck (c : Cfg) (n : Nat) : Option Nat :=
  let f := subFnIn c n
  let k := cfield c .meas n 0
  let src := cfield c .meas n 1
  if !curveOk f k then some 0
  else if 3 < src || (src = 0 && tcCurve (curveUsed f k)) then some 1
  else if hasBit (cfield c .meas n 3) 1 && !((f == .iin || f == .iinLoop) && cfield c .ch n 2 ≤ 1) then some 3
  else none

/-- The first field of channel n's custom curve that a check refuses (R204). -/
def curveCheck (c : Cfg) (n : Nat) : Option Nat :=
  if creal c .curve n 1 ≤ creal c .curve n 0 then some 1 else none

/-- The span of an output function (Table 7.1). -/
def Fn.outSpan (f : Fn) (r : Nat) : Rat × Rat :=
  match f with
  | .iout => (0, 24)
  | .vout => if r = 2 then (0, 21 / 4) else (0, 21 / 2)
  | .repPwm => (0, 100)
  | .repFrq => (0, 20000)
  | _ => (0, 0)

/-- The first field of channel n's output setup that a check refuses (R238). -/
def outCheck (c : Cfg) (n : Nat) : Option Nat :=
  let f := fnIn c n
  let (lo, hi) := f.outSpan (cfield c .ch n 2)
  let v (i : Nat) : Rat := creal c .out n i
  let out (i : Nat) : Bool := decide (v i < lo) || decide (hi < v i)
  let fail (i : Nat) (a b : Rat) : Bool := if f == .iout then decide (v i < a) || decide (b < v i) else out i
  if v 8 = v 7 then some 8
  else if out 9 then some 9
  else if out 10 || v 10 = v 9 then some 10
  else if out 11 then some 11
  else if out 12 || v 12 ≤ v 11 then some 12
  else if fail 13 21 24 then some 13
  else if fail 14 0 (18 / 5) then some 14
  else if out 15 then some 15
  else none

/-- The first field of channel n's HART setup that a check refuses (R142, R250). -/
def hartCheck (c : Cfg) (n : Nat) : Option Nat :=
  let m := cfield c .hart n 0
  if (m ≠ 0 && !(fnIn c n).hart) || (m = 2 && fnIn c n == .iout) then some 0 else none

/-- The first field of channel n's digital setup that a check refuses (R263, R269, Table 8.14). -/
def dioCheck (c : Cfg) (n : Nat) : Option Nat :=
  let fl := cfield c .dio n 3
  let edge := fl / 64
  if edge = 3 || (edge = 2 && fnIn c n == .frq) || (hasBit fl 3 && !hasBit fl 4) then some 3 else none

/-- The first field of lamp n's setup that a check refuses (Table 8.17). -/
def lampCheck (c : Cfg) (n : Nat) : Option Nat :=
  let v (i : Nat) : Nat := cfield c .lamp n i
  if v 7 ≤ v 6 then some 7
  else if v 13 < v 12 + 10 then some 13
  else if v 13 ≤ v 14 then some 14
  else none

/-- What SRC of a point may name: channels, lanes or remote slots by KIND and FSRC (Table 10.1). -/
def ptSources (kind fsrc : Nat) : Nat :=
  if kind = 3 && fsrc = 5 then 32 else if kind = 6 || kind = 7 then 1024 else if kind = 0 || kind = 5 then 65536 else 512

/-- The first field of point p's setup that a check refuses (R312 to R316, R325). -/
def ptCheck (c : Cfg) (p : Nat) : Option Nat :=
  let v (i : Nat) : Nat := cfield c .pt p i
  let kind := v 0
  let dir := v 4 % 4
  let n := v 5 % 16
  let k := v 5 / 16
  if 7 < kind then some 0
  else if ptSources kind (v 5) ≤ v 2 then some 2
  else if ((kind = 1 || kind = 6) && 2 ≤ dir) || (kind = 2 && dir = 3) then some 4
  else if kind = 3 && 6 < v 5 then some 5
  else if kind = 5 && (n < 1 || 4 < n || k < 1 || n < k) then some 5
  else if v 8 = p && (hasBit (v 4) 7 || kind != 0 || p != 0) then some 8
  else if kind = 2 && decide (creal c .pt p 12 < 0) then some 12
  else if kind = 5 then ((List.range n).find? fun i => v (15 + i) == p).map (15 + ·)
  else none

/-- The first field of object k that a check with the rest of its setup refuses. -/
def objCheck (c : Cfg) (j : Subj) (k : Nat) : Option Nat :=
  match j with
  | .ch => chCheck c k
  | .meas => measCheck c k
  | .curve => curveCheck c k
  | .out => outCheck c k
  | .hart => hartCheck c k
  | .dio => dioCheck c k
  | .lamp => lampCheck c k
  | .pt => ptCheck c k
  | _ => none

end Sys2Proof.Machine
end

