-- ==== Sys2Proof/Machine/Entries.lean ====
section
/-! DEFINITION. The records of the point image as bytes (Tables 5.9, 10.11, 11.1, 14.8, 18.6). -/

namespace Sys2Proof.Machine

/-- The result record (Table 5.9). -/
def resultBytes (r : Result) : List Byte :=
  w32Bytes r.value ++ le 1 r.quality ++ le 1 r.detail ++ le 2 r.seq ++ le 4 r.epoch ++ le 4 r.tEnd ++ le 4 r.tNext

/-- Byte 0 of a point entry (Table 10.11). -/
def ptByte0 (p : PtRun) : Nat := 64 * p.suppress + 8 * p.priority + p.state.code

/-- The alarm region entry of a point (Table 10.11). -/
def ptBytes (p : PtRun) : List Byte :=
  le 1 (ptByte0 p) ++
    le 1 (128 * bit p.active + 64 * bit p.inputBad + 32 * bit p.frozen + 16 * bit p.paused + 8 * bit p.timing) ++
    le 2 p.raiseSeq ++ le 4 p.epoch

/-- The alarm region entry of a group (Table 11.1). -/
def grpBytes (g : GrpEntry) : List Byte :=
  le 1 (8 * g.priority + g.state.code) ++
    le 1 (32 * g.unackPrio + 16 * bit g.inputBad + 8 * bit g.frozen + 4 * bit g.suppressed + 2 * bit g.empty) ++
    le 2 g.activeCount ++ le 2 g.unackCount ++ le 2 g.raises ++ le 4 g.epoch ++ le 2 g.suppCount ++ le 2 0

/-- A remote or output slot record (Table 14.8). -/
def slotBytes (r : RemoteSlot) : List Byte :=
  le 1 r.kind ++ le 1 (128 * bit r.stale + 64 * bit r.relayed) ++ le 2 r.index ++ fit 12 r.data ++ le 4 r.rxCycle

/-- RATE of a Toll point: the change of TOTAL over the last 60 s, per hour (Table 18.6). -/
def tollRate (p : TollPoint) : Rat :=
  match p.history.head?, p.history.getLast? with
  | some (t1, a1), some (t0, a0) => if t1 ≤ t0 then 0 else mkRat (a1 - a0) (t1 - t0) * 3600000000
  | _, _ => 0

/-- The Toll point record (Table 18.6). -/
def tollPtBytes (gen : Nat) (p : TollPoint) : List Byte :=
  leInt 8 p.total ++ leInt 8 p.totalFault ++ f32Bytes (tollRate p) ++ le 1 p.quality ++
    le 1 (4 * bit p.faultNow + p.unit) ++ le 2 p.seq ++ le 4 p.tEnd ++ le 4 gen

end Sys2Proof.Machine
end

