-- ==== Sys2Proof/Config.lean ====
section
/-! DEFINITION. What an implementation fixes or the manual leaves open: constants without a body, of which nothing can be
proved. `free*` are applied to the counter `State.free` (log 1). -/

namespace Sys2Proof.Config

/-- A free natural number (log 1). -/
opaque freeNat : Nat → Nat

/-- A free number (log 1). -/
opaque freeRat : Nat → Rat

/-- Free bytes, as a random source gives them (R477). -/
opaque freeBytes : Nat → List Byte

/-- The unit address printed on the module label, 48 bits (R408). -/
opaque unitBits : BitVec 48

/-- The unit address of the other module of the pair (R470). -/
opaque peerUnitBits : BitVec 48

/-- The unit address as a number. -/
def unitAddress : Nat := unitBits.toNat

/-- The other module's unit address as a number. -/
def peerUnitAddress : Nat := peerUnitBits.toNat

/-- The module serial number (Table 16.12). -/
opaque serial : List Byte

/-- The delivery key of the module (R475). -/
opaque deliveryKey : List Byte

/-- The hardware issue letter, "A" (R1, R520, Table 16.12). -/
def hwIssue : Nat := 0x41

/-- Yilevo's signature over the bytes verifies (R517, R520). -/
opaque signed : (body signature : List Byte) → Bool

/-- A Toll image's signature over the bytes verifies under the Toll core's own key (R545). -/
opaque tollSigned : (body signature : List Byte) → Bool

/-- The emf, mV, that the unit takes of a thermocouple type at a temperature, °C, outside those for which the reference function
is given (log 216). -/
opaque tcBeyond : (type : Nat) → Rat → Rat

/-- Error of the unit's inversion of a thermocouple type at an emf, mV, in °C, before it is held within the bound of R196. -/
opaque tcSlip : (type : Nat) → Rat → Rat

/-- Error of the unit's PT inversion at a ratio x / R_nom, °C, before it is held within the bound of R195. -/
opaque ptSlip : Rat → Rat

/-- The reply payload of a refused commit that names these figures: a bay, a channel, a sum, a PID, a lane, a group or a count
(R130, R160, R161, R291, R336, R507; the manual gives no layout). -/
opaque refusalNames : List Nat → List Byte

end Sys2Proof.Config
end

