-- ==== Sys2Proof/Machine/Trace.lean ====
section
/-! DEFINITION. The trace port and the intake ports of the Granary (R37, R38, R554 to R556, R574). -/

namespace Sys2Proof.Machine

/-- The row of Table 19.5 a kind stands in, DROPPED aside. -/
def traceClass (kind : Nat) : Nat :=
  match kind with
  | 0x01 => 0 | 0x02 => 1 | 0x10 => 2 | 0x11 => 3 | 0x20 => 4 | 0x21 => 5 | 0x22 => 6 | 0x23 => 7 | 0x24 => 8 | _ => 9

/-- TRACE_KINDS selects the kind; SYNC, MODE and DROPPED are always traced (R556). -/
def traceSelected (mask kind : Nat) : Bool :=
  match kind with
  | 0x10 => hasBit mask 0 | 0x11 => hasBit mask 0 | 0x20 => hasBit mask 1 | 0x21 => hasBit mask 2
  | 0x22 => hasBit mask 3 | 0x23 => hasBit mask 4 | 0x24 => hasBit mask 5 | 0x30 => hasBit mask 6 | _ => true

/-- Bytes of the trace buffer. -/
def traceSpace : Nat := 262144

/-- The buffer takes a record of the kind with n bytes (R556). -/
def traceFits (waiting kind n : Nat) : Bool :=
  let low := kind == 0x10 || kind == 0x11 || kind == 0x21 || kind == 0x30
  let first := kind == 0x01 || kind == 0x02 || kind == 0x3F
  if low && decide (waiting * 4 > traceSpace * 3) then false
  else if first then decide (waiting + n ≤ traceSpace)
  else decide (waiting + n ≤ traceSpace - 4096)

/-- The trace record of Table 19.4, stamped with node time. -/
def traceBytes (s : State) (kind : Nat) (payload : List Byte) : List Byte :=
  let body := le 1 kind ++ le 1 payload.length ++ le 2 s.trace.tseq ++ le 4 (s.node * 125) ++ payload
  body ++ le 2 (crc16Run 0x1021#16 0xFFFF#16 body).toNat

/-- The record put into the buffer. -/
def tracePut (kind : Nat) (payload : List Byte) (s : State) : State :=
  let s1 := s.emit (.trace (traceBytes s kind payload))
  { s1 with trace := { s1.trace with tseq := wrap16 (s1.trace.tseq + 1),
                                     waiting := s1.trace.waiting + payload.length + 10 } }.count 18 1

/-- A DROPPED record as soon as space allows after a drop (Table 19.5). -/
def traceDropped (s : State) : State :=
  if s.trace.dropped.isEmpty || !traceFits s.trace.waiting 0x3F 26 then s
  else
    let s1 := tracePut 0x3F ((List.range 16).map fun k => BitVec.ofNat 8 (min 255 (tget 0 s.trace.dropped k))) s
    { s1 with trace := { s1.trace with dropped := [] } }

/-- The trace unit takes a record, or drops and counts it (R556). -/
def traceRec (kind : Nat) (payload : List Byte) (s0 : State) : State :=
  if !traceSelected (s0.param 0x19000001) kind || !s0.logicOn then s0
  else
    let s := traceDropped s0
    if traceFits s.trace.waiting kind (payload.length + 10) then tracePut kind payload s
    else
      ({ s with trace := { s.trace with
          dropped := tmod 0 s.trace.dropped (traceClass kind) (· + 1),
          droppedAll := s.trace.droppedAll + 1 } } : State).count 19 1

/-- A region's flip (R35), traced (Table 19.5 FLIP): its code in the FLIP record, its new count and time, and how many
entries follow. -/
def traceFlip (region : Nat) (r : Region) (entries : Nat) (s : State) : State :=
  traceRec 0x20 (le 4 region ++ le 4 r.count ++ le 8 r.flip ++ le 4 entries) s

/-- The region after a flip at node time t. -/
def Region.flipAt (r : Region) (t : Micros) : Region := ⟨wrap32 (r.count + 1), t⟩

/-- Position A or B of a unit, A on a solo base (R472). -/
def State.atB (s : State) : Bool := s.nd.pairBase && s.nd.posB

/-- The other position of the base holds a module (R436). -/
def State.paired (s : State) : Bool := s.nd.pairBase && s.nd.peerPres

/-- The peer's heartbeat is lost on both lanes, or has never come (R447). -/
def State.peerLost (s : State) : Bool := s.pair.lostAt.isSome || s.pair.hb.isNone

/-- MODE of the peer's heartbeat, 0xFF where it is lost. -/
def State.peerMode (s : State) : Nat :=
  if s.peerLost then 255 else match s.pair.hb with | some h => h.mode | none => 255

/-- The peer holds the sluice as duty unit: in DUTY, or in HOLD from it with its claim standing (R437, Table 15.4). -/
def State.peerDuty (s : State) : Bool :=
  !s.peerLost && (match s.pair.hb with | some h => h.mode == 3 || (h.mode == 6 && h.claiming) | none => false)

/-- A mode code in which a unit may source while no unit is in DUTY: COMMISSION, HOLD, SAFE (R437). -/
def sourceMode (m : Nat) : Bool := m == 2 || m == 6 || m == 7

/-- The unit is the sourcing unit of its node (R416, R437). -/
def State.sourcing (s : State) : Bool :=
  s.alive &&
    (if s.onDuty then true
     else if s.paired then
       !s.peerDuty && sourceMode s.nd.mode.code && (!s.atB || !sourceMode s.peerMode)
     else sourceMode s.nd.mode.code)

/-- The unit executes node requests and assigns Granary sequence numbers (R437, R472). A solo unit always does; in a pair
in which no unit sources, position A does (log 8). -/
def State.executes (s : State) : Bool :=
  !s.paired || s.onDuty ||
    (!s.peerDuty && (s.sourcing || (!sourceMode s.peerMode && !s.atB)))

/-- The codes of events that both units of a pair follow (R574). -/
def nodeWide (code : Nat) : Bool :=
  (0x041 ≤ code && code ≤ 0x046) || code == 0x060 || (0x080 ≤ code && code ≤ 0x082) || code == 0x1C0 ||
    (0x100 ≤ code && code ≤ 0x104)

/-- An intake port that holds nothing. -/
def PortRun.initial : PortRun := ⟨[], []⟩

/-- A record submitted at a port (R37): stamped with the node time of its event, refused and counted where the port holds
256 (R38). In a pair a node-wide event is recorded by the assigning unit alone (R574); a node held in cold reset submits
its records once it is released (R116). -/
def submitAt (port : GrnPort) (code : Nat) (when_ : Micros) (payload : List Byte) (s : State) : State :=
  let time := s.stamped when_
  if !s.logicOn || (nodeWide code && !s.executes) then s
  else if s.held then { s with grn := { s.grn with owed := s.grn.owed ++ [(port.code, ⟨code, time, payload⟩)] } }
  else
    let p := tget PortRun.initial s.grn.ports port.code
    if p.queue.length < 256 then
      { s with grn := { s.grn with
          ports := tset PortRun.initial s.grn.ports port.code { p with queue := p.queue ++ [⟨code, time, payload⟩] } } }
    else
      ({ s with grn := { s.grn with
          ports := tset PortRun.initial s.grn.ports port.code
            { p with refused := tmod 0 p.refused code (· + 1) } } } : State).count 17 1

/-- A record submitted now. -/
def submit (port : GrnPort) (code : Nat) (payload : List Byte) (s : State) : State :=
  submitAt port code s.node payload s

/-- The HW_EVENT record (Table 12.3); the manual gives WHAT alone, and ARG, ARG2 and VALUE are free (log 35). -/
def hwEvent (what : Nat) (s : State) : State :=
  let (k, s1) := s.draw
  submit .management 0x013 (le 1 what ++ fit 7 (Config.freeBytes k)) s1

/-- A channel event record, codes 0x040 to 0x047 (Table 12.3). -/
def chanEvent (code n new old status : Nat) (value : Word32) (s : State) : State :=
  submit .control code
    (le 2 n ++ le 1 new ++ le 1 old ++ le 2 status ++ le 2 0 ++ le 4 (s.epochOf n) ++ le 4 value.toNat) s

/-- A channel event whose NEW and OLD have no stated content: free values (log 17). -/
def freeEvent (code n status : Nat) (value : Word32) (s : State) : State :=
  let (k, s1) := s.draw
  chanEvent code n (Config.freeNat k % 256) (Config.freeNat k / 256 % 256) status value s1

/-- Time is trusted (R394). -/
def State.trustedNow (s : State) : Bool :=
  let sel := s.param 0x13000001
  !s.clk.rangeEnd && !(hasBit sel 0 && s.clk.oscStop) && !(hasBit sel 1 && s.clk.lowBak)

/-- Priority of system alarm k (Table 11.3). -/
def sysPrio (k : Nat) : Nat := ([3, 3, 3, 2, 4, 2, 3, 3, 2, 2, 4] : List Nat).getD k 0

/-- Name of system alarm k (Table 11.3). -/
def sysName (k : Nat) : String :=
  (["CTRL_STALL", "FABRIC_STALL", "DATA_STALL", "TOLL_STALL", "NODE_SAFE", "OVER_BUDGET", "SUPPLY_INPUT", "PAIR_DISC",
    "PANEL_MISSING", "ROSTER_TIME", "DEAD_MAN"] : List String).getD k ""

/-- State of system alarm k. -/
def State.sysAlarm (s : State) (k : Nat) : AlState := tget .normal s.bell.sys k

/-- The SYS word: alarm k at bits [2k + 1:2k] (R342). -/
def State.sysWord (s : State) : Nat := s.bell.sys.foldl (fun a x => a + x.2.code * 4 ^ x.1) 0

/-- A Hopper Bell parameter (Table 11.14). -/
def State.hb (s : State) (k : Nat) : Nat := s.param (0x11000000 + k)

/-- HB_ENABLE. -/
def State.hbOn (s : State) : Bool := s.hb 1 == 1

/-- Slot field i of panel slot k: 0 CLASS, 1 BUSES, 2 ADDR, 3 GROUP. -/
def State.slotField (s : State) (k i : Nat) : Nat := s.param (0x11030000 + 4 * k + i)

/-- The group that panel slot k watches (R352). -/
def State.slotGroup (s : State) (k : Nat) : Nat :=
  let g := s.slotField k 3
  if g = 0xFFFF then s.hb 2 else g

/-- Panel slot k at run time. -/
def State.panel (s : State) (k : Nat) : PanelRun := tget PanelRun.initial s.bell.panels k

/-- `s` with panel slot k changed. -/
def State.modPanel (s : State) (k : Nat) (f : PanelRun → PanelRun) : State :=
  { s with bell := { s.bell with panels := tmod PanelRun.initial s.bell.panels k f } }

/-- `s` with the Hopper Bell changed. -/
def State.modBell (s : State) (f : BellSt → BellSt) : State := { s with bell := f s.bell }

/-- A configured slot that is missing (R355, R356). -/
def State.slotMissing (s : State) (k : Nat) : Bool :=
  s.slotField k 0 != 0 && (s.panel k).missing

/-- The condition of system alarm k (Table 11.3). -/
def State.sysCond (s : State) (k : Nat) : Bool :=
  match k with
  | 0 => s.nd.ctrlStalled
  | 1 => s.nd.fabricStalled
  | 2 => s.nd.dataStalled
  | 3 => s.nd.tollStalled
  | 4 => decide (s.nd.mode = .safe)
  | 5 => s.nd.gov.steps.contains .alarm
  | 6 => s.nd.power.lostA || s.nd.power.lostB
  | 7 => s.paired && s.pair.faults % 8192 != 0
  | 8 => s.hbOn && (List.range 64).any s.slotMissing
  | 9 => s.hbOn && !s.trustedNow
  | 10 => decide (s.bell.dm = .expired)
  | _ => false

/-- The management plane runs and has reached the node's BOOT decision. -/
def State.mgmtUp (s : State) : Bool := s.alive && decide (s.nd.mode ≠ .boot) && !s.nd.mgmtStalled

/-- The service region flips with the system alarms' states (Table 1.3, R342), with the trace's FLIP. -/
def flipService (s : State) : State :=
  let r := s.nd.regService.flipAt s.node
  traceFlip 3 r 0 ((s.modNd fun d => { d with regService := r }).modBell fun b => { b with sysImage := b.sys })

/-- System alarm k goes to a state, with its record (R342, Table 12.3). -/
def sysTo (k : Nat) (st : AlState) (origin : Nat) (s : State) : State :=
  let s1 := s.modBell fun b => { b with sys := tset .normal b.sys k st }
  submit .management 0x081 (le 1 k ++ le 1 st.code ++ le 1 origin ++ le 1 0 ++ le 4 s1.sysWord) s1

/-- A raise of system alarm k counts as a call (R343). -/
def State.sysCalls (s : State) (k : Nat) : Bool := k == 10 || (hasBit (s.hb 9) 0 && decide (s.hb 3 ≤ sysPrio k))

/-- System alarm k follows its condition (R342). -/
def sysFollow (k : Nat) (s : State) : State :=
  let st := s.sysAlarm k
  let c := s.sysCond k
  if c && !st.act then
    let call := s.sysCalls k
    sysTo k .actUnack 0 (s.modBell fun b =>
      { b with sysRaised := tset 0 b.sysRaised k s.node, sysCall := b.sysCall || call, dmRaised := b.dmRaised || k == 10 })
  else if !c && st.act then sysTo k (if st = .actUnack then .rtnUnack else .normal) 0 s
  else s

/-- Every system alarm follows its condition, in the unit that executes for its node. -/
def sysFollowAll (s : State) : State :=
  if s.mgmtUp && s.executes then (List.range 11).foldl (fun s k => sysFollow k s) s else s

/-- The HB_STATE record's payload (Table 12.3). -/
def BellSt.record (b : BellSt) : List Byte :=
  le 1 b.stage.code ++ le 1 (bit b.unmanned) ++ le 1 b.dm.code ++ le 1 b.called ++ le 1 b.duty ++ le 3 0

/-- What a message carries beside the running timers (R357). -/
def bellKey (s : State) : List Byte :=
  let b := s.bell
  b.record ++ le 4 s.sysWord ++ le 1 b.overrideEng ++ le 8 (b.overrideUntil.getD 0) ++
    (List.range 64).flatMap fun k => le 1 (s.panel k).keyTaken

/-- The state the duty unit sends its peer, in a layout of the model's own (R357; log 30). -/
def bellMsg (s : State) : List Byte := bellKey s ++ le 4 (s.bell.timer.getD 0xFFFFFFFF) ++ le 4 s.bell.dmLeft

/-- The state sent to the peer. -/
def sendBell (s : State) : State :=
  if s.paired && s.onDuty then (s.modBell fun b => { b with syncAt := s.now }).emit (.peer 3 (bellMsg s)) else s

/-- The state sent to the peer where it differs from that of `old`, a change of a timer's start among it (R357). -/
def sendChange (old s : State) : State :=
  if bellKey s = bellKey old && s.bell.timer.isSome == old.bell.timer.isSome then s else sendBell s

/-- The system alarms follow their conditions between ticks; a change flips the service region and goes to the peer (R342, R357,
Table 1.3). -/
def sysUpdate (s : State) : State :=
  let s1 := sendChange s (sysFollowAll s)
  if s1.sysWord = s.sysWord then s1 else flipService s1

/-- A change of mode: the MODE record and the trace (Tables 12.3, 19.5). -/
def setMode (m : Mode) (cause : Nat) (s : State) : State :=
  if s.nd.mode = m then s
  else
    let s1 := submit .management 0x012 (le 1 s.nd.mode.code ++ le 1 m.code ++ le 2 0) s
    sysUpdate (traceRec 0x02 (le 1 s.nd.mode.code ++ le 1 m.code ++ le 2 cause) (s1.modNd fun d =>
      { d with mode := m, runFrom := if d.mode = .boot then s.node else d.runFrom }))

/-- A part counts as stalled (Table 12.3 STALL): 0 control plane, 1 fabric, 2 data plane, 3 Toll core. -/
def NodeSt.stalled (d : NodeSt) (part : Nat) : Bool :=
  match part with
  | 0 => d.ctrlStalled
  | 1 => d.fabricStalled
  | 2 => d.dataStalled
  | _ => d.tollStalled

/-- The control plane counts as stalled: by its channel region, or by the alarm region of its fabric (Tables 1.5, 1.6). -/
def NodeSt.ctrlDown (d : NodeSt) : Bool := d.ctrlStalled || d.fabricStalled

/-- LOCKED (Table 13.1). -/
def State.clkLocked (s : State) : Bool := decide (s.clk.source = .time) || decide (s.clk.source = .ring)

/-- SOURCE as reads show it: MILLPOND while the data plane is stalled (R385). -/
def State.shownSource (s : State) : ClkSource := if s.nd.dataStalled then .millpond else s.clk.source

/-- The SOURCE record of a change of SOURCE or LOCKED, where the state before showed `old` and `locked` (R395). -/
def sourceRecord (old : ClkSource) (locked : Bool) (s : State) : State :=
  if s.shownSource = old && s.clkLocked == locked then s
  else submit .data 0x103
    (le 1 s.shownSource.code ++ le 1 old.code ++ le 1 (bit s.clkLocked) ++ le 1 0 ++ leInt 4 s.clk.offset) s

/-- A part's stall set or ended, with its record (Tables 1.6, 12.3), and that of SOURCE where the data plane's changes it (R395). The
node fault of the service region follows the control plane, its fabric included. -/
def setStall (part : Nat) (b : Bool) (s : State) : State :=
  sysUpdate (sourceRecord s.shownSource s.clkLocked
    (submit .management 0x015 (le 1 part ++ le 1 (if b then 1 else 2) ++ le 2 0) (s.modNd fun d =>
      match part with
      | 0 => { d with ctrlStalled := b, nodeFault := b || d.fabricStalled }
      | 1 => { d with fabricStalled := b, nodeFault := b || d.ctrlStalled }
      | 2 => { d with dataStalled := b }
      | _ => { d with tollStalled := b })))

/-- The part has updated its region: a stall ends (R41). -/
def stallEnds (part : Nat) (s : State) : State := if s.nd.stalled part then setStall part false s else s

end Sys2Proof.Machine
end

