-- ==== Sys2Proof/Machine/Packets.lean ====
section
/-! DEFINITION. Packets, replies, sessions and the checks of Table 16.4 (chapter 16). -/

namespace Sys2Proof.Machine

/-- Status codes (Table 16.6). -/
def stDone : Nat := 0x0000
def stInProgress : Nat := 0x0001
def stOutcomeUnknown : Nat := 0x0002
def stBadVersion : Nat := 0x0101
def stBadLength : Nat := 0x0102
def stWrongNode : Nat := 0x0103
def stWrongUnit : Nat := 0x0104
def stUnreachable : Nat := 0x0105
def stUnknownOpcode : Nat := 0x0106
def stNoSession : Nat := 0x0201
def stAuthRequired : Nat := 0x0202
def stAuthFail : Nat := 0x0203
def stRights : Nat := 0x0204
def stSeqRange : Nat := 0x0205
def stSeqStale : Nat := 0x0206
def stSessionsFull : Nat := 0x0207
def stBusy : Nat := 0x0301
def stParam : Nat := 0x0302
def stState : Nat := 0x0303
def stResource : Nat := 0x0304
def stToll : Nat := 0x0305
def stReadOnly : Nat := 0x0306
def stBulk : Nat := 0x0307
def stInternal : Nat := 0x03FF

/-- A rights class (Table 16.11), by the least RIGHTS level that grants it (R475); 0 for a sessionless opcode. -/
abbrev Rights := Nat

/-- The rights class of an opcode whose class does not depend on the payload (Tables 16.11, 17.13, 18.10, 19.8): R 1, O 2,
E 3, S 4, sessionless 0; none for an opcode that is not assigned. -/
def opClass : Nat → Option Rights
  | 0x0201 => some 3 | 0x0202 => some 1 | 0x0203 => some 1 | 0x0204 => some 1
  | 0x0210 => some 3 | 0x0211 => some 1 | 0x0212 => some 3 | 0x0213 => some 1 | 0x0214 => some 3 | 0x0215 => some 1
  | 0x0220 => some 3 | 0x0221 => some 1 | 0x0222 => some 1 | 0x0223 => some 3 | 0x0224 => some 2
  | 0x0230 => some 3 | 0x0231 => some 1 | 0x0232 => some 2 | 0x0233 => some 1
  | 0x0240 => some 3 | 0x0241 => some 1 | 0x0242 => some 3 | 0x0243 => some 1 | 0x0244 => some 3
  | 0x0250 => some 3 | 0x0251 => some 1 | 0x0252 => some 2 | 0x0253 => some 1 | 0x0254 => some 2
  | 0x0260 => some 3 | 0x0261 => some 1 | 0x0262 => some 2 | 0x0263 => some 1 | 0x0264 => some 3
  | 0x0270 => some 3 | 0x0271 => some 1 | 0x0272 => some 1
  | 0x0280 => some 3 | 0x0281 => some 1 | 0x0282 => some 2 | 0x0283 => some 3 | 0x0284 => some 2 | 0x0285 => some 1
  | 0x0301 => some 1 | 0x0302 => some 4 | 0x0303 => some 4 | 0x0304 => some 4 | 0x0305 => some 2
  | 0x1001 => some 3 | 0x1002 => some 1 | 0x1003 => some 1 | 0x1004 => some 1
  | 0x1010 => some 2 | 0x1011 => some 2 | 0x1012 => some 3
  | 0x1030 => some 3 | 0x1031 => some 1 | 0x1032 => some 1 | 0x1033 => some 2
  | 0x1101 => some 1 | 0x1102 => some 2 | 0x1103 => some 2
  | 0x1201 => some 1 | 0x1202 => some 1 | 0x1203 => some 1 | 0x1204 => some 1
  | 0x1301 => some 1 | 0x1302 => some 3 | 0x1303 => some 3 | 0x1304 => some 1 | 0x1305 => some 1 | 0x1306 => some 2
  | 0x1401 => some 1 | 0x1402 => some 1 | 0x1403 => some 1
  | 0x1501 => some 1 | 0x1502 => some 3 | 0x1503 => some 3
  | 0x1601 => some 0 | 0x1602 => some 1 | 0x1603 => some 1 | 0x1604 => some 0
  | 0x1610 => some 1 | 0x1611 => some 3
  | 0x1620 => some 1 | 0x1621 => some 1 | 0x1622 => some 1 | 0x1623 => some 1 | 0x1624 => some 1
  | 0x1701 => some 3 | 0x1702 => some 1 | 0x1703 => some 3 | 0x1704 => some 3 | 0x1705 => some 1 | 0x1706 => some 3
  | 0x1710 => some 1 | 0x1720 => some 1 | 0x1721 => some 4 | 0x1722 => some 4 | 0x1723 => some 4
  | 0x1801 => some 1 | 0x1802 => some 1 | 0x1803 => some 4 | 0x1804 => some 4 | 0x1805 => some 1 | 0x1806 => some 4
  | 0x1901 => some 1 | 0x1902 => some 1 | 0x1903 => some 1 | 0x1904 => some 1
  | _ => none

/-- The owner's class for a bulk object and direction (R515, R517, R520, R547, R558), none for an unassigned object. -/
def bulkClass (object : Nat) (write : Bool) : Option Rights :=
  if object = 0x01 then some 3
  else if object = 0x02 then some (if write then 4 else 1)
  else if object = 0x03 then some 4
  else if object = 0x10 then some (if write then 4 else 1)
  else if object = 0x11 then some 4
  else if object = 0x20 then some 1
  else none

/-- The transfer a handle names. -/
def State.bulkOf (s : State) (h : Nat) : Option Bulk := tget none s.host.bulk h

/-- A change record as sent (Table 17.2). -/
structure SentRecord where
  pid : Nat
  len : Nat
  /-- Bytes 5 to 7: DEFAULT and the reserved bits. -/
  flags : Nat
  value : Nat
  deriving DecidableEq, Repr

/-- The change records of a payload, and whether they fill it exactly (R501); those that are whole where they do not. -/
def parseChanges : Nat → List Byte → List SentRecord × Bool
  | 0, bs => ([], bs.isEmpty)
  | _ + 1, [] => ([], true)
  | fuel + 1, bs =>
    let len := byteAt bs 4
    let n := 8 + pad4 len
    if bs.length < n || 24 < len then ([], false)
    else
      let (r, ok) := parseChanges fuel (bs.drop n)
      (⟨fieldAt bs 0 4, len, fieldAt bs 5 3, fieldAt bs 8 (pad4 len)⟩ :: r, ok)

/-- The rights class of a request, its payload considered (R491, R498; CLEAR of BAY_FS and PNR_PORT, Table 16.11). -/
def classOf (op : Nat) (pl : List Byte) (s : State) : Rights :=
  let base := (opClass op).getD 1
  if op = 0x0272 || op = 0x1402 then if hasBit (byteAt pl 1) 0 then 2 else 1
  else if op = 0x1620 then (bulkClass (byteAt pl 0) (byteAt pl 1 == 1)).getD 1
  else if op = 0x1621 || op = 0x1623 then
    match s.bulkOf (byteAt pl 0) with
    | some b => (bulkClass b.object b.write).getD 1
    | none => 1
  else if op = 0x1701 then
    if (parseChanges pl.length pl).1.any fun r => isKeySlot r.pid then 4 else base
  else base

/-- FLAGS bits (Table 16.2). -/
def flagReply : Nat := 7
def flagAuth : Nat := 6
def flagLocal : Nat := 5
def flagPosA : Nat := 4
def flagPosB : Nat := 3

/-- The 24 header bytes (Table 16.1) with a payload length. -/
def headerBytes (p : Packet) (len : Nat) : List Byte :=
  le 4 0x31545645 ++ le 1 p.version ++ le 1 p.flags ++ le 2 p.opcode ++ le 1 p.session ++ le 1 p.retry ++ le 2 p.status ++
    le 4 p.sequence ++ le 2 p.target ++ le 2 p.source ++ le 2 len ++ le 2 p.reserved

/-- The whole packet (R465). -/
def packetBytes (p : Packet) : List Byte :=
  let b := headerBytes p p.payload.length ++ p.payload
  b ++ le 4 (crc32 b)

/-- The MAC of a packet whose payload without the MAC is `p.payload` (R476). -/
def macOf (key : List Byte) (p : Packet) : List Byte :=
  hmac key (headerBytes p (p.payload.length + 32) ++ p.payload)

/-- The packet of a request. -/
def reqPacket (rq : Request) (op : Nat) : Packet :=
  ⟨rq.link, rq.version, rq.flags, op, rq.session, rq.retry, rq.status, rq.sequence, rq.target, rq.source, rq.reserved,
    rq.payload⟩

/-- The ticket of a request. -/
def reqTicket (rq : Request) (op : Nat) : Ticket :=
  ⟨rq.link, rq.flags, op, rq.session, rq.retry, rq.sequence, rq.source⟩

/-- Two links name one sender (Table 16.3): the ring port plays no part, and the packet lane keeps the binding. -/
def sameSender (a b : Link) : Bool :=
  a.svc == b.svc && a.src == b.src && (!a.svc || a.udp == b.udp)

/-- The session a request names is open and bound to its sender. -/
def State.sessionFor (s : State) (k : Nat) (l : Link) : Option Session :=
  if k < 8 && decide ((s.sess k).state ≠ .free) && sameSender (s.sess k).link l then some (s.sess k) else none

/-- The trace never shows a payload of groups 0x16 and 0x17 or of class S (R555). -/
def traceHidden (op : Nat) : Bool := op / 256 == 0x16 || op / 256 == 0x17 || opClass op == some 4

/-- CMD_IN or CMD_OUT (Table 19.5). -/
def traceCmd (kind step : Nat) (p : Packet) (pl : List Byte) (s : State) : State :=
  let shown := if traceHidden p.opcode then zeros (min 16 pl.length) else pl.take 16
  traceRec kind (le 1 (bit p.link.svc) ++ le 1 step ++ le 2 0 ++ headerBytes p p.payload.length ++ fit 16 shown) s

/-- The SESSION record (Table 16.16). -/
def sessionRecord (k event : Nat) (ss : Session) (s : State) : State :=
  submit .management 0x240
    (le 1 k ++ le 1 event ++ le 1 ss.keySlot ++ le 1 (bit ss.link.svc) ++ le 4 ss.link.src) s

/-- The COMMAND record (Table 16.16). KEY_SLOT and RIGHTS of a request without a session are free (log 39). -/
def commandRecord (tk : Ticket) (status : Nat) (s0 : State) : State :=
  let (k, s) := s0.draw
  let key := if tk.session < 8 then le 1 (s.sess tk.session).keySlot ++ le 1 (s.sess tk.session).rights
    else fit 2 (Config.freeBytes k)
  submit .management 0x241
    (le 2 tk.opcode ++ le 2 status ++ le 4 tk.sequence ++ le 1 tk.session ++ key ++ le 1 0 ++ le 4 s.cfg.liveEpoch) s

/-- A packet put on its way: SVC at once, the rings through the reply queue of 64 packets, behind which the management
plane waits (R39), the packet lane to the peer. -/
def send (p : Packet) (s0 : State) : State :=
  let auth := hasBit p.flags flagAuth
  let s := traceCmd 0x11 0 p (if auth then p.payload.take (p.payload.length - 32) else p.payload) s0
  if p.link.viaPeer then s.emit (.peer 2 (packetBytes p))
  else if p.link.svc then s.emit (.packet p)
  else if s.host.replyQueue.length < 64 && s.host.replyWait.isEmpty then
    { s with host := { s.host with replyQueue := s.host.replyQueue ++ [p] } }
  else { s with host := { s.host with replyWait := s.host.replyWait ++ [p] } }

/-- The reply to a request (R466), with a MAC where the request carries AUTH and its session is open (R476; log 9). -/
def replyPacket (tk : Ticket) (status : Nat) (pl : List Byte) (s : State) : Packet :=
  let key := (s.sessionFor tk.session tk.link).map (·.key)
  let auth := hasBit tk.flags flagAuth && key.isSome
  let flags := 128 + (if auth then 64 else 0) + (if s.atB then 8 else 16)
  let p : Packet := ⟨tk.link, 1, flags, tk.opcode, tk.session, tk.retry, status, tk.sequence, tk.source, s.ponor.nodeAddr, 0, pl⟩
  match auth, key with
  | true, some k => { p with payload := pl ++ macOf k p }
  | _, _ => p

/-- A reply that changes nothing in the session. -/
def answer (tk : Ticket) (status : Nat) (pl : List Byte) (s : State) : State :=
  let s1 := if status = stBusy then
      ({ s with host := { s.host with busyReplies := s.host.busyReplies + 1 } } : State).count 10 1 else s
  send (replyPacket tk status pl s1) s1

/-- The mark of a sequence number of a session (R478), none for a free one. -/
def markOf (ss : Session) (seq : Nat) : Option SeqMark :=
  (ss.marks.find? fun m => m.1 == seq).map (·.2)

/-- A sequence number's mark set. -/
def setMark (ss : Session) (seq : Nat) (m : SeqMark) : Session :=
  { ss with marks := (ss.marks.filter fun x => x.1 != seq) ++ [(seq, m)] }

/-- (a - b) modulo 2^32. -/
def seqDiff (a b : Nat) : Nat := (a + 4294967296 - b % 4294967296) % 4294967296

/-- The statuses that leave the SEQUENCE free (Table 16.6, R478). -/
def unconsumed (status : Nat) : Bool := (0x0101 ≤ status && status ≤ 0x0301)

/-- The request still has its place in its session: outstanding, or sessionless. -/
def State.expects (s : State) (tk : Ticket) : Bool :=
  if tk.session < 8 then
    match s.sessionFor tk.session tk.link with
    | some ss => decide (markOf ss tk.sequence = some .outstanding)
    | none => false
  else true

/-- The session after a final reply: complete with the reply, or free again where the status consumes nothing. -/
def settle (tk : Ticket) (status : Nat) (pl : List Byte) (ss : Session) : Session :=
  if unconsumed status then { ss with marks := ss.marks.filter fun x => x.1 != tk.sequence }
  else setMark ss tk.sequence (.complete status pl)

/-- A session as its copy for the peer. -/
def sessCopy (k : Fin 8) (ss : Session) : SessCopy where
  k := k
  proven := decide (ss.state = .proven)
  keySlot := ss.keySlot
  rights := ss.rights
  link := ss.link
  high := ss.high
  marks := ss.marks.map fun m => (m.1, match m.2 with | .outstanding => none | .complete st pl => some (st, pl))
  key := ss.key
  sub := ss.sub
  hold := ss.hold
  notifyHold := ss.notifyHold
  notifySeq := ss.notifySeq

/-- The duty unit passes its session table to the peer (R484). -/
def passTable (s : State) : State :=
  if s.paired && s.onDuty then
    s.emit (.sessions ((List.finRange 8).filterMap fun (k : Fin 8) =>
      if (s.sess k).state = .free then none else some (sessCopy k (s.sess k))))
  else s

/-- The final reply of a taken request (R478, R482, R484, R499): its number is complete with this reply, a COMMAND record
stands for class E and S, and the reply goes out. An ended session gets none (R479). -/
def finish (cls : Rights) (tk : Ticket) (status : Nat) (pl : List Byte) (s : State) : State :=
  if !s.expects tk then s
  else
    let s1 := if tk.session < 8 then s.modSess tk.session (settle tk status pl) else s
    let s2 := if 3 ≤ cls && !unconsumed status then commandRecord tk status s1 else s1
    answer tk status pl (if tk.session < 8 then passTable s2 else s2)

/-- The final reply with the class of the opcode alone. -/
def reply (tk : Ticket) (status : Nat) (pl : List Byte) (s : State) : State :=
  finish ((opClass tk.opcode).getD 1) tk status pl s

/-- IN_PROGRESS of reply kind L (Table 16.5). -/
def inProgress (tk : Ticket) (s : State) : State := answer tk stInProgress [] s

/-- The bytes of a transfer that have been written, each 8-byte granule counted once (Table 16.10). -/
def writtenBytes (b : Bulk) : Nat := b.written.foldl (fun a iv => a + (iv.2 - iv.1)) 0

/-- The BULK record (Table 16.16). -/
def bulkRecord (h event : Nat) (b : Bulk) (s : State) : State :=
  submit .management 0x242
    (le 1 h ++ le 1 b.object ++ le 1 event ++ le 1 b.session ++ le 4 b.total ++ le 4 (writtenBytes b) ++ le 4 b.crc) s

/-- A transfer ends (R494, R495). -/
def endBulk (event h : Nat) (s : State) : State :=
  match s.bulkOf h with
  | none => s
  | some b => bulkRecord h event b { s with host := { s.host with bulk := tset none s.host.bulk h none } }

/-- Every transfer that satisfies p ends. -/
def endBulks (event : Nat) (p : Bulk → Bool) (s : State) : State :=
  [0, 1, 2, 3].foldl (fun s h => match s.bulkOf h with | some b => if p b then endBulk event h s else s | none => s) s

/-- A CONFIG record (Table 17.12). -/
def configRecord (event session phases status : Nat) (s : State) : State :=
  submit .management 0x1C0
    (le 1 event ++ le 1 session ++ le 2 phases ++ le 4 s.cfg.liveEpoch ++ le 4 s.liveCrc ++ le 2 s.cfg.freezeMs ++ le 2 status) s

/-- Staging ends, with its record where something was staged (R502, Table 17.12). -/
def endStaging (session : Nat) (s : State) : State :=
  let s1 := if s.cfg.staged.isEmpty then s else configRecord 6 session 0 0 s
  { s1 with cfg := { s1.cfg with staged := [], stageOwner := none } }

/-- The Granary freeze ends (R374), with its FREEZE record. -/
def endFreeze (event : Nat) (s : State) : State :=
  match s.grn.freeze with
  | none => s
  | some f => submit .management 0x003 (le 1 event ++ le 1 f.holder ++ le 2 0 ++ le 4 f.newest)
      { s with grn := { s.grn with freeze := none } }

/-- A session goes, with its outstanding replies, clock staging, freeze, transfers, staging and subscriptions (R479). -/
def dropSession (k : Nat) (s : State) : State :=
  if (s.sess k).state = .free then s
  else
    let s1 := if s.cfg.stageOwner = some k then endStaging k s else s
    let s2 := match s1.grn.freeze with
      | some f => if f.holder = k then endFreeze 7 s1 else s1
      | none => s1
    let s3 := endBulks 5 (fun b => b.session == k) s2
    let s4 : State := { s3 with clk := { s3.clk with
      staging := s3.clk.staging.filter (·.session != k), shadows := s3.clk.shadows.filter (·.session != k),
      lapsed := s3.clk.lapsed.filter (· != k), wResult := tdel k s3.clk.wResult } }
    s4.modSess k fun _ => Session.closed

/-- A session ends (R479), with a SESSION record that says why. -/
def endSession (event k : Nat) (s : State) : State :=
  if (s.sess k).state = .free then s else passTable (sessionRecord k event (s.sess k) (dropSession k s))

/-- AUTH_FAIL in a session: recorded, and the fifth within 60 s ends it (R479). -/
def authFail (tk : Ticket) (ss : Session) (s : State) : State :=
  let fails := s.now :: ss.authFails.filter fun t => s.now < t + 60000000
  let s1 := (commandRecord tk stAuthFail (s.modSess tk.session fun x => { x with authFails := fails })).count 12 1
  let s2 := answer tk stAuthFail [] s1
  if fails.length ≥ 5 then endSession 6 tk.session s2 else s2

/-- The peer of a unit that does not execute a request (R472): what addressing gives. -/
inductive Addressed where
  | here | pass | wrongUnit | unreachable
  deriving DecidableEq, Repr

/-- R472: who executes a request with these FLAGS. -/
def State.addressed (s : State) (flags : Nat) : Addressed :=
  let a := hasBit flags flagPosA
  let b := hasBit flags flagPosB
  let away : Addressed := if !s.paired then .wrongUnit else if s.peerLost then .unreachable else .pass
  if a && b then .wrongUnit
  else if !a && !b then if s.executes then .here else away
  else if b == s.atB then .here else away

/-- Opcodes a unit that is not the duty unit executes as unit requests besides class R (R473). -/
def unitAllowed (op : Nat) (pl : List Byte) (s : State) : Bool :=
  let object := if op = 0x1620 then some (byteAt pl 0) else (s.bulkOf (byteAt pl 0)).map (·.object)
  let store := object == some 0x02 || object == some 0x03
  (opClass op).getD 0 ≤ 1 && !([0x1620, 0x1621, 0x1623].contains op) ||
    [0x0302, 0x0303, 0x0304, 0x0305, 0x1502, 0x1306, 0x0272, 0x1402, 0x1721, 0x1722, 0x1723].contains op ||
    ([0x1620, 0x1621, 0x1623].contains op && (store || classOf op pl s ≤ 1))

/-- What the checks of Table 16.4 find about a request: the step of the first check that fails and its outcome, or the
class and payload of a request that is taken. -/
inductive Verdict where
  /-- Step 2: discarded (R468, R471). -/
  | drop
  /-- The management plane is stalled (Table 1.6). -/
  | stalled
  /-- Refused at a step with a status. -/
  | refuse (step status : Nat)
  /-- Step 6: passed to the peer. -/
  | pass
  /-- Step 9: the MAC is wrong. -/
  | badMac
  /-- Step 10: the key's rights are below the class. -/
  | lowRights
  /-- Step 11 or 12, which the session has reached: answered with a status and a stored payload. -/
  | again (step status : Nat) (pl : List Byte)
  /-- Step 13: taken, with its class and its payload without the MAC. -/
  | take (cls : Rights) (pl : List Byte)
  deriving DecidableEq, Repr

/-- The last check of Table 16.4 that the packet reached. -/
def Verdict.step : Verdict → Nat
  | .drop => 2 | .stalled => 2 | .refuse n _ => n | .pass => 6 | .badMac => 9 | .lowRights => 10 | .again n _ _ => n
  | .take _ _ => 13

/-- Steps 11 and 12 (R478) for a session that has passed steps 8 to 10. -/
def sequenceVerdict (seq : Nat) (cls : Rights) (pl : List Byte) (ss : Session) : Verdict :=
  let d := seqDiff seq ss.high
  let taken : Verdict :=
    if 32 ≤ (ss.marks.filter fun m => decide (m.2 = SeqMark.outstanding)).length then .again 12 stBusy []
    else .take cls pl
  if 1 ≤ d ∧ d ≤ 256 then taken
  else if d = 0 ∨ 4294967296 - 63 ≤ d then
    match markOf ss seq with
    | none => taken
    | some .outstanding => .again 11 stInProgress []
    | some (.complete st r) => .again 11 st r
  else if d < 2147483648 then .again 11 stSeqRange []
  else .again 11 stSeqStale []

/-- The payload without the MAC. -/
def bareBytes (rq : Request) : List Byte :=
  if hasBit rq.flags flagAuth then rq.payload.take (rq.payload.length - 32) else rq.payload

/-- Steps 8 to 12 for an opcode with a session. -/
def sessionVerdict (op : Nat) (rq : Request) (s : State) : Verdict :=
  match s.sessionFor rq.session rq.link with
  | none => .refuse 8 stNoSession
  | some ss =>
    let auth := hasBit rq.flags flagAuth
    let pl := bareBytes rq
    let cls := classOf op pl s
    if 2 ≤ cls && !auth then .refuse 9 stAuthRequired
    else if auth && !(macOf ss.key { reqPacket rq op with payload := pl } == rq.payload.drop pl.length) then .badMac
    else if ss.rights < cls then .lowRights
    else sequenceVerdict rq.sequence cls pl ss

/-- Steps 3 to 5 of Table 16.4: the first that fails. -/
def frameVerdict (rq : Request) (s : State) : Option Verdict :=
  if rq.version ≠ 1 then some (.refuse 3 stBadVersion)
  else if 1024 < rq.payload.length ∨ (hasBit rq.flags flagAuth ∧ rq.payload.length < 32) then some (.refuse 4 stBadLength)
  else if !hasBit rq.flags flagLocal && rq.target != s.ponor.nodeAddr then some (.refuse 5 stWrongNode)
  else none

/-- The checks of Table 16.4 in order for opcode `op`. -/
def verdict (op : Nat) (rq : Request) (s : State) : Verdict :=
  let strayed := !rq.link.svc && !rq.link.viaPeer && rq.source != rq.link.src
  if hasBit rq.flags flagReply || strayed then .drop
  else if s.nd.mgmtStalled then .stalled
  else
    match frameVerdict rq s with
    | some v => v
    | none =>
      match s.addressed rq.flags with
      | .wrongUnit => .refuse 6 stWrongUnit
      | .unreachable => .refuse 6 stUnreachable
      | .pass => .pass
      | .here =>
        match opClass op with
        | none => .refuse 7 stUnknownOpcode
        | some 0 => if rq.session = 255 && !hasBit rq.flags flagAuth then .take 0 rq.payload else .refuse 8 stNoSession
        | some _ => sessionVerdict op rq s

/-- A node request waits no longer: the packet leaves the queue it waited in. -/
def dequeue (p : Packet) (s : State) : State :=
  { s with host := { s.host with cmdQueue := removeFirst (fun q => decide (q = p)) s.host.cmdQueue,
                                 svcQueue := removeFirst (fun q => decide (q = p)) s.host.svcQueue } }

/-- A packet discarded and counted (R471, Table 16.4 steps 1 and 2). -/
def discard (s : State) : State :=
  ({ s with host := { s.host with discarded := s.host.discarded + 1 } } : State).count 9 1

/-- A request passed unchanged to the peer (R472). -/
def passOn (op : Nat) (rq : Request) (s : State) : State :=
  ({ s with host := { s.host with passed := s.host.passed ++ [reqTicket rq op] } } : State).emit
    (.peer 1 (packetBytes (reqPacket rq op)))

/-- A session that has brought a valid packet (R477, R479): its idle time starts again, and a correct MAC proves it. -/
def heard (rq : Request) (s : State) : State :=
  let ss := s.sess rq.session
  let auth := hasBit rq.flags flagAuth
  let s1 := s.modSess rq.session fun x => { x with lastValid := s.now, state := if auth then .proven else x.state }
  if auth && decide (ss.state ≠ .proven) then sessionRecord rq.session 2 ss s1 else s1

/-- A number taken (R478): H moves up to a new number, and the number is outstanding. -/
def takeNumber (seq : Nat) (ss : Session) : Session :=
  let d := seqDiff seq ss.high
  let ss' := if 1 ≤ d ∧ d ≤ 256 then
      { ss with high := seq, marks := ss.marks.filter fun m => decide (seqDiff seq m.1 < 64) }
    else ss
  setMark ss' seq .outstanding

/-- The state after the checks of a request that is not taken. -/
def settleVerdict (op : Nat) (rq : Request) (s : State) : Verdict → State
  | .drop => discard s
  | .stalled => if rq.link.svc then s else answer (reqTicket rq op) stBusy [] s
  | .refuse _ st => answer (reqTicket rq op) st [] s
  | .pass => passOn op rq s
  | .badMac => authFail (reqTicket rq op) (s.sess rq.session) s
  | .lowRights => answer (reqTicket rq op) stRights [] (commandRecord (reqTicket rq op) stRights (heard rq s))
  | .again _ st pl => answer (reqTicket rq op) st pl (heard rq s)
  | .take _ _ => s

/-- The state in which the owning chapter's part of a taken request begins (step 13). -/
def takenState (cls : Rights) (rq : Request) (s : State) : State :=
  if cls = 0 then s else passTable (((heard rq s).modSess rq.session (takeNumber rq.sequence)).count 8 1)

/-- A request that the sealed or broken Toll partition does not let pass (R163, R546): one of group 0x02 that names a channel of bays
0 and 1, apart from CH_GET and CH_STATUS, or BAY_SET of these bays. -/
def State.tollBars (s : State) (op : Nat) (pl : List Byte) : Bool :=
  let chan := op / 256 == 2 && decide (op % 256 < 0x70) && !([0x0202, 0x0203, 0x0204].contains op)
  s.tollOwns &&
    ((chan && decide (2 ≤ pl.length) && decide (fieldAt pl 0 2 < 64)) || (op == 0x0270 && !pl.isEmpty && decide (byteAt pl 0 < 2)))

/-- A request judged by Table 16.4 (R474); a taken one is given to the owning chapter's part `body`, except that a unit
that does not execute node requests refuses what R473 does not list. -/
def runRequest (op : Nat) (rq : Request) (body : Rights → Ticket → List Byte → State → State) (s0 : State) : State :=
  let v := verdict op rq s0
  let s := traceCmd 0x10 v.step (reqPacket rq op) (bareBytes rq) (dequeue (reqPacket rq op) s0)
  match v with
  | .take cls pl =>
    let s1 := takenState cls rq s
    if s1.tollBars op pl then finish cls (reqTicket rq op) stToll [] s1
    else if s1.executes || unitAllowed op pl s1 then body cls (reqTicket rq op) pl s1
    else finish cls (reqTicket rq op) stState [] s1
  | w => settleVerdict op rq s w

end Sys2Proof.Machine
end

