-- ==== Sys2Proof/Machine/Time.lean ====
section
/-! DEFINITION. The passing of time: physical time, node time, the clock, and the flips that fall due (R35, R43; log 10). -/

namespace Sys2Proof.Machine

/-- What is slewed in `dt` µs: at most 200 ppm towards the target (R398), a free amount within that (log 11); nothing while the data
plane is stalled (R385). -/
def slewPart (dt : Nat) (s : State) : Int × State :=
  if s.clk.slew = 0 || s.nd.dataStalled then (0, s)
  else
    let (k, s1) := s.draw
    let r : Nat := min (Config.freeNat k % (dt / 5 + 1)) s.clk.slew.natAbs
    (if s.clk.slew < 0 then -(r : Int) else r, s1)

/-- Node time after `dt` µs of physical time with `r` ns slewed. -/
def slewNode (dt : Nat) (r : Int) (s : State) : State :=
  let acc := s.clk.frac + r
  { s with node := ((s.node : Int) + dt + acc / 1000).toNat,
           clk := { s.clk with slew := s.clk.slew - r, frac := acc % 1000 } }

/-- The millpond clock after `dt` µs: slaved to node time while the logic domain is on, within ±50 ppm of physical time,
free within that, while it is off (R385; log 11). At the end of its range it stands still (R386). -/
def clockAfter (dt : Nat) (s : State) : State :=
  if s.clk.rangeEnd then s
  else if s.logicOn then { s with clk := { s.clk with clock := s.clk.clock + dt } }
  else
    let (k, s1) := s.draw
    let w := dt / 20000
    let d := Config.freeNat k % (2 * w + 1)
    { s1 with clk := { s1.clk with clock := s1.clk.clock + dt + d - w } }

/-- Physical time moved on by `dt` µs with `r` ns slewed. While the data plane is stalled the cycles run from the logic oscillator
(Table 1.6), whose count goes on here; while the logic domain is off node time stands still. The trace port sends 25
bytes each microsecond (R554). -/
def passTime (dt : Nat) (r : Int) (s : State) : State :=
  let s1 := if s.logicOn then slewNode dt r s else s
  let s2 := clockAfter dt s1
  { s2 with now := s2.now + dt, trace := { s2.trace with waiting := s2.trace.waiting - 25 * dt } }

/-- Physical time moved on by `dt` µs. -/
def elapse (dt : Nat) (s : State) : State :=
  if dt = 0 then s
  else
    let (r, s1) := slewPart dt s
    passTime dt r s1

/-- Physical time moved on until node time has advanced by `gap` µs, the slewing of that time included (R44). -/
def elapseTo (gap : Nat) (s : State) : State :=
  let (r, s1) := slewPart (gap - 2) s
  let ahead := (s1.clk.frac + r) / 1000
  passTime ((gap : Int) - ahead).toNat r s1

/-- CHANNEL records of a flip: channels whose SEQ changed (Table 19.5). -/
def traceChannels (old new : Tbl Result) (s : State) : State :=
  new.foldl (fun s (n, r) =>
    if (tget Result.initial old n).seq = r.seq then s else traceRec 0x21 (le 2 n ++ resultBytes r) s) s

/-- The number of entries that the next trace records show. -/
def changedCount {α : Type} (d : α) (enc : α → List Byte) (old new : Tbl α) : Nat :=
  (new.filter fun (k, v) => enc (tget d old k) != enc v).length

/-- The channel region flips with what the image write left (Table 1.2). -/
def flipChannel (s : State) : State :=
  match s.field.imageNext with
  | none => s
  | some (t, new, words) =>
    if s.node < t then s
    else
      let old := s.field.image
      let r := s.nd.regChannel.flipAt t
      let b := t / 10000 * 10000
      let held := if s.nd.regChannel.flip ≤ b then some (b, old, s.field.words) else s.field.atSweep
      let fl : FieldSt := { s.field with image := new, words := words, atSweep := held, imageNext := none }
      let s1 : State := { s with field := fl, nd := { s.nd with regChannel := r } }
      let k := (new.filter fun (n, x) => (tget Result.initial old n).seq != x.seq).length
      traceChannels old new (traceFlip 0 r k s1)

/-- POINT and GROUP records of a flip (Table 19.5). -/
def traceEntries {α : Type} (kind : Nat) (d : α) (enc : α → List Byte) (old new : Tbl α) (s : State) : State :=
  new.foldl (fun s (k, v) => if enc (tget d old k) == enc v then s else traceRec kind (le 2 k ++ enc v) s) s

/-- Records of a sweep submitted at its flip, stamped with their own times. -/
def submitAll (port : GrnPort) (rs : List Submission) (s : State) : State :=
  rs.foldl (fun s r => submitAt port r.code r.time r.payload s) s

/-- Replies that waited for the sweep. -/
def replyAll (rs : List (Ticket × Nat × List Byte)) (s : State) : State :=
  rs.foldl (fun s (tk, st, pl) => reply tk st pl s) s

/-- The alarm region flips with the sweep's result; its records are submitted and its replies go out (R29, Table 16.5). -/
def flipAlarm (s : State) : State :=
  match s.alarm.next with
  | none => s
  | some nx =>
    if s.node < nx.flip then s
    else
      let a := s.alarm
      let r := s.nd.regAlarm.flipAt nx.flip
      let s1 : State := { s with alarm := { a with imgPts := a.pts, grps := nx.grps, imgGrps := nx.grps, next := none },
                                 nd := { s.nd with regAlarm := r } }
      let n := changedCount PtRun.initial ptBytes a.imgPts a.pts + changedCount GrpEntry.initial grpBytes a.imgGrps nx.grps
      let s2 := traceFlip 1 r n s1
      let s3 := traceEntries 0x22 PtRun.initial ptBytes a.imgPts a.pts s2
      let s4 := traceEntries 0x23 GrpEntry.initial grpBytes a.imgGrps nx.grps s3
      replyAll nx.replies (submitAll .control nx.recs ((s4.count 3 1).peak 5 (1000 * (nx.flip - a.sweepAt))))

/-- A slot at a flip of the remote region: STALE when it has taken nothing in the last 4 cycles or the entry says so
(R420). -/
def agedSlot (r : RemoteSlot) : RemoteSlot :=
  let age := min 5 (r.age + 1)
  { r with age := age, stale := r.stale || decide (5 ≤ age) }

/-- The remote region flips with every DATA frame taken by then (R414, R420). -/
def flipRemote (s : State) : State :=
  match s.ponor.flipAt with
  | none => s
  | some t =>
    if s.node < t then s
    else
      let r := s.nd.regRemote.flipAt t
      let work := tmap RemoteSlot.initial (fun _ x => agedSlot x) s.ponor.work
      let b := t / 10000 * 10000
      let held := if s.nd.regRemote.flip ≤ b then some (b, s.ponor.slots) else s.ponor.atSweep
      let s1 : State := { s with ponor := { s.ponor with slots := work, work := work, flipAt := none, atSweep := held },
                                 nd := { s.nd with regRemote := r } }
      traceFlip 2 r (changedCount RemoteSlot.initial slotBytes s.ponor.slots work) s1

/-- The flips that have fallen due. -/
def dueFlips (s : State) : State := flipRemote (flipAlarm (flipChannel s))

/-- A command at physical time `t` begins: nothing sent yet, time moved on to `t` where `t` lies ahead, due flips done. -/
def State.begin (s : State) (t : Micros) : State :=
  dueFlips (elapse (t - s.now) { s with out := [] })

/-- A command at the next node time that is a multiple of `q`, other than `last`: node time stands exactly there (R43). -/
def State.beginAt (s : State) (q : Nat) (last : Option Micros) : State :=
  if !s.logicOn then { s with out := [] }
  else
    let t := nextStart s.node q last
    let s1 := elapseTo (t - s.node) { s with out := [] }
    dueFlips { s1 with node := t }

/-- The next control-cycle boundary (R43). -/
def State.beginCycle (s : State) : State :=
  let s1 := s.beginAt 1000 s.nd.cycleAt
  if s1.logicOn then s1.modNd fun d => { d with cycleAt := some s1.node } else s1

/-- The next ring cycle start (R43). -/
def State.beginRing (s : State) : State :=
  let s1 := s.beginAt 250 s.ponor.cycleAt
  if s1.logicOn then { s1 with ponor := { s1.ponor with cycleAt := some s1.node } } else s1

/-- A command packet's row: nothing comes of it while the logic domain is off or a cold reset holds the node (R116). -/
def runPacket (op : Nat) (rq : Request) (body : Rights → Ticket → List Byte → State → State) (s : State) : State :=
  let s1 := s.begin rq.t
  if s1.alive then runRequest op rq body s1 else s1

/-- What every meaning answers with. -/
abbrev Res := Host.Outcome State Fault Refusal

/-- A command whose own part answers at once (kind I): a status and a reply payload. -/
def answerNow (op : Nat) (rq : Request) (f : Ticket → List Byte → State → Nat × List Byte × State) (s : State) : Res :=
  .next (runPacket op rq (fun cls tk pl s => let (st, r, s') := f tk pl s; finish cls tk st r s') s)

/-- A request for the commit mailbox: written at once into an empty slot, otherwise it waits its turn (R36). -/
def postWork (w : MbxWork) (s : State) : State :=
  if s.host.mbx = .empty && s.host.mbxWait.isEmpty then { s with host := { s.host with mbx := .ready [w] } }
  else { s with host := { s.host with mbxWait := s.host.mbxWait ++ [w] } }

/-- A command that the mailbox carries (kind B): the owning chapter's refusal at once, or the request waits for its
boundary. -/
def answerMailbox (op : Nat) (rq : Request) (check : List Byte → State → Option Nat) (s : State) : Res :=
  .next (runPacket op rq (fun cls tk pl s =>
    match check pl s with
    | some st => finish cls tk st [] s
    | none => postWork (.command tk pl) s) s)

/-- A command without payload that reads the state. -/
def plainRead (f : State → List Byte) (_tk : Ticket) (pl : List Byte) (s : State) : Nat × List Byte × State :=
  if pl.isEmpty then (stDone, f s, s) else (stParam, [], s)

end Sys2Proof.Machine
end

