-- ==== Sys2Proof/Machine/Setup.lean ====
section
/-! DEFINITION. Staging (R20, R163, R165, R502, R503) and the setup commands of every chapter: each stages the whole setup of
one object, or returns it as a bank holds it. -/

namespace Sys2Proof.Machine

/-- Staging holds at most 1 MiB of change records (R502). -/
def stageMax : Nat := 1048576

/-- Why records are refused: the status, the index of the record and, for a value, the object and field at fault. -/
structure StageErr where
  status : Nat
  index : Nat
  field : Option Nat
  deriving DecidableEq, Repr

/-- The channel of bays 0 and 1 that a parameter belongs to is the Toll core's (R163, R503). -/
def tollHeld (pid : Nat) : Bool :=
  match Subj.ofPid pid with
  | some (j, k, _) =>
    (match j with
     | .lane => false | .pt => false | .grp => false
     | .bay => decide (k < 2)
     | _ => decide (k < 64))
  | none => 0x03001000 ≤ pid && pid < 0x03001040

/-- A change in the form staging keeps: a value at its default is the default (R504). ENABLE of the root group is always 1
(Table 11.2). -/
def normal (ch : Change) : Change :=
  if ch.1 = Subj.pid .grp 0 1 then (ch.1, none)
  else match ch.2 with
  | none => ch
  | some v => if !floatingDefault ch.1 && v == pdefault [] ch.1 then (ch.1, none) else ch

/-- A change laid over staged changes: it replaces the earlier one of its PID (R502). -/
def stageOne (st : List Change) (ch : Change) : List Change := st.filter (·.1 != ch.1) ++ [ch]

/-- Channel n belongs to an enabled lane that is ARMED or TRIPPED (R163). -/
def State.laneHolds (s : State) (n : Nat) : Bool :=
  (List.range 32).any fun l =>
    let st := (s.lane l).state
    (decide (st = .armed) || decide (st = .tripped)) &&
      [1, 2, 3].any fun i => s.cf .lane l i == n

/-- One record taken alone: its PID exists, its value passes its own check, and nothing holds its object. -/
def recordError (s : State) (ch : Change) : Option Nat :=
  match pfield ch.1 with
  | none => some stParam
  | some f =>
    if tollHeld ch.1 && s.tollOwns then some stToll
    else match ch.2 with
      | none => none
      | some v => if globalOk ch.1 f v then none else some stParam

/-- The channel setups that the changes would alter lie on a lane that is ARMED or TRIPPED (R163). -/
def laneError (s : State) (old : Cfg) (new : Cfg) (ch : Change) : Bool :=
  match Subj.ofPid ch.1 with
  | some (.ch, n, _) => s.laneHolds n && cget old ch.1 != cget new ch.1
  | _ => false

/-- A record gives a safety lane a leg, or an output slot a channel, in bays 0 and 1 while the Toll partition owns them (R546). -/
def tollTaken (c : Cfg) (ch : Change) : Bool :=
  match Subj.ofPid ch.1 with
  | some (.lane, k, _) => hasBit (cfield c .lane k 0) 0 && (cfield c .lane k 1 < 64 || cfield c .lane k 2 < 64)
  | some _ => false
  | none => 0x14030000 ≤ ch.1 && ch.1 < 0x14030080 && hasBit (cget c (ch.1 / 2 * 2)) 31

/-- The first index at which p holds. -/
def firstIdx {α : Type} (p : α → Bool) : List α → Option Nat
  | [] => none
  | x :: xs => if p x then some 0 else (firstIdx p xs).map (· + 1)

/-- The record that names a field of an object, else the first record of the object. -/
def blame (recs : List Change) (j : Subj) (k i : Nat) : Nat :=
  match firstIdx (fun ch => decide (Subj.ofPid ch.1 = some (j, k, i))) recs with
  | some n => n
  | none => (firstIdx (fun ch =>
      match Subj.ofPid ch.1 with | some (j', k', _) => decide (j' = j) && k' == k | none => false) recs).getD 0

/-- The first object among the records whose setup fails as a whole (R165, R166). -/
def wholeError (c : Cfg) (recs : List Change) : Option StageErr :=
  recs.findSome? fun ch =>
    match Subj.ofPid ch.1 with
    | none => none
    | some (j, k, _) =>
      match objCheck c j k with
      | none => none
      | some i => some ⟨stParam, blame recs j k i, some i⟩

/-- What staging `recs` for a session gives: the staged changes, or the first refusal. Nothing of a refused command is staged
(R503). -/
def stageTry (session : Nat) (recs : List Change) (s : State) : Except StageErr (List Change) :=
  match s.cfg.stageOwner with
  | some o =>
    if o ≠ session then .error ⟨stState, 0, none⟩ else stageOwn recs s
  | none => stageOwn recs s
where
  /-- The checks of a session that may stage. -/
  stageOwn (recs : List Change) (s : State) : Except StageErr (List Change) :=
    match firstIdx (fun ch => (recordError s ch).isSome) recs with
    | some i =>
      let ch := recs.getD i (0, none)
      .error ⟨(recordError s ch).getD stParam, i, (Subj.ofPid ch.1).map (·.2.2)⟩
    | none =>
      let st := (recs.map normal).foldl stageOne s.cfg.staged
      let c := applyChanges s.liveCfg st
      match firstIdx (laneError s s.liveCfg c) recs, firstIdx (fun ch => s.tollOwns && tollTaken c ch) recs with
      | some i, _ => .error ⟨stState, i, none⟩
      | none, some i => .error ⟨stToll, i, none⟩
      | none, none =>
        match wholeError c recs with
        | some e => .error e
        | none => if stageMax < changesSize st then .error ⟨stResource, 0, none⟩ else .ok st

/-- Staging replaced, owned by a session. -/
def stageSet (session : Nat) (st : List Change) (s : State) : State :=
  { s with cfg := { s.cfg with staged := st, stageOwner := some session } }

/-- The reply payload of a setup command: FIELD, and TERMINAL for CH_SETUP, of which no matrix rule can fail, since every
wiring of Table 4.4 is legal (R165). -/
def setupReply (j : Subj) (i : Nat) : List Byte :=
  if j = .ch then le 1 i ++ le 1 255 else le 1 i

/-- A setup command's own part: stages the whole setup of one object. FIELD is the first that its own range or the rest of the setup
refuses. -/
def setupBody (j : Subj) (tk : Ticket) (pl : List Byte) (s : State) : Nat × List Byte × State :=
  let k := fieldAt pl 0 j.keyLen
  if pl.length ≠ j.size || j.count ≤ k then (stParam, setupReply j 255, s)
  else if tollHeld (j.pid k 0) && s.tollOwns then (stToll, [], s)
  else if (reservedOf j pl).any (· != 0#8) then (stParam, setupReply j 255, s)
  else
    match firstBad j pl with
    | some i =>
      let c := applyChanges s.liveCfg (((setupChanges j k pl).map normal).foldl stageOne s.cfg.staged)
      (stParam, setupReply j (min i ((objCheck c j k).getD i)), s)
    | none =>
      match stageTry tk.session (setupChanges j k pl) s with
      | .error e => (e.status, if e.status = stParam then setupReply j (e.field.getD 255) else [], s)
      | .ok st => (stDone, setupReply j 255, stageSet tk.session st s)

/-- A setup command. -/
def setupCommand (j : Subj) (op : Nat) (rq : Request) (s : State) : Res := answerNow op rq (setupBody j) s

/-- A read of a setup's own part: the object number, then BANK (R502). -/
def setupReadBody (j : Subj) (_tk : Ticket) (pl : List Byte) (s : State) : Nat × List Byte × State :=
  let k := fieldAt pl 0 j.keyLen
  if pl.length ≠ j.keyLen + 1 || j.count ≤ k then (stParam, [], s)
  else
    match s.bankView (byteAt pl j.keyLen) with
    | none => (stParam, [], s)
    | some c => (stDone, setupBytes c j k, s)

/-- A read of a setup. -/
def setupRead (j : Subj) (op : Nat) (rq : Request) (s : State) : Res := answerNow op rq (setupReadBody j) s

end Sys2Proof.Machine
end

