-- ==== Sys2Proof/Machine/Channel.lean ====
section
/-! DEFINITION. The universal channel (chapter 4): matrix connections, the sluice gate, terminal protection, rates and filter
restarts (R174 to R176), and the channel commands. -/

namespace Sys2Proof.Machine

/-- Bits of the terminal connection word (Table 4.3). -/
def cIex1 : Nat := 1
def cIex2 : Nat := 2
def cTia : Nat := 4
def cOut : Nat := 8
def cHs : Nat := 16
def cLs : Nat := 32
def cFg : Nat := 64
def cTone : Nat := 128
def cAinP : Nat := 256
def cAinN : Nat := 512
def cComp : Nat := 1024

/-- The connections that function f makes on TA, TB, TC and TD under a wiring code (Table 4.4). -/
def Fn.conn (f : Fn) (w : Nat) : List Nat :=
  match f with
  | .off => [0, 0, 0, 0]
  | .vin => if w = 0 then [cAinP, cFg + cAinN, 0, 0] else [cAinP, cAinN, 0, 0]
  | .iin => [cTia, cFg, 0, 0]
  | .iinLoop => [cHs, cTia, 0, 0]
  | .res => resConn w
  | .rtd => resConn w
  | .tc => [cAinP, cAinN, 0, 0]
  | .iout => [cOut, cFg, 0, 0]
  | .vout => [cOut, cFg, 0, 0]
  | .di => [cLs + cComp, cHs, 0, 0]
  | .cnt => [cLs + cComp, cHs, 0, 0]
  | .frq => [cLs + cComp, cHs, 0, 0]
  | .doHs => [cHs, cFg, 0, 0]
  | .doLs => [cLs, 0, 0, 0]
  | .repPwm => [cHs + cLs, cFg, 0, 0]
  | .repFrq => [cHs + cLs, cFg, 0, 0]
  | .lamp => [cHs, cFg, 0, 0]
  | .laneIn => [0, 0, 0, 0]
  | .laneOut => [cHs, cLs, 0, 0]
where
  /-- RES and RTD. -/
  resConn (w : Nat) : List Nat :=
    if w = 2 then [cIex1 + cAinP, cFg + cAinN, 0, 0]
    else if w = 3 then [cIex1 + cAinP, cIex2 + cAinN, cFg, 0]
    else [cIex1, cAinP, cAinN, cFg]

/-- The connections that channel n's setup in a configuration makes: without SUPPLY a digital input leaves TB open (R262). -/
def connIn (c : Cfg) (n : Nat) : List Nat :=
  let f := subFnIn c n
  let ws := f.conn (wiringIn c n)
  if (f == .di || f == .cnt || f == .frq) && !hasBit (cfield c .dio n 3) 4 then ws.take 1 ++ [0, 0, 0] else ws

/-- An output function, a lane output included: its connections are held on the field side (R136). -/
def Fn.held (f : Fn) : Bool := f.output || f == .laneOut

/-- A terminal of a channel. -/
def ChanRun.term (r : ChanRun) (k : Nat) : TermRun := tget TermRun.initial r.terms k

/-- A trip has opened terminal k. -/
def ChanRun.isOpen (r : ChanRun) (k : Nat) : Bool := (r.term k).opened

/-- A trip has opened a terminal. -/
def ChanRun.tripped (r : ChanRun) : Bool := [0, 1, 2, 3].any r.isOpen

/-- The side of the trip that shows (R153): OVERRANGE before UNDERRANGE where two terminals differ (Table 5.11). -/
def ChanRun.tripSide (r : ChanRun) : Side :=
  if [0, 1, 2, 3].any fun k => r.isOpen k && decide ((r.term k).side = .above) then .above
  else if r.tripped then .below else .none

/-- The channel with the connections of four words, less those of terminals a trip has opened (R152). -/
def ChanRun.connect (ws : List Nat) (r : ChanRun) : ChanRun :=
  let w (k : Nat) : Nat := if r.isOpen k then 0 else ws.getD k 0
  { r with connA := w 0, connB := w 1, connC := w 2, connD := w 3 }

/-- The connection word of a terminal. -/
def ChanRun.conn (r : ChanRun) (k : Nat) : Nat :=
  match k with
  | 0 => r.connA
  | 1 => r.connB
  | 2 => r.connC
  | _ => r.connD

/-- The peer claims or forces release: its loops read asserted, never so on a solo base (R81, R138). -/
def State.peerClaims (s : State) : Bool := s.nd.pairBase && (s.pair.peerLine || s.pair.shutIn)

/-- The sluice gate of bay b is open (R138). -/
def State.gate (s : State) (b : Nat) : Bool := (s.bay b).claim && !s.peerClaims

/-- The bay of channel n runs. -/
def State.running (s : State) (n : Nat) : Bool := decide ((s.bay (bayOf n)).state = .running)

/-- The rate code a function takes where RATE is 0x00 (R168, R228). -/
def Fn.defaultRate (f : Fn) : Nat :=
  match f with
  | .res => 3 | .rtd => 3 | .tc => 3 | _ => 4

/-- RATE as configured, code 0x00 resolved. -/
def rateOf (c : Cfg) (n : Nat) : Nat :=
  let r := cfield c .ch n 3
  if r % 128 = 0 then r + (subFnIn c n).defaultRate else r

/-- The next lower rate (R169): a CONT rate drops to its code without CONT; 0 where there is none. -/
def lowerRate (r : Nat) : Nat := if r ≥ 128 then r - 128 else if r ≤ 1 then 0 else r - 1

/-- `k` governor steps down. -/
def lowerBy : Nat → Nat → Nat
  | 0, r => r
  | k + 1, r => lowerBy k (lowerRate r)

/-- How many rate steps the governor holds on channel n. -/
def State.rateSteps (s : State) (n : Nat) : Nat :=
  (s.nd.gov.steps.filter fun g => decide (g = GovStep.rate n)).length

/-- How many of them the channel runs with: from the boundary after a step (Table 5.3). -/
def State.govSteps (s : State) (n : Nat) : Nat := tget 0 s.nd.gov.inForce n

/-- The RATE byte that the governor's steps lead to. -/
def State.rateGoal (s : State) (n : Nat) : Nat := lowerBy (s.rateSteps n) (rateOf s.cfg.inForce n)

/-- The RATE byte in force, governor steps included. -/
def State.rate (s : State) (n : Nat) : Nat := lowerBy (s.govSteps n) (rateOf s.cfg.inForce n)

/-- The period P of a rate code, µs (Table 5.2). -/
def periodOf (r : Nat) : Nat :=
  ([400000, 400000, 200000, 100000, 50000, 20000, 10000, 4000, 2000, 1000, 500, 250] : List Nat).getD (r % 128) 50000

/-- The rate of a code, S/s. -/
def ratePerSecond (r : Nat) : Rat := 1000000 / (periodOf r : Rat)

/-- SWAP is set. -/
def State.swap (s : State) (n : Nat) : Bool := hasBit (s.cf .ch n 5) 1

/-- The converter runs in bursts (R168, R178). -/
def State.burst (s : State) (n : Nat) : Bool := s.swap n || s.rate n ≤ 4

/-- Burst samples in one period (Table 5.2, R178). -/
def State.nBurst (s : State) (n : Nat) : Nat :=
  match s.rate n with
  | 1 => 16 | 2 => 8 | 3 => 4 | 4 => 2 | _ => 1

/-- The function has excitation sources. -/
def Fn.excited (f : Fn) : Bool := f == .res || f == .rtd

/-- Reference checks run on channel n (R147). -/
def State.refChecks (s : State) (n : Nat) : Bool := (s.subFn n).excited && hasBit (s.cf .ch n 5) 0

/-- Lead conversions run on channel n (R187). -/
def State.leadChecks (s : State) (n : Nat) : Bool :=
  (s.subFn n).excited && wiringIn s.cfg.inForce n == 3 && hasBit (s.cf .meas n 3) 0

/-- A converting input, or an output with a readback converter. -/
def Fn.filtered (f : Fn) : Bool := f.converts || f == .iout || f == .vout

/-- The raw check has failed. -/
def RawRun.bad (r : RawRun) : Bool := 2 ≤ r.fails

/-- The channel has failed a pip or the NE 43 raw check. -/
def SupRun.rawOpen (u : SupRun) : Bool := u.rawLoop.bad || u.pipB.bad || u.pipC.bad

/-- A raw check or the compliance monitor holds the channel (R212). -/
def SupRun.faulty (u : SupRun) : Bool := u.rawShort.bad || u.rawOpen || decide (u.comp ≠ .none)

/-- The physical time at which the converter was last known awake. -/
def ChanRun.lastWoke (r : ChanRun) : Micros := (r.woke.head?.map (·.1)).getD 0

/-- The converter has been awake for `len` µs that end at `to_`: times that join count as one (Table 5.18). -/
def ChanRun.wake (now to_ len : Nat) (r : ChanRun) : ChanRun :=
  let old := r.woke.filter fun x => decide (now < x.1 + 10000000)
  { r with woke := match old with
      | (e, k) :: xs => if to_ ≤ e + len then (max e to_, k + (to_ - e)) :: xs else (to_, len) :: old
      | [] => [(to_, len)] }

/-- A continuous converter was awake until `to_`. -/
def ChanRun.wakeTo (now to_ : Micros) (r : ChanRun) : ChanRun := if r.awakeOn then r.wake now to_ (to_ - r.lastWoke) else r

/-- A supervision check under way is abandoned and due again at once (R176, R216). -/
def abandonCheck (n : Nat) (s : State) : State :=
  match (s.sup n).check with
  | none => s
  | some c => (s.modCh n fun r => r.wake s.now s.now (min (s.now - r.lastWoke) (s.node - c.began))).modSup n fun u =>
    { u with check := none, due := some s.node, waiting := c.tickets ++ u.waiting }

/-- A capture that has not seen its tenth result is refused: the channel goes SETTLING, HELD or STALE before it (R205). -/
def failCapture (n : Nat) (s : State) : State :=
  match (s.ch n).capture with
  | some c => if c.count < 10 then reply c.ticket stState [] (s.modCh n fun r => { r with capture := none }) else s
  | none => s

/-- A filter restart at node time `tr` (R174 to R176): `house` makes a reference check and a lead conversion due, `as` is
t_AS. A check under way is abandoned. Restarts at one instant count as one with the largest times. -/
def restart (n : Nat) (tr : Micros) (house : Bool) (as : Nat) (s0 : State) : State :=
  if !(s0.subFn n).filtered then s0
  else
    let s := abandonCheck n (failCapture n s0)
    let ref := house && s.refChecks n
    let lead := house && s.leadChecks n
    let h := (if ref then 2200 else 0) + (if lead then 1000 else 0)
    let shown := (if n < 64 && s.tollOwns then tget Result.initial s.toll.results n else s.img n).value
    s.modCh n fun r0 =>
      let r := r0.wakeTo s.now (s.now + (tr - s.node))
      let same := r.settling && r.tRestart == tr
      let h' := if same then max r.restH h else h
      let as' := if same then max r.restAs as else as
      let next := tr + h' + as' + 3 * periodOf (s.rate n)
      { r with
        heldValue := if r.settling then r.heldValue else shown
        settling := true
        tRestart := tr
        restH := h'
        restAs := as'
        tNext := next
        nextEnd := next
        samples := []
        refDue := if ref then some tr else r.refDue
        leadDue := if lead then some tr else r.leadDue }

/-- Default IEX_STEP of a range (Table 5.4). -/
def Fn.defaultStep (f : Fn) (r : Nat) : Nat :=
  match f with
  | .rtd => ([8, 8, 9, 6, 5] : List Nat).getD r 8
  | .res => ([8, 8, 5, 3, 1] : List Nat).getD r 8
  | _ => 1

/-- The excitation step that a configuration gives channel n: IEX_STEP, or the default of its range. -/
def iexStepIn (c : Cfg) (n : Nat) : Nat :=
  if cfield c .ch n 4 = 0 then (subFnIn c n).defaultStep (cfield c .ch n 2) else cfield c .ch n 4

/-- The IEX step in force. -/
def State.iexStep (s : State) (n : Nat) : Nat := iexStepIn s.cfg.inForce n

/-- The currents of the last passed reference check, µA; before the first those of the calibration set (log 13). -/
def State.iexPassed (s : State) (n : Nat) : Rat × Rat := (s.ch n).iEx.getD (s.calIex n (s.iexStep n))

/-- The reference currents in use, µA (R148): the last passed check with REF_CHECK set, else those of the calibration set. -/
def State.iex (s : State) (n : Nat) : Rat × Rat :=
  if s.refChecks n then s.iexPassed n else s.calIex n (s.iexStep n)

/-- TA is tested across the sensor (Table 6.1). -/
def Fn.sense (f : Fn) : Bool := f == .vin || f == .res || f == .rtd || f == .tc

/-- Guard segments are allowed (Table 6.1): not on a 4-wire channel. -/
def guardOk (f : Fn) (w : Nat) : Bool := f.converts && !(f.excited && w == 4)

/-- The fields of channel n's supervision setup, by index. -/
def State.supSetup (s : State) (n : Nat) : List Nat := (List.range 10).map fun i => s.cf .sup n i

/-- Segments that FLAGS of a supervision setup enable: F1, F2, F3, G1, G3 (Table 6.3). -/
def segmentsOf (f : Fn) (w : Nat) (setup : List Nat) : List Bool :=
  let g := guardOk f w
  let flags := setup.getD 0 0
  [f.sense && hasBit flags 0, f.sense && hasBit flags 1, f.sense && hasBit flags 2, g && hasBit flags 3,
    g && hasBit flags 3 && hasBit flags 2]

/-- The segments that a setup enables on channel n. -/
def State.segments (s : State) (n : Nat) (setup : List Nat) : List Bool :=
  segmentsOf (s.subFn n) (wiringIn s.cfg.inForce n) setup

/-- Durations of the segments, µs (Table 6.3). -/
def segmentTimes : List Nat := [6000, 2000, 1000, 6000, 1000]

/-- Length of a block, µs: its segments with switch-in and restore (Table 6.3). -/
def blockTimeOf (on : List Bool) : Nat := (on.zip segmentTimes).foldl (fun a (b, d) => if b then a + d else a) 500

/-- The segment under way `off` µs into a block; none in switch-in and restore. -/
def segmentAt (on : List Bool) (off : Nat) : Option Nat :=
  ((on.zip segmentTimes).foldl (fun (p : Nat × Nat × Option Nat) (b, d) =>
    if !b then (p.1, p.2.1 + 1, p.2.2)
    else (p.1 + d, p.2.1 + 1, if p.1 ≤ off && off < p.1 + d then some p.2.1 else p.2.2)) (250, 0, none)).2.2

/-- Connection word of terminal k while a check runs (R134, R206, R213, Table 6.1; log 215): the sources off, TONE on TA in a sense
segment and on TD with AIN_P in a guard segment, the FG switch closed on TB of a TC or differential VIN, AIN_N on TC of a
3-wire sensor. -/
def toneWord (f : Fn) (w k word : Nat) (seg : Option Nat) : Nat :=
  let sense := match seg with | some i => decide (i < 3) | none => false
  let guard := match seg with | some i => decide (3 ≤ i) | none => false
  let x := if f.excited then setBit (setBit word 0 false) 1 false else word
  let y := if k = 1 && (f == .tc || (f == .vin && w == 1)) then setBit x 6 true else x
  let z := if sense && f.excited && w == 3 then
      if k = 1 then setBit y 9 false else if k = 2 then setBit y 9 true else y
    else y
  if sense && k = 0 then setBit z 7 true
  else if guard then (if k = 3 then setBit (setBit z 7 true) 8 true else setBit z 8 false)
  else z

/-- Length of a burst sample, µs (R170, R178). -/
def State.sampleTime (s : State) (n : Nat) : Nat := if s.swap n then 2000 else 1000

/-- The time from the end of one burst sample to the end of the next, µs (R170, R178). -/
def State.sampleStep (s : State) (n : Nat) : Nat := min 25000 (periodOf (s.rate n))

/-- Time from now to the end of the burst sample under way or to come, µs: the end times of the channel are spaced evenly. -/
def State.toSample (s : State) (n : Nat) : Nat :=
  let e := (s.ch n).nextEnd
  let k := s.sampleStep n
  if s.node ≤ e then (e - s.node) % k else (k - (s.node - e) % k) % k

/-- The filter has restarted and does not run yet (R174): what the restart made due has the converter. -/
def State.beforeFilter (s : State) (n : Nat) : Bool :=
  (s.ch n).settling && decide (s.node + 3 * periodOf (s.rate n) ≤ (s.ch n).tNext)

/-- The pips of a channel. -/
inductive PipMode where
  | off | hold | single | pair
  deriving DecidableEq, Repr

/-- The pips of channel n (R211, R216). -/
def State.pipMode (s : State) (n : Nat) : PipMode :=
  let f := s.subFn n
  let wire4 := f.excited && wiringIn s.cfg.inForce n == 4
  if !(s.burst n && hasBit (s.cf .sup n 0) 4 && (f == .tc || wire4)) then .off
  else if s.nd.mode = .hold then .hold
  else if wire4 then .pair
  else .single

/-- A pip runs into terminal k of channel n: the first 200 µs of its burst sample (R211). -/
def State.pipping (s : State) (n k : Nat) : Bool :=
  let turn := match s.pipMode n with
    | .single => decide (k = 0)
    | .pair => decide (k = if (s.sup n).pipTC then 2 else 1)
    | _ => false
  turn && s.running n && s.gate (bayOf n) && !s.beforeFilter n && decide (s.toSample n ≤ s.sampleTime n) &&
    decide (s.sampleTime n < s.toSample n + 200)

/-- The connection word of terminal k of channel n as it stands (R135). A pip is a tone check (R211). -/
def State.connWord (s : State) (n k : Nat) : Nat :=
  let r := s.ch n
  match (s.sup n).check with
  | none => if !r.isOpen k && s.pipping n k then setBit (r.conn k) 7 true else r.conn k
  | some c =>
    if r.isOpen k then 0
    else toneWord (s.subFn n) (wiringIn s.cfg.inForce n) k (r.conn k)
      (segmentAt (s.segments n c.setup) (s.node - c.began))

/-- Byte 3 of CH_STATUS (Table 4.13). -/
def chanFlags (n : Nat) (s : State) : Nat :=
  let r := s.ch n
  let lane := s.fn n == .laneOut && (hasBit (r.connA ||| r.connB) 4 || hasBit (r.connA ||| r.connB) 5)
  bitsOf [false, false, false, (s.outp n).latched || lane, r.matchFault, r.refFault, !s.gate (bayOf n), r.protTrip]

/-- The CH_STATUS reply (Table 4.13). -/
def chStatusBytes (n : Nat) (s : State) : List Byte :=
  let r := s.ch n
  let i := s.iexPassed n
  le 2 n ++ le 1 (s.cf .ch n 0) ++ le 1 (chanFlags n s) ++ ([0, 1, 2, 3].flatMap fun k => le 2 (s.connWord n k)) ++
    f32Bytes r.vA ++ f32Bytes r.vB ++ f32Bytes r.vC ++ f32Bytes r.vD ++ f32Bytes i.1 ++ f32Bytes i.2 ++ le 8 r.refTime ++
    le 2 r.tripCount ++ le 1 r.modem ++ le 1 0

/-- Reference checks of bay b that have fallen due and wait (R147). -/
def refQueue (b : Nat) (s : State) : Nat :=
  ((bayChans b).filter fun n => match (s.ch n).refDue with | some d => decide (d ≤ s.node) | none => false).length

/-- The CH_BAY reply (Table 4.14). -/
def chBayBytes (b : Nat) (s : State) : List Byte :=
  let y := s.bay b
  let used := (bayChans b).foldl (fun a n => if (s.ch n).modem < 8 then a ||| 2 ^ (s.ch n).modem else a) 0
  let conf := ((bayChans b).filter fun n => s.fn n != .off).length
  let sum := (bayChans b).foldl (fun a n => a + declared s.cfg.inForce n) 0
  le 1 b ++ le 1 y.state.code ++ le 1 used ++ le 1 conf ++ le 4 sum ++ f32Bytes y.vFs ++ f32Bytes y.pBay ++
    le 2 (refQueue b s) ++ le 1 (bit (!tget false s.nd.strapTied b)) ++ le 1 0

/-- CH_SETUP (R165). -/
def execChSetup (rq : Request) (s : State) : Res := setupCommand .ch 0x0201 rq s

/-- CH_GET (R165). -/
def execChGet (rq : Request) (s : State) : Res := setupRead .ch 0x0202 rq s

/-- The own part of a read whose payload is one object number of `len` bytes below `count`. -/
def readBody (len count : Nat) (f : Nat → State → List Byte) (_tk : Ticket) (pl : List Byte) (s : State) :
    Nat × List Byte × State :=
  let k := fieldAt pl 0 len
  if pl.length ≠ len || count ≤ k then (stParam, [], s) else (stDone, f k s, s)

/-- CH_STATUS (Table 4.13). -/
def execChStatus (rq : Request) (s : State) : Res := answerNow 0x0203 rq (readBody 2 512 chStatusBytes) s

/-- CH_BAY (Table 4.14). -/
def execChBay (rq : Request) (s : State) : Res := answerNow 0x0204 rq (readBody 1 16 chBayBytes) s

/-- A terminal voltage inside the windows of the resources in a connection word (Table 4.6). -/
def insideWindows (word : Nat) (v : Rat) : Bool :=
  (word &&& (cAinP + cAinN + cComp + cTone) == 0 || (decide (-15 ≤ v) && decide (v ≤ 33))) &&
    (word &&& (cIex1 + cIex2 + cTia + cOut) == 0 || (decide (-1 ≤ v) && decide (v ≤ 33)))

/-- A terminal current, mA, inside the limits of the resources in a connection word (Table 4.6). -/
def insideCurrents (word : Nat) (mA : Rat) : Bool :=
  (word &&& cTia == 0 || decide (mA ≤ 30)) && (word &&& cFg == 0 || decide (mA ≤ 1600))

/-- The side of a trip (R153). -/
def tripSideOf (word : Nat) (v mA : Rat) : Side :=
  if !insideCurrents word mA then .above else if 33 < v then .above else .below

/-- A terminal after a trip (R153, R154). -/
def TermRun.trip (side : Side) (now : Micros) (t : TermRun) : TermRun :=
  let recent := match t.reconnectAt with | some u => decide (now < u + 10000000) | none => false
  { t with opened := true, side := side, tripAt := now, insideSince := none,
           longWait := recent || (t.longWait && decide (now < t.tripAt + 60000000)) }

/-- What a protection trip of terminal k leaves in the channel (R152 to R154). A reference check that may have begun is due again
from now on (R149). -/
def ChanRun.trip (k : Nat) (side : Side) (now node : Micros) (r : ChanRun) : ChanRun :=
  let r1 : ChanRun := { r with
    protTrip := true, terms := tput k ((r.term k).trip side now) r.terms, tripCount := wrap16 (r.tripCount + 1),
    refDue := r.refDue.map fun d => if d ≤ node then node else d }
  r1.connect [r.connA, r.connB, r.connC, r.connD]

/-- The channel after a trip of its terminal k, with the record of R153. -/
def tripChannel (n k : Nat) (v mA : Rat) (s : State) : State :=
  let word := s.connWord n k
  let s1 := abandonCheck n (s.modCh n (ChanRun.trip k (tripSideOf word v mA) s.now s.node))
  freeEvent 0x040 n (chanFlags n s1) (s1.img n).value s1

/-- A terminal that the monitor has read: the time inside every window of the function runs or starts again (R154). -/
def TermRun.scan (word : Nat) (now : Micros) (v : Rat) (t : TermRun) : TermRun :=
  { t with insideSince := if t.opened && insideWindows word v then some (t.insideSince.getD now) else none }

/-- The channel with the voltages that the monitor read. -/
def ChanRun.scan (ws : List Nat) (now : Micros) (vs : List Rat) (r : ChanRun) : ChanRun :=
  { r with vA := vs.getD 0 0, vB := vs.getD 1 0, vC := vs.getD 2 0, vD := vs.getD 3 0,
           terms := tmap TermRun.initial (fun k t => t.scan (ws.getD k 0) now (vs.getD k 0)) r.terms }

/-- TERMINAL_MONITOR_SCAN (R151): the 128 terminal voltages of bay b, TA to TD of each channel, and its BAY sensor. -/
def execTerminalMonitorScan (t : Nat) (b : Bay) (v : List Rat) (sensor : Rat) (s : State) : Res :=
  let s := s.begin t
  if v.length ≠ 128 then .fault .illFormed
  else if (s.bay b).state ≠ .running then .next s
  else
    let s1 := (List.range 32).foldl (fun s c =>
      let n := 32 * (b : Nat) + c
      let vs := (rangeFrom (4 * c) 4).map fun i => s.calBayLine b 8 (v.getD i 0)
      s.modCh n (ChanRun.scan (connIn s.cfg.inForce n) s.now vs)) s
    .next (s1.modBay b fun y => { y with baySensor := sensor + s.calBay b 16 })

/-- The wait before a reconnection (R154). -/
def TermRun.wait (now : Micros) (t : TermRun) : Nat :=
  if t.longWait && now < t.tripAt + 60000000 then 10000000 else 100000

/-- The protection may make a terminal's connections again (R154). -/
def TermRun.mayReconnect (now : Micros) (t : TermRun) : Bool :=
  t.opened && (match t.insideSince with | none => false | some u => decide (u + t.wait now ≤ now))

/-- A terminal of the channel may be connected again. -/
def ChanRun.mayReconnect (now : Micros) (r : ChanRun) : Bool := [0, 1, 2, 3].any fun k => (r.term k).mayReconnect now

/-- A terminal connected again. -/
def TermRun.reconnect (now : Micros) (t : TermRun) : TermRun :=
  if t.mayReconnect now then
    { t with opened := false, side := .none, reconnectAt := some now, insideSince := none,
             longWait := t.longWait && decide (now < t.tripAt + 60000000) }
  else t

/-- The channel with the connections of every terminal that may be connected made again. -/
def reconnect (n : Nat) (s : State) : State :=
  let s1 := s.modCh n fun r =>
    let r1 : ChanRun := { r with terms := tmap TermRun.initial (fun _ t => t.reconnect s.now) r.terms }
    ({ r1 with protTrip := r.protTrip && r1.tripped } : ChanRun).connect (connIn s.cfg.inForce n)
  restart n s.node true 250 s1

end Sys2Proof.Machine
end

