-- ==== Sys2Proof/Machine/Thermo.lean ====
section
/-! DEFINITION. The IEC 60584-1 reference functions of the built-in thermocouple curves and their inverse (R196). The spec names
the functions and prints no coefficients: they are taken from the standard (PRESUMED, log 216). -/

namespace Sys2Proof.Machine

/-- One part of a reference function: its upper end, °C, and the coefficients of its polynomial, lowest first, each as whole
number m and power k of m × 10^-k, in mV. -/
structure TcPart where
  upTo : Rat
  coefs : List (Int × Nat)
  deriving DecidableEq, Repr

/-- Type B. -/
def tcB : List TcPart :=
  [⟨630615 / 1000, [(0, 0), (-24650818346, 14), (59040421171, 16), (-13257931636, 19), (15668291901, 22), (-1694452924, 24),
      (62990347094, 29)]⟩,
   ⟨1820, [(-38938168621, 10), (2857174747, 11), (-84885104785, 15), (15785280164, 17), (-16835344864, 20),
      (11109794013, 23), (-44515431033, 27), (98975640821, 31), (-93791330289, 35)]⟩]

/-- Type E. -/
def tcE : List TcPart :=
  [⟨0, [(0, 0), (58665508708, 12), (45410977124, 15), (-77998048686, 17), (-25800160843, 18), (-59452583057, 20),
      (-93214058667, 22), (-10287605534, 23), (-80370123621, 26), (-43979497391, 28), (-16414776355, 30),
      (-39673619516, 33), (-55827328721, 36), (-34657842013, 39)]⟩,
   ⟨1000, [(0, 0), (5866550871, 11), (45032275582, 15), (28908407212, 18), (-33056896652, 20), (6502440327, 22),
      (-19197495504, 26), (-12536600497, 28), (21489217569, 31), (-14388041782, 34), (35960899481, 38)]⟩]

/-- Type J. -/
def tcJ : List TcPart :=
  [⟨760, [(0, 0), (50381187815, 12), (3047583693, 14), (-8568106572, 17), (13228195295, 20), (-17052958337, 23),
      (20948090697, 26), (-12538395336, 29), (15631725697, 33)]⟩,
   ⟨1200, [(29645625681, 8), (-14976127786, 10), (31787103924, 13), (-31847686701, 16), (15720819004, 19),
      (-30691369056, 23)]⟩]

/-- Type K. -/
def tcK : List TcPart :=
  [⟨0, [(0, 0), (39450128025, 12), (23622373598, 15), (-32858906784, 17), (-49904828777, 19), (-67509059173, 21),
      (-57410327428, 23), (-31088872894, 25), (-10451609365, 27), (-19889266878, 30), (-16322697486, 33)]⟩,
   ⟨1372, [(-17600413686, 12), (38921204975, 12), (18558770032, 15), (-99457592874, 18), (31840945719, 20),
      (-56072844889, 23), (56075059059, 26), (-32020720003, 29), (97151147152, 33), (-12104721275, 36)]⟩]

/-- Type N. -/
def tcN : List TcPart :=
  [⟨0, [(0, 0), (26159105962, 12), (10957484228, 15), (-93841111554, 18), (-46412039759, 21), (-26303357716, 22),
      (-22653438003, 24), (-76089300791, 27), (-93419667835, 30)]⟩,
   ⟨1300, [(0, 0), (25929394601, 12), (1571014188, 14), (43825627237, 18), (-25261169794, 20), (64311819339, 23),
      (-10063471519, 25), (99745338992, 29), (-60863245607, 32), (20849229339, 35), (-30682196151, 39)]⟩]

/-- Type R. -/
def tcR : List TcPart :=
  [⟨106418 / 100, [(0, 0), (528961729765, 14), (139166589782, 16), (-238855693017, 19), (356916001063, 22), (-462347666298, 25),
      (500777441034, 28), (-373105886191, 31), (157716482367, 34), (-281038625251, 38)]⟩,
   ⟨16645 / 10, [(295157925316, 11), (-252061251332, 14), (159564501865, 16), (-764085947576, 20), (205305291024, 23),
      (-293359668173, 27)]⟩,
   ⟨17681 / 10, [(152232118209, 9), (-268819888545, 12), (171280280471, 15), (-345895706453, 19), (-934633971046, 26)]⟩]

/-- Type S. -/
def tcS : List TcPart :=
  [⟨106418 / 100, [(0, 0), (540313308631, 14), (12593428974, 15), (-232477968689, 19), (322028823036, 22), (-331465196389, 25),
      (255744251786, 28), (-125068871393, 31), (271443176145, 35)]⟩,
   ⟨16645 / 10, [(132900444085, 11), (334509311344, 14), (654805192818, 17), (-164856259209, 20), (129989605174, 25)]⟩,
   ⟨17681 / 10, [(146628232636, 9), (-258430516752, 12), (163693574641, 15), (-330439046987, 19), (-943223690612, 26)]⟩]

/-- Type T. -/
def tcT : List TcPart :=
  [⟨0, [(0, 0), (38748106364, 12), (44194434347, 15), (11844323105, 17), (20032973554, 18), (90138019559, 20),
      (22651156593, 21), (36071154205, 23), (38493939883, 25), (28213521925, 27), (14251594779, 29),
      (48768662286, 32), (1079553927, 33), (13945027062, 37), (79795153927, 41)]⟩,
   ⟨400, [(0, 0), (38748106364, 12), (3329222788, 14), (20618243404, 17), (-21882256846, 19), (10996880928, 21),
      (-30815758772, 24), (4547913529, 26), (-27512901673, 30)]⟩]

/-- The parts of the reference function of a curve code (Table 5.8). -/
def tcParts (k : Nat) : List TcPart :=
  match k with
  | 0x10 => tcB | 0x11 => tcE | 0x12 => tcJ | 0x13 => tcK | 0x14 => tcN | 0x15 => tcR | 0x16 => tcS | _ => tcT

/-- The temperatures at which the standard gives the reference function, °C. -/
def tcSpan (k : Nat) : Rat × Rat :=
  let lo : Rat := match k with | 0x10 => 0 | 0x12 => -210 | 0x15 => -50 | 0x16 => -50 | _ => -270
  (lo, ((tcParts k).getLast?.map (·.upTo)).getD 0)

/-- The polynomial of the part that t lies in. -/
def tcPoly (k : Nat) (t : Rat) : Rat :=
  match (tcParts k).find? fun p => decide (t ≤ p.upTo) with
  | some p => poly (p.coefs.map fun c => mkRat c.1 (10 ^ c.2)) t
  | none => 0

/-- `x` to a multiple of 2^-60. -/
def fine60 (x : Rat) : Rat := mkRat (rround (x * 1152921504606846976)) 1152921504606846976

/-- e^-u for u from 0, within 10^-12: a series on u / 32 squared five times. -/
def expNeg (u : Rat) : Rat :=
  if 40 < u then 0
  else
    let z := fine60 (u / 32)
    let e := poly ([1, 1, 1 / 2, 1 / 6, 1 / 24, 1 / 120, 1 / 720, 1 / 5040, 1 / 40320, 1 / 362880, 1 / 3628800, 1 / 39916800,
      1 / 479001600, 1 / 6227020800, 1 / 87178291200, 1 / 1307674368000, 1 / 20922789888000, 1 / 355687428096000]) z
    let sq (x : Rat) : Rat := fine60 (x * x)
    sq (sq (sq (sq (sq (fine60 (1 / e))))))

/-- The exponential term of type K above 0 °C. -/
def tcBump (k : Nat) (t : Rat) : Rat :=
  if k = 0x13 && 0 < t then
    1185976 / 10000000 * expNeg (1183432 / 10000000000 * (t - 1269686 / 10000) * (t - 1269686 / 10000))
  else 0

/-- E(t), mV; free outside the temperatures for which the standard gives it (log 216). -/
def tcVolts (k : Nat) (t : Rat) : Rat :=
  let (lo, hi) := tcSpan k
  if t < lo || hi < t then Config.tcBeyond k t else tcPoly k t + tcBump k t

/-- Halvings of an interval that holds E⁻¹(e). -/
def tcBisect (k : Nat) (e : Rat) : Nat → Rat → Rat → Rat
  | 0, lo, _ => lo
  | f + 1, lo, hi =>
    let m := (lo + hi) / 2
    if tcVolts k m ≤ e then tcBisect k e f m hi else tcBisect k e f lo m

/-- The unit's E⁻¹ on a domain: within ±0.02 °C of the exact inverse at and above -200 °C, within ±0.2 °C below, free within
it (R196; log 15). -/
def tcTemp (k : Nat) (lo hi e : Rat) : Rat :=
  let t := tcBisect k e 40 lo hi
  let b : Rat := if t < -200 then 199 / 1000 else 199 / 10000
  t + clamp (-b) b (Config.tcSlip k e)

end Sys2Proof.Machine
end

