-- ==== Sys2Proof/Machine/Measure.lean ====
section
/-! DEFINITION. The measurement chain (chapter 5): sinc3 filter, signal quantity, reference temperature, curve, scaling and
quality of a result, and the reference and lead conversions. The chain rounds each step to binary64 and VALUE to binary32 (R194;
log 14). -/

namespace Sys2Proof.Machine

/-- The weights of a sinc3 filter of decimation N over its 3 N - 2 latest samples, latest first (R169, R170). -/
def sinc3 (n : Nat) : List Nat :=
  (List.range (3 * n - 2)).map fun k =>
    (List.range n).foldl (fun a i => (List.range n).foldl (fun a j => if i + j ≤ k && k < i + j + n then a + 1 else a) a) 0

/-- The weighted mean of the samples, latest first. -/
def weighted (ws : List Nat) (xs : List Rat) : Rat :=
  let p := ws.zip xs
  let total := p.foldl (fun a (w, _) => a + w) 0
  if total = 0 then 0 else (p.foldl (fun (a : Rat) (w, x) => a + w * x) 0) / total

/-- Number of the converter range of a function and RANGE code in Table 5.1. -/
def convRange (f : Fn) (r : Nat) : Nat :=
  match f with
  | .vin => if r = 1 then 0 else if r = 2 then 1 else if r = 3 then 2 else if r = 5 then 4 else 3
  | .tc => 0
  | .rtd => if r = 2 then 1 else 2
  | .res => if r ≥ 3 then 3 else 2
  | _ => 2

/-- Full scale of a converter range, V: lower and upper end (Table 5.1). -/
def fullScale (k : Nat) : Rat × Rat :=
  match k with
  | 0 => (-8 / 100, 8 / 100)
  | 1 => (-32 / 100, 32 / 100)
  | 2 => (-128 / 100, 128 / 100)
  | 3 => (-1024 / 100, 1024 / 100)
  | _ => (0, 3072 / 100)

/-- Span of x in the base unit (Table 5.4). -/
def spanOf (f : Fn) (r : Nat) : Rat × Rat :=
  match f with
  | .vin => fullScale (convRange .vin r)
  | .iin => if r = 2 then (-5 / 2, 5 / 2) else if r = 3 then (-1 / 4, 1 / 4) else if r = 4 then (-1 / 40, 1 / 40) else (-1, 25)
  | .iinLoop => (-1, 25)
  | .tc => (-80, 80)
  | .off => (0, 0)
  | f => (0, (resSpan f r).1)

/-- R_nom of an RTD range, Ω (R195). -/
def rNom (r : Nat) : Rat := if r = 3 then 500 else if r = 4 then 1000 else 100

/-- A converter reading in corrected volts (R179). -/
def State.volts (s : State) (n : Nat) (v : Rat) : Rat :=
  s.calLine n (8 * convRange (s.subFn n) (s.cf .ch n 2)) v

/-- R_L in use, Ω (R186): the last lead conversion with LEAD_MEAS set, LEAD_R otherwise and before the first. -/
def State.leadOf (s : State) (n : Nat) : Rat :=
  if s.leadChecks n then (s.ch n).leadR.getD (s.cr .meas n 7) else s.cr .meas n 7

/-- The resistance that v volts stand for with ia µA into TA and ib µA into TB (R185, R186, R188). -/
def State.ohms (s : State) (n : Nat) (v ia ib : Rat) : Rat :=
  let w := wiringIn s.cfg.inForce n
  let r := v * 1000000 / ia
  if w = 4 then r
  else if w = 3 then r - s.leadOf n * (1 - ib / ia)
  else r - 2 * s.cr .meas n 7

/-- The signal quantity x of one reading, in the base unit (R179 to R188), in binary64 (R194). -/
def State.signalOf (s : State) (n : Nat) (v : Rat) : Rat :=
  let f := s.subFn n
  let u := f64Round (s.volts n v)
  f64Round <| match f with
  | .iin => u * 1000 / s.calChan n (40 + 4 * ((s.cf .ch n 2) - 1))
  | .iinLoop => u * 1000 / s.calChan n 40
  | .tc => u * 1000
  | .res => let i := s.iex n; s.ohms n u i.1 i.2
  | .rtd => let i := s.iex n; s.ohms n u i.1 i.2
  | _ => u

/-- One burst sample under SWAP: the mean of its two sub-samples after the lead correction (R178). -/
def State.swapped (s : State) (n : Nat) (v1 v2 : Rat) : Rat :=
  let i := s.iex n
  f64Round ((f64Round (s.ohms n (s.volts n v1) i.1 i.2) + f64Round (s.ohms n (s.volts n v2) i.2 i.1)) / 2)

/-- A number held within limits, and which end it passed: 0 none, 1 above, 2 below. The first end passed stands. -/
structure Held where
  x : Rat
  side : Nat
  deriving DecidableEq, Repr

/-- The number held within lo and hi. -/
def Held.within (lo hi : Rat) (h : Held) : Held :=
  if hi < h.x then ⟨hi, if h.side = 0 then 1 else h.side⟩
  else if h.x < lo then ⟨lo, if h.side = 0 then 2 else h.side⟩
  else h

/-- Platinum resistance ratio at t °C (R195). -/
def ptRatio (t : Rat) : Rat :=
  let c : Rat := if t < 0 then -4183 / 1000000000000000 else 0
  1 + 39083 / 10000000 * t - 5775 / 10000000000 * t * t + c * (t - 100) * t * t * t

/-- One Newton step of the platinum inversion, kept to 2^-30 °C. -/
def ptNewton (q t : Rat) : Rat :=
  let d := 39083 / 10000000 - 2 * 5775 / 10000000000 * t + (-4183 / 1000000000000000) * (4 * t * t * t - 300 * t * t)
  mkRat (rround ((t - (ptRatio t - q) / d) * 1073741824)) 1073741824

/-- The temperature at a ratio q: the quadratic at or above 0 °C, Newton steps below. -/
def ptExact (q : Rat) : Rat :=
  let a : Rat := 39083 / 10000000
  let b : Rat := -5775 / 10000000000
  let t := (rsqrt (a * a - 4 * b * (1 - q)) - a) / (2 * b)
  if 1 ≤ q then t else ptNewton q (ptNewton q (ptNewton q (ptNewton q t)))

/-- The unit's inversion: within ±0.002 °C of the exact one, free within it (R195; log 15). -/
def ptInverse (q : Rat) : Rat := ptExact q + clamp (-19 / 10000) (19 / 10000) (Config.ptSlip q)

/-- Domain of a built-in thermocouple curve, °C (Table 5.8). -/
def tcDomain (k : Nat) : Rat × Rat :=
  match k with
  | 0x10 => (250, 1820)
  | 0x11 => (-270, 1000)
  | 0x12 => (-210, 1200)
  | 0x13 => (-270, 1372)
  | 0x14 => (-270, 1300)
  | 0x15 => (-50, 1768)
  | 0x16 => (-50, 1768)
  | _ => (-270, 400)

/-- A custom curve's polynomial (R197). -/
def State.custom (s : State) (n : Nat) (x t : Rat) : Rat :=
  poly ((List.range 6).map fun i => poly ((List.range 3).map fun j => s.cr .curve n (2 + 3 * i + j)) t) x

/-- The curve in use on channel n. -/
def State.curveNo (s : State) (n : Nat) : Nat := curveUsed (s.subFn n) (s.cf .meas n 0)

/-- The curve of channel n (R194 to R198): y in binary64, and the end passed. -/
def State.curveOf (s : State) (n : Nat) (t : Rat) (h : Held) : Held :=
  let k := s.curveNo n
  if k = 2 then
    let g := h.within (rNom (s.cf .ch n 2) * ptRatio (-200)) (rNom (s.cf .ch n 2) * ptRatio 850)
    (⟨f64Round (ptInverse (g.x / rNom (s.cf .ch n 2))), g.side⟩ : Held).within (-200) 850
  else if tcCurve k then
    let (lo, hi) := tcDomain k
    let e := f64Round (h.x + tcVolts k t)
    if tcVolts k hi < e then ⟨hi, if h.side = 0 then 1 else h.side⟩
    else if e < tcVolts k lo then ⟨lo, if h.side = 0 then 2 else h.side⟩
    else (⟨f64Round (tcTemp k lo hi e), h.side⟩ : Held).within lo hi
  else if k = 0x20 then
    let g := h.within (s.cr .curve n 0) (s.cr .curve n 1)
    ⟨f64Round (s.custom n g.x t), g.side⟩
  else h

/-- Scaling (R194). -/
def State.scaled (s : State) (n : Nat) (y : Rat) : Rat := f64Round (f64Round (s.cr .meas n 9 * y) + s.cr .meas n 10)

/-- The quality a chain gives before conditions of other parts: OPEN, SHORT, OVERRANGE, UNDERRANGE, DEGRADED or GOOD, the one
of highest precedence (Table 5.11). -/
def chainQuality (isOpen short : Bool) (side : Nat) (degraded : Bool) : Nat :=
  if isOpen then 2 else if short then 3 else if side = 1 then 4 else if side = 2 then 5 else if degraded then 7 else 0

/-- What NE 43 classification makes of a loop current (Table 5.6): open, the end passed, degraded, and the current to go on
with. -/
def ne43 (x : Rat) : Bool × Nat × Bool × Rat :=
  if x < 1 / 2 then (true, 0, false, 19 / 5)
  else if x ≤ 18 / 5 then (false, 2, false, 19 / 5)
  else if x < 19 / 5 then (false, 0, true, 19 / 5)
  else if x ≤ 41 / 2 then (false, 0, false, x)
  else if x < 21 then (false, 0, true, 41 / 2)
  else (false, 1, false, 41 / 2)

/-- What the chain makes of one filtered signal. -/
structure ChainOut where
  x : Rat
  y : Rat
  value : Word32
  quality : Nat
  clamped : Bool
  deriving DecidableEq, Repr

/-- NE 43 classification is on for channel n (R183). -/
def State.ne43On (s : State) (n : Nat) : Bool :=
  (s.subFn n == .iin || s.subFn n == .iinLoop) && s.cf .ch n 2 ≤ 1 && hasBit (s.cf .meas n 3) 1

/-- Common-mode range of a converter range, each input to FG, V (Table 5.1). -/
def commonMode (k : Nat) : Rat × Rat := if k ≤ 2 then (-5 / 2, 12) else (-15, 30)

/-- The end of the common-mode range that an input of channel n has left: 0 none, 1 above, 2 below; for differential VIN and TC
(R181; DEDUCED, log 245). -/
def State.cmEnd (s : State) (n : Nat) (i : Inputs) : Nat :=
  let f := s.subFn n
  let (lo, hi) := commonMode (convRange f (s.cf .ch n 2))
  if !(f == .tc || (f == .vin && wiringIn s.cfg.inForce n != 0)) then 0
  else if hi < i.pos || hi < i.neg then 1
  else if i.pos < lo || i.neg < lo then 2
  else 0

/-- The chain of R194 from the signal x: `fs` is the end of the converter's full scale that the reading passed with the x it
stands for, `cm` the end of the common-mode range left (R181), `short` the loop short of R184. -/
def State.chain (s : State) (n : Nat) (x : Rat) (fs : Nat) (cm : Nat) (short : Bool) (t : Rat) (degraded : Bool) : ChainOut :=
  let (lo, hi) := spanOf (s.subFn n) (s.cf .ch n 2)
  let h := (⟨x, fs⟩ : Held).within lo hi
  let (isOpen, side, deg, x') := if s.ne43On n then ne43 x else (false, h.side, false, h.x)
  let out := s.curveOf n t ⟨x', side⟩
  let cl := decide (out.side ≠ 0) || deg
  let q := chainQuality isOpen short (if cm ≠ 0 then cm else out.side) (deg || degraded)
  let none := q = 2 || q = 3 || cm ≠ 0
  ⟨x, out.x, if none then f32NaN else f32Of (s.scaled n out.x), q, cl && !none⟩

/-- A reference result may be taken (R193). -/
def acceptable (q : Nat) : Bool := q == 0 || q == 7 || q == 11

/-- A channel of a safety lane. -/
def Fn.lane (f : Fn) : Bool := f == .laneIn || f == .laneOut

/-- Channel n lies in the sealed Toll partition (Table 18.1). -/
def State.inToll (s : State) (n : Nat) : Bool := decide (n < 64) && s.tollOwns

/-- The channel goes on converting in HOLD (Table 3.3). -/
def State.essential (s : State) (n : Nat) : Bool := (s.fn n).lane || s.fn n == .lamp || s.inToll n

/-- The channel converts: its bay runs, and HOLD does not stop it. -/
def State.converting (s : State) (n : Nat) : Bool :=
  s.running n && (decide (s.nd.mode ≠ .hold) || s.essential n)

/-- The conversion that was under way as HOLD began completes (Table 3.3). -/
def State.underWay (s : State) (n : Nat) : Bool :=
  s.running n && decide (s.nd.mode = .hold) &&
    (match s.nd.power.dip with | some d => decide ((s.ch n).nextEnd ≤ d.entry + periodOf (s.rate n)) | none => false)

/-- The channel's value is HELD (R104). -/
def State.heldNow (s : State) (n : Nat) : Bool := decide (s.nd.mode = .hold) && !s.essential n

/-- The time within which a running channel gives a result, µs; none where results come with events only. -/
def State.resultPeriod (s : State) (n : Nat) : Option Nat :=
  let f := s.subFn n
  if f.filtered then some (periodOf (s.rate n))
  else if f == .cnt then some 1000
  else if f == .frq then some (1000 * s.cf .dio n 8)
  else none

/-- Results are held back by a raw check, the compliance monitor or a protection trip (R153, R212): what shows in their place is
current. -/
def State.heldBack (s : State) (n : Nat) : Bool := (s.ch n).tripped || (s.sup n).faulty

/-- The channel is STALE (R201): its bay is off or in fault, or it has given no result for 2 P + 2,000 µs other than while
SETTLING or HELD, or while something holds its results back (log 218). -/
def State.staleNow (s : State) (n : Nat) : Bool :=
  let r := s.ch n
  match (s.bay (bayOf n)).state with
  | .fault => true
  | .off => true
  | .starting => false
  | .running =>
    match s.resultPeriod n with
    | none => false
    | some p => !r.settling && !s.heldNow n && !s.heldBack n && decide (r.deliveredAt + 2 * p + 2000 < s.now)

/-- The SRC_CH of an output of channel n, where its SRC is CHANNEL (Tables 7.2, 8.4, 8.17). -/
def sourceChan (c : Cfg) (n : Nat) : Option Nat :=
  let f := fnIn c n
  if f.analogOut && cfield c .out n 0 == 2 then some (cfield c .out n 2)
  else if f.switched && cfield c .dio n 0 == 2 then some (cfield c .dio n 2)
  else if f == .lamp && cfield c .lamp n 1 == 2 then some (cfield c .lamp n 2)
  else none

/-- The REF_CH of an input of channel n, where its REF_SRC is CHANNEL (Table 5.16). -/
def refChan (c : Cfg) (n : Nat) : Option Nat :=
  if (subFnIn c n).converts && cfield c .meas n 1 == 1 then some (cfield c .meas n 2) else none

/-- A phased commit is under way and the reference or source channel of channel n carries another epoch (R513). -/
def State.mixedEpoch (s : State) (n : Nat) : Bool :=
  let other (m : Option Nat) : Bool := match m with | some k => s.epochOf k != s.epochOf n | none => false
  !s.cfg.ahead.isEmpty && (other (refChan s.cfg.inForce n) || other (sourceChan s.cfg.inForce n))

/-- Supervision shows OPEN, SHORT or COMPLIANCE (Table 6.6): the code, 0 for none. -/
def supQuality (u : SupRun) : Nat :=
  if (hasBit u.status 0 && decide (u.comp = .broken)) || hasBit u.status 2 || hasBit u.status 3 then 2
  else if hasBit u.status 1 || hasBit u.status 4 then 3
  else if hasBit u.status 0 then 6
  else 0

/-- The rank of a quality code: its precedence in Table 5.11. -/
def qualityRank (q : Nat) : Nat :=
  ([12, 8, 3, 4, 6, 7, 5, 10, 1, 9, 2, 11] : List Nat).getD q 12

/-- The quality of higher precedence. -/
def worse (a b : Nat) : Nat := if qualityRank a ≤ qualityRank b then a else b

/-- EXC_FAULT: the last reference check of an excited channel has failed (R148, Table 5.10; log 214). -/
def State.excFault (s : State) (n : Nat) : Bool := (s.subFn n).excited && (s.ch n).excFault

/-- The conditions of an input channel that hold now, apart from what its latest result carries. -/
def State.conditions (s : State) (n : Nat) : Nat :=
  let r := s.ch n
  let u := s.sup n
  let q0 := if s.staleNow n then 8 else if s.heldNow n then 10 else 0
  let q1 := worse q0 (supQuality u)
  let q2 := if r.tripped then worse q1 (if r.tripSide = .below then 5 else 4) else q1
  let q3 := if r.settling || decide ((s.bay (bayOf n)).state = .starting) then worse q2 1 else q2
  let q4 := if r.epochMark || s.mixedEpoch n then worse q3 9 else q3
  if s.excFault n || r.leadHigh || hasBit u.status 5 || hasBit u.status 6 then worse q4 7
  else if s.inToll n then worse q4 11 else q4

/-- The quality an input channel shows now (R200). What the latest result carries holds no longer once the filter has restarted
(R176). -/
def State.inputQuality (s : State) (n : Nat) : Nat :=
  if (s.ch n).settling then s.conditions n else worse (s.conditions n) (s.ch n).latest.quality

/-- The reference temperature of a result of channel n (R190 to R193): t_ref, whether the fallback stands, whether the
reference is DEGRADED, and the accepted reference value. -/
structure RefTemp where
  t : Rat
  fallback : Bool
  degraded : Bool
  accepted : Option (Rat × Micros)
  deriving DecidableEq, Repr

/-- The channel has given a value since its bay started, published or not. -/
def ChanRun.given (r : ChanRun) : Bool := r.hasValue || (!r.settling && decide (r.latest.value ≠ f32NaN))

/-- Channel n's latest result as a reference for others; none where it has given no value. -/
def State.refResult (s : State) (n : Nat) : Option RefResult :=
  if (s.ch n).given then some ⟨(s.ch n).curve, s.inputQuality n, (s.ch n).latest.tEnd⟩ else none

/-- The reference result that the bay engine holds for a result of channel n ending at `te` (R192): in its own bay the latest that
ends no later, from another bay what the last output transfer brought. -/
def State.refHeld (s : State) (n : Nat) (te : Micros) : Option RefResult :=
  let m := s.cf .meas n 2
  if bayOf m ≠ bayOf n then (s.ch n).refIn
  else if (s.ch m).latest.tEnd ≤ te then s.refResult m
  else (s.ch m).prevRef

/-- R190, R192, R193, for a result ending at `te`. -/
def State.refTemp (s : State) (n : Nat) (te : Micros) : RefTemp :=
  let r := s.ch n
  let fixed := s.cr .meas n 6
  match s.cf .meas n 1 with
  | 0 => ⟨0, false, false, r.refAccepted⟩
  | 1 =>
    match (s.refHeld n te).filter fun x => acceptable x.quality with
    | some x => ⟨x.curve, false, x.quality == 7, some (x.curve, x.tEnd)⟩
    | none =>
      match r.refAccepted with
      | some (v, e) =>
        if s.stamped s.node < e + 1000000 * s.cf .meas n 5 then ⟨v, true, true, r.refAccepted⟩ else ⟨fixed, true, true, r.refAccepted⟩
      | none => ⟨fixed, true, true, none⟩
  | 2 => ⟨fixed, false, false, r.refAccepted⟩
  | _ => ⟨(s.bay (bayOf n)).baySensor, false, false, r.refAccepted⟩

/-- The end of the converter's full scale that a reading passes (R198): beyond 99.5 %. -/
def State.pastScale (s : State) (n : Nat) (v : Rat) : Nat :=
  let (lo, hi) := fullScale (convRange (s.subFn n) (s.cf .ch n 2))
  if hi * 995 / 1000 < v then 1 else if v < lo * 995 / 1000 then 2 else 0

/-- The reading held within 99.5 % of full scale. -/
def State.withinScale (s : State) (n : Nat) (v : Rat) : Rat :=
  let (lo, hi) := fullScale (convRange (s.subFn n) (s.cf .ch n 2))
  clamp (lo * 995 / 1000) (hi * 995 / 1000) v

/-- DETAIL bits that the chain itself sets: CJ_FALLBACK and CLAMPED (Table 5.10). -/
def chainDetail (fallback clamped : Bool) : Nat := 128 * bit fallback + 4 * bit clamped

/-- The end time and the number of periods of the result that ends at or before `node` (R172). -/
def endOf (next period node : Nat) : Nat := if period = 0 then next else next + (node - next) / period * period

/-- A loop short (R184): 24.0 mA or more for 100 ms without a break. -/
def State.loopShort (s : State) (n : Nat) : Bool :=
  s.subFn n == .iinLoop && (match (s.ch n).overSince with | some u => decide (u + 100000 ≤ s.now) | none => false)

/-- A capture with one more result, signal x (R205): x + 2 LEAD_R is averaged. -/
def LeadCapture.take (x leadR : Rat) (c : LeadCapture) : LeadCapture :=
  if c.count < 10 then { c with sum := c.sum + x + 2 * leadR, count := c.count + 1 } else c

/-- A result of an input channel whose signal is x (R194 to R200): stamped, counted and kept as the latest. -/
def formResult (n : Nat) (x : Rat) (fs cm : Nat) (s0 : State) : State :=
  let s := if s0.staleNow n then failCapture n s0 else s0
  let r := s.ch n
  let p := periodOf (s.rate n)
  let te := endOf r.nextEnd p s.node
  let stamp := s.stamped te
  let rt := s.refTemp n stamp
  let o := s.chain n x fs cm (s.loopShort n) rt.t (rt.fallback || rt.degraded)
  let res : Result :=
    { r.latest with value := o.value, quality := o.quality, detail := chainDetail rt.fallback o.clamped,
                    seq := wrap16 (r.latest.seq + 1), tEnd := stamp }
  let was := s.refResult n
  (s.modCh n fun r => { r with
    latest := res, signal := x, refT := if s.cf .meas n 1 = 0 then none else some rt.t, curve := o.y,
    refAccepted := rt.accepted, prevRef := was, cjFallback := rt.fallback, settling := false, nextEnd := te + p,
    epochMark := r.epochDue, epochDue := false,
    deliveredAt := s.now, capture := r.capture.map (LeadCapture.take x (s.cr .meas n 7)) }).modSup n
    fun u => { u with afterHold := false }

/-- A result that a raw short holds back: a capture takes it all the same (R205). -/
def captureOnly (n : Nat) (x : Rat) (s0 : State) : State :=
  let s := if s0.staleNow n then failCapture n s0 else s0
  let p := periodOf (s.rate n)
  s.modCh n fun r => { r with
    nextEnd := endOf r.nextEnd p s.node + p, capture := r.capture.map (LeadCapture.take x (s.cr .meas n 7)) }

/-- The gap between burst samples, µs (R173). -/
def State.gapTime (s : State) (n : Nat) : Nat := s.sampleStep n - s.sampleTime n

/-- A housekeeping block of `len` µs displaces conversions or burst samples (R173). -/
def State.displacesBy (s : State) (n len : Nat) : Bool := !s.burst n || decide (s.gapTime n < len)

/-- A housekeeping block of `len` µs of channel n may end now: the node time by which it was to fall due (R147, R173), which is
the begin of the gap that holds it, or of the block where none has to. -/
def State.slot (s : State) (n len : Nat) : Option Micros :=
  if s.displacesBy n len || s.beforeFilter n then some (s.node - len)
  else
    let d := s.toSample n
    if s.sampleTime n ≤ d && d + len ≤ s.sampleStep n then some (s.node + d - s.sampleStep n) else none

/-- Housekeeping due since `d`, by its interval alone, waits for the first valid result (R175). -/
def State.waitsSettled (s : State) (n len : Nat) (d : Micros) : Bool :=
  s.displacesBy n len && (s.ch n).settling && decide (d ≠ (s.ch n).tRestart)

/-- The time since which a reference check of channel n is due, where it may end now but for the bus (R146, R147). -/
def State.refReady (s : State) (n : Nat) : Option Micros :=
  match (s.ch n).refDue, s.slot n 2200 with
  | some d, some g =>
    if d ≤ g && s.refChecks n && s.converting n && (s.sup n).check.isNone && !s.waitsSettled n 2200 d then some d else none
  | _, _ => none

/-- A reference check or, with `lead`, a lead conversion of channel n that fell due by `g` comes first in the gap (R173). -/
def State.aheadBy (s : State) (n : Nat) (lead : Bool) (g : Micros) : Bool :=
  let by_ (o : Option Micros) : Bool := match o with | some d => decide (d ≤ g) | none => false
  (s.refChecks n && by_ (s.ch n).refDue) || (lead && s.leadChecks n && by_ (s.ch n).leadDue)

/-- The converter of channel n has been awake for a job of `len` µs that ends now: a conversion, a sample or housekeeping. -/
def noteAwake (n len : Nat) (s : State) : State :=
  s.modCh n fun r =>
    if s.burst n then { r.wake s.now s.now len with awakeOn := false }
    else { r.wake s.now s.now (min (s.now - r.lastWoke) (s.node - r.tRestart)) with awakeOn := true }

/-- Housekeeping of `len` µs has ended: where it displaced conversions the filter restarts (Table 5.3). -/
def afterBlock (n len : Nat) (s0 s : State) : State :=
  if s0.displacesBy n len && !s0.beforeFilter n then restart n s.node false 250 s else s

/-- REF_CHECK (R146 to R149): the check of channel n ends now; v1 and v2 are the voltages across the reference resistor with
IEX1 and IEX2. It takes place when the check is due and may run, the reference bus has been free for its 2.2 ms, and no other
channel of the bay that could run now has waited longer. -/
def execRefCheck (t : Nat) (n : Chan) (v1 v2 : Rat) (s : State) : Res :=
  let s := s.begin t
  let b := bayOf n
  let free := match (s.bay b).refUser with | some (_, e) => decide (e + 2200 ≤ s.node) | none => true
  match s.refReady n with
  | none => .next s
  | some d =>
    let first := (bayChans b).all fun m =>
      m == (n : Nat) || (match s.refReady m with | some u => decide (d < u) || (d == u && decide ((n : Nat) < m)) | none => true)
    if !free || !first then .next s
    else
      let i1 := v1 / s.calBay b 0 * 1000000
      let i2 := v2 / s.calBay b 0 * 1000000
      let k := stepCurrent (s.iexStep n)
      let bad := decide (k * 5 / 100 < rabs (i1 - k)) || decide (k * 5 / 100 < rabs (i2 - k))
      let unlike := decide ((i1 + i2) / 200 < rabs (i1 - i2))
      let s1 := s.modCh n fun r => { r with
        refFault := bad, matchFault := unlike, excFault := bad || unlike, iEx := if bad || unlike then r.iEx else some (i1, i2), refTime := s.node,
        refDue := some (s.node + 1000000 * s.cf .ch n 8) }
      .next (afterBlock n 2200 s ((noteAwake n 2200 s1).modBay b fun y => { y with refUser := some ((n : Nat), s.node) }))

/-- A lead conversion of channel n may be under way: it is due and the converter is free for it (R173, R187). -/
def State.leadRuns (s : State) (n : Nat) : Bool :=
  s.leadChecks n && s.converting n && s.gate (bayOf n) && (s.sup n).check.isNone &&
    (match (s.ch n).leadDue with | some d => decide (d ≤ s.node) | none => false) &&
    (!s.burst n || s.beforeFilter n || decide (s.sampleTime n ≤ s.toSample n) || decide (s.toSample n = 0))

/-- A lead conversion that a compliance trip discards is due again (R208). -/
def dropLead (n : Nat) (s : State) : State :=
  s.modCh n fun r => { r with leadDue := r.leadDue.map fun d => if d ≤ s.node then s.node else d }

/-- LEAD_CONVERSION (R187, R189): a lead conversion of 3-wire channel n ends now with v volts; a reference check due in the same
gap comes first. None runs while the bay's sluice gate is shut (DESIGN CHOICE, log 251). -/
def execLeadConversion (t : Nat) (n : Chan) (v : Rat) (s : State) : Res :=
  let s := s.begin t
  match (s.ch n).leadDue, s.slot n 1000 with
  | some d, some g =>
    if g < d || !s.leadChecks n || !s.converting n || !s.gate (bayOf n) || (s.sup n).check.isSome || s.aheadBy n false g ||
        s.waitsSettled n 1000 d then
      .next s
    else
      let rl := (s.volts n v * 1000000 / (s.iex n).2 - s.calBay (bayOf n) 4) / 2
      .next (afterBlock n 1000 s ((noteAwake n 1000 s).modCh n fun r => { r with
        leadR := some rl, leadHigh := decide (s.cr .meas n 8 < rl), leadDue := some (s.node + 1000000 * s.cf .meas n 4) }))
  | _, _ => .next s

/-- MEAS_SET (R203). -/
def execMeasSet (rq : Request) (s : State) : Res := setupCommand .meas 0x0210 rq s
/-- MEAS_GET (R203). -/
def execMeasGet (rq : Request) (s : State) : Res := setupRead .meas 0x0211 rq s
/-- CURVE_SET (R203, R204). -/
def execCurveSet (rq : Request) (s : State) : Res := setupCommand .curve 0x0212 rq s
/-- CURVE_GET (R203). -/
def execCurveGet (rq : Request) (s : State) : Res := setupRead .curve 0x0213 rq s

/-- The channel is SETTLING, HELD or STALE. -/
def State.noCapture (s : State) (n : Nat) : Bool :=
  (s.ch n).settling || s.heldNow n || s.staleNow n

/-- LEAD_CAPTURE's own part (R205): averaging begins, or the refusal: PARAM on a channel of another kind, STATE while one runs
(log 206). -/
def leadCaptureBody (cls : Rights) (tk : Ticket) (pl : List Byte) (s : State) : State :=
  let n := fieldAt pl 0 2
  if pl.length ≠ 2 || 512 ≤ n then finish cls tk stParam [] s
  else if !((s.fn n).excited && wiringIn s.cfg.inForce n == 2) then finish cls tk stParam [] s
  else if s.noCapture n || (s.ch n).capture.isSome then finish cls tk stState [] s
  else inProgress tk (s.modCh n fun r => { r with capture := some ⟨tk, 0, 0⟩ })

/-- LEAD_CAPTURE (R205). -/
def execLeadCapture (rq : Request) (s : State) : Res := .next (runPacket 0x0214 rq leadCaptureBody s)

/-- How a capture ends (R205): refused, or half the mean of ten results staged as LEAD_R. -/
def endCapture (n : Nat) (c : LeadCapture) (s : State) : State :=
  let s1 := s.modCh n fun r => { r with capture := none }
  let mean := c.sum / 10
  if c.count < 10 || 50 < mean then reply c.ticket stState [] s1
  else
    let w := f32Of (mean / 2)
    let pid := Subj.pid .meas n 7
    match stageTry c.ticket.session [(pid, some w.toNat)] s1 with
    | .error e => reply c.ticket e.status [] s1
    | .ok st => reply c.ticket stDone (w32Bytes w) (stageSet c.ticket.session st s1)

/-- LEAD_CAPTURE_DONE (R205): the tenth result has come, or the channel has gone SETTLING, HELD or STALE before it. -/
def execLeadCaptureDone (t : Nat) (n : Chan) (s : State) : Res :=
  let s := s.begin t
  match (s.ch n).capture with
  | none => .next s
  | some c => .next (if 10 ≤ c.count || s.noCapture n then endCapture n c s else s)

/-- How long the converter of channel n has been awake on what it does now, and since when that counts (R170, R171, R213). -/
def State.awakeNow (s : State) (n : Nat) : Nat :=
  let r := s.ch n
  let since := s.now - r.lastWoke
  if !(s.subFn n).filtered || !s.converting n then 0
  else if !s.burst n then min since (s.node - r.tRestart)
  else match (s.sup n).check with
    | some c => min since (s.node - c.began)
    | none => if s.beforeFilter n then 0 else min since (s.sampleTime n - s.toSample n)

/-- AWAKE of CH_READ (Table 5.18): the share of the last 10 s for which the converter has been awake, %. -/
def State.awake (s : State) (n : Nat) : Rat :=
  let part (x : Micros × Nat) : Nat := min x.1 s.now - max (x.1 - x.2) (s.now - 10000000)
  let sum := (s.ch n).woke.foldl (fun a x => a + part x) (s.awakeNow n)
  min 100 ((sum : Rat) / 100000)

/-- The CH_READ reply (Table 5.18). -/
def chReadBytes (n : Nat) (s : State) : List Byte :=
  let r := s.ch n
  let f := s.subFn n
  let lead := if f.excited && wiringIn s.cfg.inForce n ≠ 4 then f32Of (s.leadOf n) else f32NaN
  resultBytes (s.img n) ++ f32Bytes r.signal ++ (match r.refT with | some t => f32Bytes t | none => w32Bytes f32NaN) ++
    w32Bytes lead ++ f32Bytes (s.awake n) ++ le 1 (s.rate n) ++ le 3 0

/-- CH_READ's own part. -/
def chReadBody (_tk : Ticket) (pl : List Byte) (s : State) : Nat × List Byte × State :=
  let n := fieldAt pl 0 2
  if pl.length ≠ 2 || 512 ≤ n then (stParam, [], s) else (stDone, chReadBytes n s, s)

/-- CH_READ (Table 5.18). -/
def execChRead (rq : Request) (s : State) : Res := answerNow 0x0215 rq chReadBody s

end Sys2Proof.Machine
end

