-- ==== Sys2Proof/Machine/Supervise.lean ====
section
/-! DEFINITION. Sensor and wiring supervision (chapter 6): compliance trips, raw checks, impedance checks, baselines and
trends. -/

namespace Sys2Proof.Machine

/-- The function is supervised and its FLAGS enable a segment (R227). -/
def State.supervised (s : State) (n : Nat) : Bool := (s.subFn n).converts && (s.segments n (s.supSetup n)).any id

/-- TONE_INTERVAL in force, µs (R215, R124). -/
def State.toneInterval (s : State) (n : Nat) : Nat :=
  1000000 * s.cf .sup n 2 * (if s.nd.gov.steps.contains (.space n) then 4 else 1)

/-- STATUS of Table 6.12. -/
def SupRun.word (u : SupRun) : Nat := u.status + 2048 * bit u.noBase

/-- The supervision of channel n changed, with a SUP_STATUS record where the status word changes (R222). -/
def setSup (n : Nat) (f : SupRun → SupRun) (s : State) : State :=
  let old := (s.sup n).word
  let s1 := s.modSup n f
  let new := (s1.sup n).word
  if new = old then s1 else freeEvent 0x042 n new (s1.img n).value s1

/-- Baseline capture starts (R220): the trend is off, so that nothing is projected and no run of checks goes on; a held baseline
stands until the new one is taken, and the trend bits as they were (DESIGN CHOICE, log 246). -/
def SupRun.capture (u : SupRun) : SupRun :=
  { u with noBase := true, baseCount := 0, baseItems := [], tProj := 0x7F800000#32, runLL := ⟨0, 0⟩, runIns := ⟨0, 0⟩, runCap := ⟨0, 0⟩ }

/-- The old baselines discarded (R220). -/
def SupRun.discard (u : SupRun) : SupRun :=
  { u with noBase := false, baseLL := f32NaN, baseIns := f32NaN, baseCap := f32NaN, baseCount := 0, baseItems := [] }

/-- Baseline capture starts where supervision is on and no baseline is held or under way (R220). -/
def captureSup (n : Nat) (s : State) : State :=
  if s.supervised n && !(s.sup n).noBase && decide ((s.sup n).baseCount ≠ 8) then setSup n SupRun.capture s else s

/-- Supervision of a channel that starts: its first check falls due after the interval (log 18). -/
def startSup (n : Nat) (s : State) : State :=
  if !s.supervised n then s.modSup n fun u => { u with due := none }
  else captureSup n (s.modSup n fun u => { u with due := some (u.due.getD (s.node + s.toneInterval n)) })

/-- A hard fault found by an impedance check holds (R217, Table 6.6). -/
def SupRun.hardFault (u : SupRun) : Bool := decide (u.status &&& 0x78 ≠ 0)

/-- TONE_INTERVAL of channel n changed from `old`: a check that waits for its interval falls due the new one after the last (R215,
R124). -/
def respaceCheck (n old : Nat) (s : State) : State :=
  s.modSup n fun u => { u with due := u.due.map fun d => if s.node < d && !u.hardFault then d - old + s.toneInterval n else d }

/-- A raw value taken into a raw check (R210). -/
def RawRun.take (fail : Bool) (r : RawRun) : RawRun :=
  if fail then ⟨min 2 (r.fails + 1), 0⟩
  else if r.fails < 2 then ⟨0, 0⟩
  else if r.passes = 0 then ⟨2, 1⟩
  else ⟨0, 0⟩

/-- STATUS with the raw and compliance bits formed from their checks. -/
def SupRun.rawBits (u : SupRun) : SupRun :=
  let st := setBit (setBit u.status 0 (decide (u.comp ≠ .none))) 1 u.rawShort.bad
  { u with status := setBit st 2 u.rawOpen }

/-- A pip reading, V, taken into its terminal's count: TB and TC in turn on a 4-wire channel, TA of a thermocouple under the
first (R211). With PIP cleared the counts go; in HOLD no pip runs (R216). -/
def SupRun.pip (m : PipMode) (pip : Option Rat) (u : SupRun) : SupRun :=
  match m with
  | .off => { u with pipB := ⟨0, 0⟩, pipC := ⟨0, 0⟩, pipTC := false }
  | .hold => u
  | .single => { u with pipB := match pip with | some v => u.pipB.take (decide (32 / 100 < v)) | none => u.pipB, pipC := ⟨0, 0⟩ }
  | .pair =>
    match pip with
    | none => { u with pipTC := !u.pipTC }
    | some v =>
      if u.pipTC then { u with pipTC := false, pipC := u.pipC.take (decide (32 / 100 < v)) }
      else { u with pipTC := true, pipB := u.pipB.take (decide (32 / 100 < v)) }

/-- One raw value x of a channel, and the pip reading of its burst sample (Table 6.2); `clear` where no compliance trip has come since
it began. -/
def SupRun.raw (f : Fn) (rNom : Rat) (ne43 clear : Bool) (m : PipMode) (x : Rat) (pip : Option Rat) (u : SupRun) : SupRun :=
  ({ u with
    rawShort := if f == .rtd then u.rawShort.take (decide (x < rNom / 10)) else ⟨0, 0⟩,
    rawLoop := if ne43 then u.rawLoop.take (decide (x < 1 / 2)) else ⟨0, 0⟩,
    compClear := if clear then u.compClear + 1 else u.compClear } : SupRun).pip m pip

/-- When every raw check has passed and no trip has come over two raw values, the compliance condition ends (R212). -/
def SupRun.settle (u : SupRun) : SupRun :=
  if !u.rawShort.bad && !u.rawOpen && 2 ≤ u.compClear then { u with comp := .none } else u

/-- One raw value of channel n that ended `back` µs ago taken into the loop short of R184 and the raw checks; the filter restarts at
its end where they let go (R210 to R212). -/
def rawCheck (n back : Nat) (x : Rat) (pip : Option Rat) (s : State) : State :=
  let s0 := s.modCh n fun r => { r with
    lastRaw := x, overSince := if s.subFn n == .iinLoop && decide (24 ≤ x) then some (r.overSince.getD (s.now - back)) else none }
  if !s0.gate (bayOf n) then s0
  else
    let was := (s0.sup n).faulty
    let s1 := setSup n (fun u =>
      ((u.raw (s0.subFn n) (rNom (s0.cf .ch n 2)) (s0.ne43On n) (s0.burst n || decide (u.compAt + 250 ≤ s0.now - back)) (s0.pipMode n) x
        pip).settle).rawBits) s0
    if was && !(s1.sup n).faulty then restart n (s1.node - back) false 0 s1 else s1

/-- The excitation sources of channel n drive its terminals (R170, R208, R213): not between burst samples, in a sample that a
trip has discarded, before the filter runs, or during a check. -/
def State.sourcesOn (s : State) (n : Nat) : Bool :=
  (s.subFn n).excited && s.converting n && s.gate (bayOf n) && (s.sup n).check.isNone &&
    (!s.burst n ||
      (decide (s.toSample n < s.sampleTime n) && !s.beforeFilter n &&
        (match (s.sup n).dropTo with | some e => decide (e < s.node) | none => true)))

/-- COMPLIANCE_TRIP (R208, R209): a source terminal of channel n has stood above 10.0 V for 32 µs. In burst mode the sample under
way is discarded and the sources are off until the next; so is a lead conversion under way. -/
def execComplianceTrip (t : Nat) (n : Chan) (s : State) : Res :=
  let s := s.begin t
  if !s.sourcesOn n && !s.leadRuns n then .next s
  else
    let drift := decide (9 * 1000000 / (s.iex n).1 < (s.ch n).lastRaw)
    let own := s.burst n && s.sourcesOn n
    let s1 := if own then noteAwake n (s.sampleTime n - s.toSample n) s else s
    .next (dropLead n (setSup n (fun u =>
      ({ u with comp := if drift then .drift else .broken, compAt := s.now, compClear := 0,
                dropTo := if own then some (s.node + s.toSample n) else u.dropTo } : SupRun).rawBits) s1))

/-- A check of channel n of `len` µs may begin now: the node time by which it was to fall due (R173, R215). -/
def State.checkSlot (s : State) (n len : Nat) : Option Micros :=
  if s.displacesBy n len || ((s.ch n).settling && decide (s.node + len + 3 * periodOf (s.rate n) ≤ (s.ch n).tNext)) then
    some s.node
  else
    let k := s.sampleStep n
    let d := if s.toSample n = 0 then k else s.toSample n
    if len + s.sampleTime n ≤ d then some (s.node + d - k) else none

/-- A check of channel n waits though it is due: for the first valid result of a restart where it fell due by its interval (R175,
R215), for the first after HOLD (R216), or for a HART transaction. -/
def State.checkWaits (s : State) (n len : Nat) : Bool :=
  let u := s.sup n
  (s.displacesBy n len && (s.ch n).settling && u.waiting.isEmpty && !u.hardFault) || u.afterHold || (s.hrt n).trans.isSome

/-- IMPEDANCE_CHECK (R213, R215, R226): a due check of channel n begins, after a reference check and a lead conversion of its
gap. -/
def execImpedanceCheck (t : Nat) (n : Chan) (s : State) : Res :=
  let s := s.begin t
  let u := s.sup n
  let setup := s.supSetup n
  let len := blockTimeOf (s.segments n setup)
  match u.due, s.checkSlot n len with
  | some d, some g =>
    if g < d || u.check.isSome || !s.supervised n || !s.running n || s.nd.mode = .hold || !s.gate (bayOf n) || (s.ch n).tripped ||
        s.checkWaits n len || s.aheadBy n true g then .next s
    else .next (s.modSup n fun u =>
      { u with check := some ⟨s.node, s.node + len, u.waiting, setup⟩, waiting := [], due := none })
  | _, _ => .next s

/-- Tone amplitude of the sense segments, A (R214). -/
def State.toneAmps (s : State) (n : Nat) (setup : List Nat) : Rat :=
  match setup.getD 1 0 with
  | 0 =>
    if (s.subFn n).excited then
      let k := stepAmps (s.iexStep n) / 10
      if k < 1 / 1000000 then 1 / 1000000 else k
    else 1 / 100000
  | 1 => 1 / 10000000
  | 2 => 1 / 1000000
  | 3 => 1 / 100000
  | _ => 1 / 10000

/-- Magnitude and phase of one segment (R214, Table 6.4); nothing where it did not run. -/
def toneFigure (on : Bool) (amps : Rat) (z : Tone) : Word32 × Word32 :=
  if !on then (f32NaN, f32NaN)
  else
    let m := rsqrt (z.re * z.re + z.im * z.im)
    if 1 < m * amps then (0x7F800000#32, f32NaN)
    else if m * amps < 2 / 10000 then (0#32, f32NaN)
    else (f32Of m, f32Of (angleDeg z.re z.im))

/-- C_EST, nF: Im(1 / Z) / (2π × 50 kHz). Below the measurable range Z reads 0.0 and 1 / Z has no value: a free value
(log 19). -/
def toneCap (on : Bool) (amps : Rat) (z : Tone) (k : Nat) : Word32 :=
  if !on then f32NaN
  else
    let q := z.re * z.re + z.im * z.im
    let m := rsqrt q
    if 1 < m * amps then 0#32
    else if m * amps < 2 / 10000 then BitVec.ofNat 32 (Config.freeNat k)
    else f32Of (-z.im / q * 10000000000000000000 / 3141592653589793)

/-- The figures of a completed check (Table 6.4). -/
def State.figures (s : State) (n : Nat) (setup : List Nat) (f1 f2 f3 g1 g3 : Tone) : Figures :=
  let on := s.segments n setup
  let a := s.toneAmps n setup
  let z1 := toneFigure (on.getD 0 false) a f1
  let z2 := toneFigure (on.getD 1 false) a f2
  let z3 := toneFigure (on.getD 2 false) a f3
  let f := s.subFn n
  let lead := if f.excited && wiringIn s.cfg.inForce n == 3 then f32Of (s.leadOf n)
    else if f == .tc || f == .vin then z1.1 else f32NaN
  ⟨z1.1, z1.2, z2.1, z2.2, z3.1, z3.2, toneCap (on.getD 2 false) a f3 s.free,
    (toneFigure (on.getD 3 false) (1 / 10000000) g1).1, (toneFigure (on.getD 4 false) (1 / 10000000) g3).1, lead⟩

/-- A figure image compared with a threshold: above it, with +∞ above every one. -/
def figAbove (w : Word32) (th : Rat) : Bool := w == 0x7F800000#32 || (f32Finite w && decide (th < f32Val w))

/-- A figure image below a threshold. -/
def figBelow (w : Word32) (th : Rat) : Bool := f32Finite w && decide (f32Val w < th)

/-- A hard threshold bit after a check (R219): off at threshold 0.0, unchanged where the figure's segment did not run. -/
def hardBit (old : Bool) (ran : Bool) (th : Rat) (hit : Bool) : Bool :=
  if th = 0 then false else if !ran then old else hit

/-- A binary32 field of a supervision setup. -/
def setupReal (setup : List Nat) (i : Nat) : Rat := f32Val (BitVec.ofNat 32 (setup.getD i 0))

/-- The status after the hard thresholds (R219). -/
def SupRun.hard (s : State) (n : Nat) (setup : List Nat) (fg : Figures) (u : SupRun) : SupRun :=
  let on := s.segments n setup
  let th (i : Nat) : Rat := setupReal setup i
  let b (k i : Nat) (ran : Bool) (hit : Bool) (st : Nat) : Nat := setBit st k (hardBit (hasBit u.status k) ran (th i) hit)
  let sense := on.getD 0 false
  let st := b 5 8 (on.getD 3 false) (figBelow fg.ins (th 8)) (b 6 9 (on.getD 2 false) (figAbove fg.cEst (th 9)) u.status)
  { u with status := b 3 6 sense (figAbove fg.zF1 (th 6)) (b 4 7 sense (figBelow fg.zF1 (th 7)) st) }

/-- The least-squares slope of figures against time, per hour (R221); 0 where all times agree. -/
def slope (ps : List (Micros × Rat)) : Rat :=
  let t0 := (ps.getLast?.map (·.1)).getD 0
  let qs : List (Rat × Rat) := ps.map fun (t, f) => (((t - t0 : Nat) : Rat) / 3600000000, f)
  let n : Rat := qs.length
  let st := qs.foldl (fun a q => a + q.1) (0 : Rat)
  let sf := qs.foldl (fun a q => a + q.2) (0 : Rat)
  let stt := qs.foldl (fun a q => a + q.1 * q.1) (0 : Rat)
  let stf := qs.foldl (fun a q => a + q.1 * q.2) (0 : Rat)
  let d := n * stt - st * st
  if d = 0 then 0 else (n * stf - st * sf) / d

/-- What R221 finds of one figure: whether a condition holds, and t_p where the projection condition does. -/
structure TrendFinding where
  holds : Bool
  tp : Option Rat
  deriving DecidableEq, Repr

/-- |f - b| reaches `dev` % of |l - b|, with f on the side of b towards the limit l. Past the measurable range a figure reads +∞,
and the comparison is that of binary numbers: an infinite baseline lies past every finite figure (log 217). -/
def deviates (dev : Nat) (rising : Bool) (b f : Word32) (l : Rat) : Bool :=
  let inf (w : Word32) : Bool := w == 0x7F800000#32
  if inf b then !rising && f32Finite f
  else if !f32Finite b then false
  else if inf f then rising
  else
    f32Finite f && (if rising then decide (f32Val b < f32Val f) else decide (f32Val f < f32Val b)) &&
      decide (rabs (l - f32Val b) * dev / 100 ≤ rabs (f32Val f - f32Val b))

/-- R221 for one figure: images of its values, latest first, its baseline and limit. Only finite figures make a slope. -/
def trendOf (dev horizon : Nat) (rising : Bool) (base : Word32) (limit : Rat) (ps : List (Micros × Word32)) : TrendFinding :=
  match ps with
  | [] => ⟨false, none⟩
  | (_, w) :: _ =>
    let qs : List (Micros × Rat) := (ps.filter fun p => f32Finite p.2).map fun p => (p.1, f32Val p.2)
    let d := deviates dev rising base w limit
    let sl := slope qs
    let points := if rising then decide (0 < sl) else decide (sl < 0)
    let tp := if sl = 0 then 0 else rabs (limit - f32Val w) / rabs sl
    if f32Finite w && horizon ≠ 0 && 8 ≤ qs.length && points && tp < horizon then ⟨true, some tp⟩ else ⟨d, none⟩

/-- The run of checks at which a figure's conditions held (R221). -/
def TrendRun.take (holds : Bool) (r : TrendRun) : TrendRun :=
  if holds then ⟨min 2 (r.held + 1), 0⟩ else ⟨0, min 4 (r.clear + 1)⟩

/-- A trend bit after a check. -/
def TrendRun.shows (old : Bool) (r : TrendRun) : Bool := if 2 ≤ r.held then true else if 4 ≤ r.clear then false else old

/-- The mean of the figures that segments gave: +∞ with one of +∞, NaN without any. -/
def baseMean (ws : List Word32) : Word32 :=
  let fs := ws.filter f32Finite
  if ws.contains 0x7F800000#32 then 0x7F800000#32
  else if fs.isEmpty then f32NaN
  else f32Of ((fs.foldl (fun a w => a + f32Val w) (0 : Rat)) / (fs.length : Rat))

/-- A completed check taken into the baseline (R220). -/
def SupRun.baseline (it : TrendItem) (u : SupRun) : SupRun :=
  let items := u.baseItems ++ [it]
  if items.length < 8 then { u with baseItems := items, baseCount := items.length }
  else { u with noBase := false, baseItems := [], baseCount := 8, baseLL := baseMean (items.map (·.ll)),
                baseIns := baseMean (items.map (·.ins)), baseCap := baseMean (items.map (·.cap)) }

/-- What R221 finds of LEAD or LOOP, INS and C_EST of channel n over a window. -/
structure TrendFindings where
  ll : TrendFinding
  ins : TrendFinding
  cap : TrendFinding
  deriving DecidableEq, Repr

/-- R221 over a window, latest first: a trend whose limit is off, or whose figure Table 6.1 does not give, stays clear. -/
def trendsOf (s : State) (n : Nat) (setup : List Nat) (u : SupRun) (window : List TrendItem) : TrendFindings :=
  let f := s.subFn n
  let w := wiringIn s.cfg.inForce n
  let isLead := f.excited && w == 3
  let isLoop := f == .tc || f == .vin
  let dev := setup.getD 4 0
  let hor := setup.getD 5 0
  let zo := setupReal setup 6
  let llLimit := if isLead then s.cr .meas n 8 else if zo = 0 then 10000 else zo
  let none : TrendFinding := ⟨false, .none⟩
  let insL := setupReal setup 8
  let capL := setupReal setup 9
  { ll := if isLead || isLoop then trendOf dev hor true u.baseLL llLimit (window.map fun i => (i.time, i.ll)) else none
    ins := if guardOk f w && insL != 0 then trendOf dev hor false u.baseIns insL (window.map fun i => (i.time, i.ins)) else none
    cap := if f.sense && capL != 0 then trendOf dev hor true u.baseCap capL (window.map fun i => (i.time, i.cap)) else none }

/-- The runs of checks with findings taken. -/
def SupRun.takeTrends (x : TrendFindings) (u : SupRun) : SupRun :=
  { u with runLL := u.runLL.take x.ll.holds, runIns := u.runIns.take x.ins.holds, runCap := u.runCap.take x.cap.holds }

/-- The trends after a check (R221): bits and T_PROJ. -/
def SupRun.trend (s : State) (n : Nat) (setup : List Nat) (u : SupRun) : SupRun :=
  let f := s.subFn n
  let isLead := f.excited && wiringIn s.cfg.inForce n == 3
  let isLoop := f == .tc || f == .vin
  let x := trendsOf s n setup u u.window
  let v := u.takeTrends x
  let st := setBit (setBit u.status 7 (isLead && v.runLL.shows (hasBit u.status 7))) 8
    (isLoop && v.runLL.shows (hasBit u.status 8))
  let tps := [x.ll.tp, x.ins.tp, x.cap.tp].filterMap id
  let least := tps.foldl (fun (a : Option Rat) x => match a with | .none => some x | some y => some (if x < y then x else y)) .none
  { v with
    tProj := match least with | some x => f32Of x | .none => 0x7F800000#32,
    status := setBit (setBit st 9 (v.runIns.shows (hasBit u.status 9))) 10 (v.runCap.shows (hasBit u.status 10)) }

/-- Figures of a completed check taken into the window and the baseline or trend (R220, R221). -/
def SupRun.follow (s : State) (n : Nat) (setup : List Nat) (time : Micros) (fg : Figures) (u : SupRun) : SupRun :=
  let it : TrendItem := ⟨time, fg.lead, fg.ins, fg.cEst⟩
  let v := { u with checks := wrap32 (u.checks + 1), tCheck := time, fig := fg, window := (it :: u.window).take (setup.getD 3 0) }
  if v.noBase then v.baseline it else v.trend s n setup

/-- The SUP_CHECK record of channel n (R222). -/
def supRecord (n : Nat) (fg : Figures) (s : State) : State :=
  submit .control 0x041 (le 2 n ++ le 2 (s.sup n).word ++ le 4 (s.epochOf n) ++ w32Bytes fg.zF1 ++ w32Bytes fg.phF1 ++
    w32Bytes fg.zF2 ++ w32Bytes fg.phF2 ++ w32Bytes fg.zF3 ++ w32Bytes fg.phF3 ++ w32Bytes fg.cEst ++ w32Bytes fg.ins ++
    w32Bytes fg.insF3 ++ w32Bytes fg.lead) s

/-- A check's figures taken: thresholds, window, baseline or trend, and the record (R219 to R222). -/
def takeFigures (n : Nat) (setup : List Nat) (fg : Figures) (s : State) : State :=
  supRecord n fg (setSup n (fun u => (SupRun.hard s n setup fg u).follow s n setup s.node fg) s)

/-- The SUP_READ reply (Table 6.11). -/
def supBytes (n : Nat) (s : State) : List Byte :=
  let u := s.sup n
  le 2 n ++ le 2 u.word ++ le 4 u.checks ++ le 8 u.tCheck ++ w32Bytes u.fig.zF1 ++ w32Bytes u.fig.phF1 ++ w32Bytes u.fig.zF2 ++
    w32Bytes u.fig.phF2 ++ w32Bytes u.fig.zF3 ++ w32Bytes u.fig.phF3 ++ w32Bytes u.fig.cEst ++ w32Bytes u.fig.ins ++
    w32Bytes u.fig.insF3 ++ w32Bytes u.baseLL ++ w32Bytes u.baseIns ++ w32Bytes u.baseCap ++ w32Bytes u.tProj ++
    le 1 u.baseCount ++ le 3 0

/-- When the next check falls due (R215, R217). -/
def State.nextCheck (s : State) (n : Nat) : Micros :=
  if (s.sup n).hardFault then (if s.burst n then s.node else s.node + 100000) else s.node + s.toneInterval n

/-- IMPEDANCE_CHECK_DONE (R218, R219): the check of channel n completes with these segment responses; a segment that did not
run counts for nothing. -/
def execImpedanceCheckDone (t : Nat) (n : Chan) (f1 f2 f3 g1 g3 : Tone) (s : State) : Res :=
  let s := s.begin t
  match (s.sup n).check with
  | none => .next s
  | some c =>
    if s.node < c.endAt then .next s
    else
      let had := (s.sup n).status &&& 0x18 ≠ 0
      let s1 := takeFigures n c.setup (s.figures n c.setup f1 f2 f3 g1 g3) s.draw.2
      let s2 := (noteAwake n (c.endAt - c.began) s1).modSup n fun u => { u with check := none, due := some (s1.nextCheck n) }
      let freed := had && (s2.sup n).status &&& 0x18 = 0
      let len := c.endAt - c.began
      let s3 := if s2.displacesBy n len then restart n s2.node false 250 s2
        else if freed then restart n s2.node false 0 s2 else s2
      .next (c.tickets.foldl (fun s tk => reply tk stDone (supBytes n s) s) s3)

/-- SUP_SET (R226). -/
def execSupSet (rq : Request) (s : State) : Res := setupCommand .sup 0x0220 rq s
/-- SUP_GET (R226). -/
def execSupGet (rq : Request) (s : State) : Res := setupRead .sup 0x0221 rq s
/-- SUP_READ (Table 6.11). -/
def execSupRead (rq : Request) (s : State) : Res := answerNow 0x0222 rq (readBody 2 512 supBytes) s

/-- SUP_BASELINE's own part (R220, R227). For 0xFFFF one shut gate refuses the whole command, and channels that enable no segment
are passed over (log 207). -/
def supBaselineBody (_tk : Ticket) (pl : List Byte) (s : State) : Nat × List Byte × State :=
  let n := fieldAt pl 0 2
  if pl.length ≠ 2 || (512 ≤ n && n ≠ 0xFFFF) then (stParam, [], s)
  else if n = 0xFFFF then
    let ns := allChans.filter s.supervised
    if ns.all fun k => s.gate (bayOf k) then (stDone, [], ns.foldl (fun s k => setSup k SupRun.capture s) s) else (stState, [], s)
  else if !s.supervised n || !s.gate (bayOf n) then (stState, [], s)
  else (stDone, [], setSup n SupRun.capture s)

/-- SUP_BASELINE (R220). -/
def execSupBaseline (rq : Request) (s : State) : Res := answerNow 0x0223 rq supBaselineBody s

/-- SUP_CHECK's own part (R215, R227): a check falls due, and the reply follows it; several may wait for one check. -/
def supCheckBody (cls : Rights) (tk : Ticket) (pl : List Byte) (s : State) : State :=
  let n := fieldAt pl 0 2
  let u := s.sup n
  if pl.length ≠ 2 || 512 ≤ n then finish cls tk stParam [] s
  else if !s.supervised n || !s.gate (bayOf n) || u.check.isSome then finish cls tk stState [] s
  else inProgress tk (s.modSup n fun u => { u with
    due := some (match u.due with | some d => min d s.node | none => s.node), waiting := u.waiting ++ [tk] })

/-- SUP_CHECK (R215). -/
def execSupCheck (rq : Request) (s : State) : Res := .next (runPacket 0x0224 rq supCheckBody s)

end Sys2Proof.Machine
end

