-- ==== Sys2Proof/Machine/Digital.lean ====
section
/-! DEFINITION. Digital inputs, counters, frequency inputs and switches with the retry rule (chapter 8), and the records that
input channels publish (R200, R201). -/

namespace Sys2Proof.Machine

/-- FLAGS of the digital setup (Table 8.14). -/
def State.dioFlag (s : State) (n k : Nat) : Bool := hasBit (s.cf .dio n 3) k

/-- EDGE of the digital setup. -/
def State.edgeSel (s : State) (n : Nat) : Nat := s.cf .dio n 3 / 64

/-- EDGE selects an edge (R266, R269). -/
def edgeTaken (sel : Nat) (rising : Bool) : Bool := sel == 2 || (if rising then sel == 0 else sel == 1)

/-- STATUS of Table 8.16. -/
def State.dioStatus (s : State) (n : Nat) : Nat :=
  setBit (s.dio n).status 0 ((s.fn n).switched && hasBit (s.outp n).status 7)

/-- Digital channel n changed, with a DIO_STATUS record where its status word changes; NEW and OLD hold STATE of DIO_READ
(log 17). -/
def setDio (n : Nat) (f : DioRun → DioRun) (s : State) : State :=
  let old := s.dioStatus n
  let s1 := s.modDio n f
  let new := s1.dioStatus n
  let st := (s1.outp n).mode.code
  if new = old then s1 else chanEvent 0x044 n st st new (s1.img n).value s1

/-- A status bit of digital channel n. -/
def setDioBit (n k : Nat) (b : Bool) (s : State) : State := setDio n (fun d => { d with status := setBit d.status k b }) s

/-- A result with a value given by an event (R261, R266, R269): stamped, counted, and the channel no longer SETTLING. -/
def eventResult (n : Nat) (v : Rat) (quality detail te : Nat) (s : State) : State :=
  s.modCh n fun r => { r with
    latest := { r.latest with value := f32Of v, quality := quality, detail := detail, seq := wrap16 (r.latest.seq + 1), tEnd := te },
    settling := false, epochMark := r.epochDue, epochDue := false, deliveredAt := s.now }

/-- The decision time of the main pulse of channel n in millisecond ms (Table 8.1). -/
def decisionTime (n ms : Nat) : Nat := 1000 * ms + 100 * (n % 32 % 8) + 150

/-- The decision time of the k-th main pulse from millisecond ms on, supervision pulses passed over. -/
def nthPulse (n : Nat) (lineSup : Bool) : Nat → Nat → Nat
  | 0, ms => decisionTime n ms
  | k + 1, ms =>
    let m := if lineSup && ms % 10 == 0 then ms + 1 else ms
    if k = 0 then decisionTime n m else nthPulse n lineSup k (m + 1)

/-- FILTER in force, 0 counting as 1. -/
def State.filterOf (s : State) (n : Nat) : Nat := max 1 (s.cf .dio n 4)

/-- A first state is to be established (R261); a counter or frequency input waits for its first capture or gate end. -/
def restartDigital (n : Nat) (s : State) : State :=
  let f := s.subFn n
  let shown := (s.img n).value
  let ms := (s.node + 1000 - 100 * (n % 32 % 8) - 150) / 1000
  let next :=
    if f == .di then nthPulse n (s.dioFlag n 3) (s.filterOf n) ms
    else if f == .frq then nextMultiple s.node (1000 * s.cf .dio n 8)
    else nextMultiple s.node 1000
  if f == .di || f == .cnt || f == .frq then
    let s1 := s.modCh n fun r => { r with
      heldValue := if r.settling then r.heldValue else shown, settling := true, tRestart := s.node, tNext := next }
    setDio n (fun d => { d with state := none, run := 0, pulseAt := none, line := .none, lineRun := 0,
                                status := setBit d.status 6 false,
                                supply := { d.supply with closed := hasBit (s.cf .dio n 3) 4, closedAt := s.now } }) s1
  else s

/-- Thresholds of TA: reads 0 at or below the first, 1 at or above the second (Table 8.2). -/
def diThresholds (r : Nat) : Rat × Rat := if r = 2 then (8, 13) else (7, 19 / 2)

/-- One sample taken towards FILTER (R261). -/
def DioRun.sampled (b : Bool) (node : Micros) (d : DioRun) : DioRun :=
  if d.run ≠ 0 && b == d.sample then { d with run := d.run + 1 } else { d with sample := b, run := 1, runAt := node }

/-- Time into the pulse of channel n, µs, and the millisecond of node time in which it began (Table 8.1). -/
def State.pulsePos (s : State) (n : Nat) : Nat × Nat :=
  let off := 100 * (n % 32 % 8)
  ((s.node - off) % 1000, (s.node - off) / 1000)

/-- The pulse of that millisecond is a supervision pulse (Table 8.1). -/
def State.supervisionMs (s : State) (n ms : Nat) : Bool := s.dioFlag n 3 && ms % 10 == 0

/-- The sink current of channel n, mA (R138, R259, R263 to R265): its pulse where one stands, the keep-alive current between pulses and
in HOLD (log 224); none in a unit whose gate is shut. -/
def State.sinkCurrent (s : State) (n : Nat) : Rat :=
  let (pos, ms) := s.pulsePos n
  if !s.running n || !s.gate (bayOf n) || (s.ch n).tripped then 0
  else if s.subFn n != .di then 5 / 2
  else if s.converting n && decide (pos < 150) then (if s.supervisionMs n ms then 1 / 5 else 5 / 2)
  else if s.dioFlag n 5 then 8 / 5 else 1 / 10

/-- A decision of channel n can be taken now, of a supervision pulse or of a main pulse (Table 8.1): it stands in the last 10 µs of
that pulse, or at its end, and none has been taken of it; the time of that end. -/
def State.decides (s : State) (n : Nat) (sup : Bool) : Option Micros :=
  let (pos, ms) := s.pulsePos n
  let te := s.node + 150 - pos
  if pos < 140 || 150 < pos || s.supervisionMs n ms != sup || (s.dio n).pulseAt = some te then none else some te

/-- T_NEXT of a digital input whose first state is not established (R261): the earliest decision by which FILTER samples can agree. -/
def settleNext (n : Nat) (s : State) : State :=
  let left := s.filterOf n - (s.dio n).run
  s.modCh n fun r => if r.settling then { r with tNext := nthPulse n (s.dioFlag n 3) left ((s.pulsePos n).2 + 1) } else r

/-- DI_SAMPLE (R259 to R261): a main pulse of channel n finds v volts at TA; `crossed` says that TA crossed a threshold within
the decision window. -/
def execDiSample (t : Nat) (n : Chan) (v : Rat) (crossed : Bool) (s : State) : Res :=
  let s := s.begin t
  match s.subFn n != .di || !s.converting n || !s.gate (bayOf n) || (s.ch n).tripped, s.decides n false with
  | false, some te =>
    let (lo, hi) := diThresholds (s.cf .ch n 2)
    let d := s.dio n
    let b := if crossed then d.sample else if hi ≤ v then true else if v ≤ lo then false else d.sample
    let d1 := { d.sampled b te with pulseAt := some te }
    let s1 := s.modDio n fun _ => d1
    if d1.run < s.filterOf n || d1.state = some b then .next (settleNext n s1)
    else
      let first := d1.state.isNone
      let s2 := s1.modDio n fun d => { d with state := some b, changes := if first then d.changes else wrap32 (d.changes + 1) }
      .next (eventResult n (if b != s.dioFlag n 2 then 1 else 0) 0 0 d1.runAt s2)
  | _, _ => .next s

/-- The class that a drop of D volts gives (Table 8.3); none in the undecided band. -/
def lineClassOf (d : Rat) : Option LineClass :=
  if d ≤ 3 / 2 then some .closed
  else if 5 / 2 ≤ d && d ≤ 8 then some .opened
  else if 12 ≤ d then some .broken
  else none

/-- DI_SUPERVISION_PULSE (R263): the drop V_TB - V_TA of channel n at a supervision pulse. -/
def execDiSupervisionPulse (t : Nat) (n : Chan) (vTA vTB : Rat) (s : State) : Res :=
  let s := s.begin t
  match s.subFn n != .di || !s.converting n || !s.gate (bayOf n), s.decides n true with
  | false, some te =>
    match lineClassOf (vTB - vTA) with
    | none => .next (s.modDio n fun d => { d with lineRun := 0, pulseAt := some te })
    | some c =>
      let d := s.dio n
      let run := if d.lineRun ≠ 0 && decide (d.lineCand = c) then 2 else 1
      .next (setDio n (fun d =>
        let line := if run = 2 then c else d.line
        { d with lineCand := c, lineRun := run, line := line, pulseAt := some te,
                 status := setBit d.status 6 (decide (line = .broken)) }) s)
  | _, _ => .next s

/-- A switch trips (R271). -/
def SwitchRun.trip (now : Micros) (w : SwitchRun) : SwitchRun :=
  let recent := match w.retriedAt with | some t => decide (now < t + 10000000) | none => false
  let still := match w.lastTrip with | some t => decide (now < t + 60000000) | none => false
  { w with closed := false, trippedAt := some now, lastTrip := some now, longWait := recent || (w.longWait && still) }

/-- The wait before a retry (R271). -/
def SwitchRun.wait (now : Micros) (w : SwitchRun) : Nat :=
  let still := match w.lastTrip with | some t => decide (now < t + 60000000) | none => false
  if w.longWait && still then 10000000 else 100000

/-- The switch may be retried. -/
def SwitchRun.mayRetry (now : Micros) (w : SwitchRun) : Bool :=
  match w.trippedAt with
  | none => false
  | some t => decide (t + w.wait now ≤ now)

/-- The switch closed, by a retry or by a command. -/
def SwitchRun.close (now : Micros) (retry : Bool) (w : SwitchRun) : SwitchRun :=
  { w with closed := true, closedAt := now, trippedAt := none, retriedAt := if retry then some now else w.retriedAt }

/-- The switch opened by command: it makes no retry (R271). -/
def SwitchRun.open (w : SwitchRun) : SwitchRun := { w with closed := false, trippedAt := none }

/-- Digital channel n changed by a trip, which submits its DIO_STATUS record whether or not the status word changes (R271). -/
def tripDio (n : Nat) (f : DioRun → DioRun) (s : State) : State :=
  let s1 := s.modDio n f
  let st := (s1.outp n).mode.code
  chanEvent 0x044 n st st (s1.dioStatus n) (s1.img n).value s1

/-- SENSOR_SUPPLY_TRIP (R262): the sensor supply of channel n has stood at its limit for 1 ms. -/
def execSensorSupplyTrip (t : Nat) (n : Chan) (s : State) : Res :=
  let s := s.begin t
  let f := s.subFn n
  if !(f == .di || f == .cnt || f == .frq) || !s.dioFlag n 4 || !s.running n || !s.gate (bayOf n) || !(s.dio n).supply.closed
  then .next s
  else .next (tripDio n (fun d => { d with supply := d.supply.trip s.now, status := setBit d.status 7 true }) s)

/-- An edge counts at the comparator (R260, R265): TA stands beyond the threshold of its direction for 4 µs, or FILTER µs where that
is larger, and the level accepted before it was not the same. -/
def State.edgeCounts (s : State) (n : Nat) (e : Edge) : Bool :=
  let (lo, hi) := diThresholds (s.cf .ch n 2)
  (if e.rising then decide (hi ≤ e.v) else decide (e.v ≤ lo)) && decide (max 4 (s.cf .dio n 4) ≤ e.held) &&
    decide ((s.dio n).state ≠ some e.rising)

/-- CNT_EDGE (R265, R266): an edge at TA of channel n, which the counter takes where it is sound and EDGE selects it. Counting goes on
in HOLD. -/
def execCntEdge (t : Nat) (n : Chan) (e : Edge) (s : State) : Res :=
  let s := s.begin t
  if s.fn n != .cnt || !s.running n || (s.ch n).tripped || !s.edgeCounts n e then .next s
  else
    .next (s.modDio n fun d => { d with
      state := some e.rising, count := if edgeTaken (s.edgeSel n) e.rising then (d.count + 1) % 281474976710656 else d.count })

/-- The unit's own count at a boundary, kept for the snapshot of that cycle (R268). -/
def DioRun.capOwn (cycle : Nat) (d : DioRun) : DioRun := { d with caps := ((cycle, d.count) :: d.caps).take 4 }

/-- Channel n's count captured at the sync pulse (R266); a unit that takes no readings of its own keeps its count for the snapshot
(R268). -/
def captureCount (own : Bool) (n : Nat) (te : Micros) (s : State) : State :=
  if s.fn n != .cnt || !s.running n then s
  else
    let d := s.dio n
    let s1 := s.modDio n (·.capOwn (wrap32 (te / 1000)))
    if own then eventResult n ((d.count : Rat) * s.cr .dio n 7) 0 0 te (s1.modDio n fun d => { d with captured := d.count })
    else s1

/-- A count loaded at the boundary whose capture stands (R267): it takes the captured count's place, and the edges counted since that
boundary go on from it. -/
def DioRun.preset (k : Nat) (d : DioRun) : DioRun :=
  let m := 281474976710656
  let move (x : Nat) : Nat := (x + k + (m - d.captured % m)) % m
  { d with count := move d.count, caps := d.caps.map fun c => (c.1, move c.2) }

/-- A count of the shared snapshot taken by a unit whose gate is shut (R268): it publishes that count, and counts on from it with the
edges it has counted itself since that cycle's boundary. -/
def DioRun.takeCount (cycle snap : Nat) (d : DioRun) : DioRun :=
  let m := 281474976710656
  let since := match d.caps.find? (·.1 == cycle) with | some c => (d.count + m - c.2) % m | none => 0
  let shift (x : Nat) : Nat := (snap + since + x + (m - d.count % m)) % m
  { d with captured := snap, count := (snap + since) % m, caps := d.caps.map fun c => (c.1, shift c.2) }

/-- FRQ_EDGE (R265, R269): an edge of channel n at `tick` units of 10 ns past the present microsecond of node time. Stamps and gates go
on in HOLD, where the published value is held (log 225). -/
def execFrqEdge (t : Nat) (n : Chan) (e : Edge) (tick : Fin 100) (s : State) : Res :=
  let s := s.begin t
  if s.fn n != .frq || !s.running n || (s.ch n).tripped || !s.edgeCounts n e then .next s
  else
    let at10 := 100 * s.node + tick
    let s1 := s.modDio n fun d => { d with state := some e.rising }
    if !edgeTaken (s.edgeSel n) e.rising then .next s1
    else .next (s1.modDio n fun d => match d.edge0 with
      | none => { d with edge0 := some at10, edgeN := some at10, periods := 0 }
      | some _ => { d with edgeN := some at10, periods := d.periods + 1 })

/-- The frequency at a gate end, Hz (R269): `te` in units of 10 ns, the timeout likewise. -/
def gateFreq (te timeout : Nat) (d : DioRun) : Rat :=
  match d.edge0, d.edgeN with
  | some t0, some tN =>
    if 0 < d.periods && t0 < tN then (d.periods : Rat) * 100000000 / ((tN - t0 : Nat) : Rat)
    else if timeout < te - tN then 0
    else if te ≤ tN then d.freq
    else
      let f : Rat := 100000000 / ((te - tN : Nat) : Rat)
      if d.freq < f then d.freq else f
  | _, _ => 0

/-- FRQ_GATE_END (R269): a gate of channel n ends, where node time passes a whole multiple of GATE. -/
def execFrqGateEnd (t : Nat) (n : Chan) (s : State) : Res :=
  let s := s.begin t
  let g := 1000 * s.cf .dio n 8
  let te := s.node / g * g
  if s.fn n != .frq || !s.running n || te ≤ (s.dio n).gateEnd then .next s
  else
    let f := gateFreq (100 * te) (1000000 * s.cf .dio n 9) (s.dio n)
    let excess := decide (100000 < f)
    let k := s.cr .dio n 7
    let s1 := setDio n (fun d => { d with freq := f, gateEnd := te, edge0 := d.edgeN, periods := 0,
                                          status := setBit d.status 1 excess }) s
    .next (eventResult n ((if excess then 100000 else f) * k) (if excess then 4 else 0) (if excess then 4 else 0) te s1)

/-- FS_LOST locks the output stages of channel n's bay out (R285). -/
def State.lockedOut (s : State) (n : Nat) : Bool := (s.bay (bayOf n)).fsLost

/-- The quality that the field supply and the line give a digital input (Tables 8.3, 8.12, R262). -/
def State.dioConditions (s : State) (n : Nat) : Nat :=
  let d := s.dio n
  let y := s.bay (bayOf n)
  let supplied := s.dioFlag n 4 && s.gate (bayOf n)
  let di := s.subFn n == .di
  let q := if di && (d.line = .broken || (y.fsLost && supplied)) then 2 else 0
  let q1 := if hasBit d.status 7 then worse q 3 else q
  if di && y.fsLow && supplied then worse q1 7 else q1

/-- VALUE that a channel shows after a protection trip (R153, R198): the chain at the span end of the side. -/
def State.tripValue (s : State) (n : Nat) : Word32 :=
  let (lo, hi) := spanOf (s.subFn n) (s.cf .ch n 2)
  let x := if (s.ch n).tripSide = .below then lo else hi
  (s.chain n x 0 0 false (s.refTemp n s.node).t false).value

/-- DETAIL of a record of channel n (Table 5.10). -/
def State.detailOf (s : State) (n : Nat) (clamped fallback : Bool) : Nat :=
  let r := s.ch n
  let u := s.sup n
  bitsOf [!r.given, false, clamped, u.status &&& 0x780 ≠ 0, decide (0 < s.govSteps n), r.leadHigh, s.excFault n,
    fallback]

/-- The quality an input channel shows now, digital conditions included (R200). -/
def State.quality (s : State) (n : Nat) : Nat :=
  let f := s.subFn n
  let q := s.inputQuality n
  if f == .di || f == .cnt || f == .frq then worse q (s.dioConditions n) else q

/-- The record that an input channel publishes at an image write (R199 to R201, Table 5.11). -/
def State.inputRecord (s : State) (n : Nat) : Result :=
  let r := s.ch n
  let old := s.img n
  let q := s.quality n
  let tripped := r.tripped && (q = 4 || q = 5)
  let value :=
    if q = 8 || q = 10 then old.value
    else if tripped then (if (s.subFn n).converts then s.tripValue n else r.latest.value)
    else if q = 2 || q = 3 || q = 6 then f32NaN
    else if q = 1 then (if r.hasValue then r.heldValue else f32NaN)
    else r.latest.value
  let clamped := tripped || (hasBit r.latest.detail 2 && q ≠ 2 && q ≠ 3 && q ≠ 6)
  { value := value, quality := q, detail := s.detailOf n clamped r.cjFallback, seq := r.latest.seq, epoch := s.epochOf n,
    tEnd := r.latest.tEnd, tNext := r.tNext }

/-- The record of a channel that is OFF (R199). -/
def State.offRecord (s : State) (n : Nat) : Result := { Result.initial with epoch := s.epochOf n }

end Sys2Proof.Machine
end

