-- ==== Sys2Proof/Machine/Hart.lean ====
section
/-! DEFINITION. HART (chapter 7): scans, polls, pass-throughs and what ends a transaction (R248 to R257). -/

namespace Sys2Proof.Machine

/-- HART_MODE of channel n in force: 0 OFF, 1 POINT, 2 MULTI. -/
def State.hartMode (s : State) (n : Nat) : Nat := s.cf .hart n 0

/-- STATUS of Table 7.12: PROT_TRIP and HART_BUSY stand where their causes do. -/
def State.outStatus (s : State) (n : Nat) : Nat :=
  setBit (setBit (s.outp n).status 5 (s.ch n).tripped) 0 (s.hrt n).trans.isSome

/-- A condition of the channel that stops HART (R256): OPEN_LOOP, COMPLIANCE, EXT_V or PROT_TRIP on IOUT; OPEN, SHORT or a
protection trip on an input. -/
def State.hartCondition (s : State) (n : Nat) : Bool :=
  (s.ch n).tripped ||
    (if s.fn n == .iout then (s.outp n).status &&& 0x16 ≠ 0
     else let q := s.quality n; q == 2 || q == 3)

/-- An impedance check of channel n is due or under way: the modem is held idle (R256). -/
def State.hartIdle (s : State) (n : Nat) : Bool :=
  (s.sup n).check.isSome || (match (s.sup n).due with | some d => decide (d ≤ s.node) | none => false)

/-- No transaction starts on channel n (R248, R256). -/
def State.hartBlocked (s : State) (n : Nat) : Bool :=
  !s.alive || !s.running n || !s.gate (bayOf n) || decide (s.nd.mode = .hold) || s.hartCondition n || s.hartIdle n ||
    8 ≤ (s.ch n).modem || s.hartMode n == 0

/-- POLL_INTERVAL in force, µs (R253, Table 3.11). -/
def State.pollInterval (s : State) (n : Nat) : Nat :=
  1000000 * s.cf .hart n 2 * 2 ^ (s.nd.gov.steps.filter fun g => decide (g = GovStep.poll n)).length

/-- A device of channel n. -/
def HartRun.dev (h : HartRun) (a : Nat) : Option HartDev := h.devices.find? (·.addr == a)

/-- A device put into a list kept by address. -/
def putDev (d : HartDev) : List HartDev → List HartDev
  | [] => [d]
  | e :: es => if d.addr < e.addr then d :: e :: es else if d.addr = e.addr then d :: es else e :: putDev d es

/-- A device not heard before. -/
def HartDev.fresh (a : Nat) : HartDev :=
  ⟨a, .found, 0, 0, 0, f32NaN, f32NaN, f32NaN, f32NaN, f32NaN, 0, none, none⟩

/-- The device of address a changed, with a HART_STATE record where its state changes or it is new (R254, Table 12.3). -/
def setDev (n a : Nat) (f : HartDev → HartDev) (s : State) : State :=
  let old := (s.hrt n).dev a
  let new := f (old.getD (HartDev.fresh a))
  let s1 := s.modHart n fun h => { h with devices := putDev new h.devices }
  let was := match old with | some d => d.state.code | none => 0
  if was = new.state.code then s1
  else chanEvent 0x046 n (16 * a + new.state.code) (16 * a + was) (new.devStatus % 256) (s1.img n).value s1

/-- AGE of a device, ms. -/
def HartDev.age (now : Micros) (d : HartDev) : Nat :=
  match d.repliedAt with | some t => min 0xFFFFFFFE ((now - t) / 1000) | none => 0xFFFFFFFF

/-- What a WARM reset leaves of the HART work: the devices; a scan, a parking or a command 109 cut off is to be sent again, and
pass-throughs are lost with their sessions (Tables 3.12, 7.12; log 222). -/
def HartRun.warm (h : HartRun) : HartRun :=
  let g := { h with trans := none, queue := [], scanTickets := [] }
  match h.trans with
  | none => g
  | some x =>
    match x.kind with
    | .scan => { g with scan := some x.addr }
    | .park => { g with park := x.addr :: h.park }
    | .endBurst => { g with endBurst := (x.addr, x.uid) :: h.endBurst }
    | _ => g

/-- HART_LIST entry (Table 7.14); UNIQUE_ID is that of the latest command 0 reply (log 220). -/
def HartDev.bytes (now : Micros) (d : HartDev) : List Byte :=
  le 1 d.addr ++ le 1 d.state.code ++ le 5 d.liveUid ++ le 1 d.devStatus ++ w32Bytes d.iLoop ++ w32Bytes d.pv ++ w32Bytes d.sv ++
    w32Bytes d.tv ++ w32Bytes d.qv ++ le 4 d.units ++ le 4 (d.age now)

/-- The HART_LIST reply (Table 7.9). -/
def hartListBytes (n : Nat) (s : State) : List Byte :=
  let ds := (s.hrt n).devices
  le 2 n ++ le 1 ds.length ++ le 1 0 ++ ds.flatMap (·.bytes s.now)

/-- The HART_PASS reply (Table 7.16). -/
def hartPassBytes (n result resp dev : Nat) (data : List Byte) : List Byte :=
  le 2 n ++ le 1 result ++ le 1 resp ++ le 1 dev ++ le 1 data.length ++ data

/-- What a transaction leaves when a channel event stops it (R256): a pass-through gets its RESULT, a scan step, park or
command 109 is to be sent again. -/
def abortHart (n result : Nat) (s : State) : State :=
  match (s.hrt n).trans with
  | none => s
  | some x =>
    let s1 := s.modHart n fun h => { h with trans := none }
    match x.kind with
    | .pass tk => reply tk stDone (hartPassBytes n result 0 0 []) s1
    | .scan => s1.modHart n fun h => { h with scan := some x.addr }
    | .park => s1.modHart n fun h => { h with park := x.addr :: h.park }
    | .endBurst => s1.modHart n fun h => { h with endBurst := (x.addr, x.uid) :: h.endBurst }
    | .poll => s1
    | .seek => s1

/-- The transaction under way stops where the gate is shut, the node is in HOLD or a channel condition holds (R256). -/
def hartGuard (n : Nat) (s : State) : State :=
  if (s.hrt n).trans.isNone then s
  else if !s.gate (bayOf n) then abortHart n 3 s
  else if decide (s.nd.mode = .hold) then abortHart n 4 s
  else if s.hartCondition n then abortHart n 5 s
  else s

/-- A commit releases the modem or changes the function or the HART setup (R256): waiting pass-throughs end too, and the device
states are cleared. -/
def hartReset (n : Nat) (s : State) : State :=
  let s1 := abortHart n 2 s
  let q := (s1.hrt n).queue
  let tickets := (s1.hrt n).scanTickets
  let s2 := s1.modHart n fun _ => HartRun.initial
  let s3 := q.foldl (fun s p => reply p.ticket stDone (hartPassBytes n 2 0 0 []) s) s2
  tickets.foldl (fun s tk => reply tk stDone (hartListBytes n s) s) s3

/-- A scan of channel n begins (R251): address 0 in POINT, 1 to ADDR_MAX in MULTI. One that falls due while the gate is shut is
kept, and runs before cyclic polling goes on once the gate opens (DESIGN CHOICE, log 260). -/
def hartScan (n : Nat) (s : State) : State :=
  if s.hartMode n = 0 || 8 ≤ (s.ch n).modem then s
  else s.modHart n fun h => { h with scan := some (if s.hartMode n = 1 then 0 else 1), park := [] }

/-- The last address of a scan. -/
def State.lastAddr (s : State) (n : Nat) : Nat := if s.hartMode n = 1 then 0 else s.cf .hart n 1

/-- HART_SCAN commands are answered once the scan and its parking are over. -/
def scanReplies (n : Nat) (s : State) : State :=
  let h := s.hrt n
  if h.scan.isSome || !h.park.isEmpty || h.scanTickets.isEmpty then s
  else
    let s1 := s.modHart n fun h => { h with scanTickets := [] }
    h.scanTickets.foldl (fun s tk => reply tk stDone (hartListBytes n s) s) s1

/-- The scan goes on to the address after a. -/
def scanNext (n a : Nat) (s : State) : State :=
  scanReplies n (s.modHart n fun h => { h with scan := if a < s.lastAddr n then some (a + 1) else none })

/-- Time to send a request of `len` data bytes, µs (R248, R253): characters of 11 bits at 1,200 bit/s; preamble, delimiter,
address of 1 byte for command 0 and 5 otherwise, command, count, data, check. -/
def sendTime (preamble cmd len : Nat) : Nat := (preamble + (if cmd = 0 then 5 else 9) + len) * 55000 / 6

/-- The characters of a request under the data-link layer (R248; layout log 20): preamble; delimiter; the primary master's address,
short for command 0 and long, by unique identifier, for every other; command, count, data; check byte. -/
def hartFrame (preamble : Nat) (x : HartTrans) : List Byte :=
  let head := if x.cmd = 0 then le 1 0x02 ++ le 1 (0x80 + x.addr) else le 1 0x82 ++ le 1 (0x80 + x.uid % 64) ++ le 4 (x.uid / 256)
  let body := head ++ le 1 x.cmd ++ le 1 x.data.length ++ x.data
  List.replicate preamble 0xFF#8 ++ body ++ [body.foldl (· ^^^ ·) 0#8]

/-- A request goes out (R253). -/
def hartSend (n : Nat) (x : HartTrans) (s : State) : State :=
  let p := s.cf .hart n 4
  let s1 := s.modHart n fun h => { h with trans := some { x with sentAt := s.now + sendTime p x.cmd x.data.length } }
  s1.emit (.hart n (hartFrame p x))

/-- The unique identifier under which the device at an address is reached. -/
def HartRun.uidAt (h : HartRun) (a : Nat) : Nat := ((h.dev a).map (·.liveUid)).getD 0

/-- A transaction begins. -/
def hartStart (n : Nat) (kind : HartKind) (a uid cmd : Nat) (data : List Byte) (s : State) : State :=
  hartSend n ⟨kind, a, uid, cmd, data, 0, 0, true⟩ s

/-- The command of a device's cyclic poll: 3, and 0 for a MISSING device; none for a BURST device. -/
def HartDev.pollCmd (d : HartDev) : Option Nat :=
  match d.state with | .found => some 3 | .replaced => some 3 | .missing => some 0 | .burst => none

/-- The device's next poll is due (R253). -/
def HartDev.pollDue (interval now : Nat) (d : HartDev) : Bool :=
  let i := if d.state = .missing then 10 * interval else interval
  d.pollCmd.isSome && (match d.polledAt with | none => true | some t => decide (t + i ≤ now))

/-- The next device to poll, in ascending order of address from the one after the last polled. -/
def State.nextPoll (s : State) (n : Nat) : Option HartDev :=
  let h := s.hrt n
  let due := h.devices.filter (·.pollDue (s.pollInterval n) s.now)
  match due.find? (fun d => decide (h.lastPolled < d.addr)) with
  | some d => some d
  | none => due.head?

/-- The next transaction of channel n (R251, R253, R255): pass-throughs first, then command 109, the scan, parking and cyclic
polls. -/
def hartNext (n : Nat) (s : State) : State :=
  let h := s.hrt n
  match h.queue, h.endBurst, h.scan, h.park with
  | p :: q, _, _, _ =>
    hartStart n (.pass p.ticket) p.addr (h.uidAt p.addr) p.cmd p.data (s.modHart n fun h => { h with queue := q })
  | [], a :: as, _, _ => hartStart n .endBurst a.1 a.2 109 (le 1 0) (s.modHart n fun h => { h with endBurst := as })
  | [], [], some a, _ => hartStart n .scan a 0 0 [] s
  | [], [], none, a :: as =>
    hartStart n .park a (h.uidAt a) 6 (le 1 a ++ le 1 0) (s.modHart n fun h => { h with park := as })
  | [], [], none, [] =>
    match s.nextPoll n with
    | none => s
    | some d =>
      let s1 := s.modHart n fun h =>
        { h with lastPolled := d.addr, devices := putDev { d with polledAt := some s.now } h.devices }
      if d.state = .missing then hartStart n .seek d.addr 0 0 [] s1 else hartStart n .poll d.addr d.liveUid 3 [] s1

/-- HART_POLL (R253): the modem sends the next cyclic poll or queued transaction. -/
def execHartPoll (t : Nat) (n : Chan) (s : State) : Res :=
  let s := s.begin t
  .next (if (s.hrt n).trans.isSome || s.hartBlocked n then s else hartNext n s)

/-- The device with what any valid reply tells. -/
def HartDev.heard (now : Micros) (a : HartAnswer) (d : HartDev) : HartDev :=
  { d with repliedAt := some now, devStatus := a.devStatus }

/-- The device with a command 3 reply's values (R254). -/
def HartDev.values (a : HartAnswer) (d : HartDev) : HartDev :=
  { d with iLoop := a.iLoop, pv := a.pv, sv := a.sv, tv := a.tv, qv := a.qv, units := a.units }

/-- The device with what a reply tells of it by the command it answers (R253, R254): the identifier of a command 0 reply, else the
one it was addressed by, makes it FOUND again or REPLACED; a command 3 reply gives its values. -/
def HartDev.answered (now : Micros) (cmd : Nat) (a : HartAnswer) (d : HartDev) : HartDev :=
  let id := if cmd = 0 then a.uid else d.liveUid
  let e := { d.heard now a with
    liveUid := id
    state := if d.state = .burst then .burst else if id ≠ d.uid then .replaced else if d.state = .missing then .found else d.state }
  if cmd = 3 then e.values a else e

/-- A found device that reports loop current mode enabled is to be parked (R251). -/
def parkFound (n addr : Nat) (a : HartAnswer) (s : State) : State :=
  if s.hartMode n = 2 && hasBit (s.cf .hart n 5) 0 && a.loopOn then s.modHart n fun h => { h with park := h.park ++ [addr] }
  else s

/-- The listed device of a transaction has answered it. -/
def devAnswers (n : Nat) (x : HartTrans) (a : HartAnswer) (s : State) : State :=
  if ((s.hrt n).dev x.addr).isSome then setDev n x.addr (·.answered s.now x.cmd a) s else s

/-- What a valid reply does (R251, R253, R254, R257). -/
def hartAnswer (n : Nat) (x : HartTrans) (a : HartAnswer) (s : State) : State :=
  match x.kind with
  | .scan =>
    let s1 := setDev n x.addr (fun d => { d.heard s.now a with state := .found, uid := a.uid, liveUid := a.uid }) s
    scanNext n x.addr (parkFound n x.addr a s1)
  | .park => scanReplies n (devAnswers n x a s)
  | .endBurst => devAnswers n x a s
  | .poll => devAnswers n x a s
  | .seek => devAnswers n x a s
  | .pass tk => reply tk stDone (hartPassBytes n 0 a.resp a.devStatus a.data) (devAnswers n x a s)

/-- HART_REPLY (R253): a valid reply ends the transaction under way. -/
def execHartReply (t : Nat) (n : Chan) (a : HartAnswer) (s : State) : Res :=
  let s := s.begin t
  match (s.hrt n).trans with
  | none => .next s
  | some x =>
    if s.now < x.sentAt then .next s
    else .next (hartAnswer n x a (s.modHart n fun h => { h with trans := none }))

/-- A device that gives no valid reply after the retries (R253). -/
def missing (n a : Nat) (s : State) : State :=
  if ((s.hrt n).dev a).isSome then setDev n a (fun d => { d with state := .missing }) s else s

/-- What a transaction without a valid reply leaves. -/
def hartFail (n : Nat) (x : HartTrans) (s : State) : State :=
  match x.kind with
  | .scan => scanNext n x.addr (missing n x.addr s)
  | .park => scanReplies n (missing n x.addr s)
  | .endBurst => missing n x.addr s
  | .poll => missing n x.addr s
  | .seek => s
  | .pass tk => missing n x.addr (reply tk stDone (hartPassBytes n (if x.allBad then 6 else 1) 0 0 []) s)

/-- HART_REPLY_TIMEOUT (R253): no valid reply 305 ms after the request; `bad` says that a frame with an error came. -/
def execHartReplyTimeout (t : Nat) (n : Chan) (bad : Bool) (s : State) : Res :=
  let s := s.begin t
  match (s.hrt n).trans with
  | none => .next s
  | some x =>
    let y := { x with allBad := x.allBad && bad }
    if s.now < x.sentAt + 305000 then .next s
    else if x.tries < s.cf .hart n 3 then .next (hartSend n { y with tries := x.tries + 1 } s)
    else .next (hartFail n y (s.modHart n fun h => { h with trans := none }))

/-- Command 109 waits or is under way for the device at an address. -/
def HartRun.ending (h : HartRun) (a : Nat) : Bool :=
  h.endBurst.any (·.1 == a) || (match h.trans with | some x => decide (x.kind = .endBurst) && x.addr == a | none => false)

/-- The device of a burst frame is to be sent command 109, once. -/
def HartRun.tell (a uid : Nat) (h : HartRun) : HartRun :=
  { h with endBurst := h.endBurst ++ [(a, uid)], told := h.told ++ [uid] }

/-- HART_BURST_FRAME (R255): a burst frame from a device draws command 109 once, and makes it BURST when they continue after that
transaction. One that no scan has found is entered in the list with its BURST; a unit whose gate is shut sends nothing and leaves
the device to the one that drives the bay (log 221). -/
def execHartBurstFrame (t : Nat) (n : Chan) (dev : HartId) (s : State) : Res :=
  let s := s.begin t
  let h := s.hrt n
  let u := dev.uid.toNat
  if s.hartMode n = 0 || 8 ≤ (s.ch n).modem || !s.running n || !s.gate (bayOf n) then .next s
  else if !h.told.contains u then .next (s.modHart n (·.tell dev.addr u))
  else if h.ending dev.addr then .next s
  else
    let known := (h.dev dev.addr).isSome
    .next (setDev n dev.addr (fun d =>
      { d with state := .burst, uid := if known then d.uid else u, liveUid := if known then d.liveUid else u }) s)

/-- HART_SET (R250, R258). -/
def execHartSet (rq : Request) (s : State) : Res := setupCommand .hart 0x0240 rq s

/-- HART_GET (R258). -/
def execHartGet (rq : Request) (s : State) : Res := setupRead .hart 0x0241 rq s

/-- HART_SCAN's own part (R251): refused without a HART loop (log 21), otherwise answered after the scan. -/
def hartScanBody (cls : Rights) (tk : Ticket) (pl : List Byte) (s : State) : State :=
  let n := fieldAt pl 0 2
  if pl.length ≠ 2 || 512 ≤ n then finish cls tk stParam [] s
  else if s.hartMode n = 0 || 8 ≤ (s.ch n).modem then finish cls tk stState [] s
  else
    let s1 := s.modHart n fun h => { h with scanTickets := h.scanTickets ++ [tk] }
    inProgress tk (if (s1.hrt n).scan.isSome then s1 else hartScan n s1)

/-- HART_SCAN (R251). -/
def execHartScan (rq : Request) (s : State) : Res := .next (runPacket 0x0242 rq hartScanBody s)

/-- HART_LIST (R254). -/
def execHartList (rq : Request) (s : State) : Res := answerNow 0x0243 rq (readBody 2 512 hartListBytes) s

/-- HART_PASS's own part (R257): the refusals, or a place in the queue of four. -/
def hartPassBody (cls : Rights) (tk : Ticket) (pl : List Byte) (s : State) : State :=
  let n := fieldAt pl 0 2
  let a := byteAt pl 2
  let cmd := byteAt pl 3
  if pl.length < 6 || pl.length ≠ 6 + byteAt pl 4 || 512 ≤ n || 15 < a then finish cls tk stParam [] s
  else if s.hartMode n = 0 || !s.gate (bayOf n) then finish cls tk stState [] s
  else if cmd = 6 || cmd = 109 || (cmd ≠ 0 && ((s.hrt n).dev a).isNone) then finish cls tk stParam [] s
  else if 4 ≤ (s.hrt n).queue.length then finish cls tk stBusy [] s
  else inProgress tk (s.modHart n fun h => { h with queue := h.queue ++ [⟨tk, a, cmd, pl.drop 6⟩] })

/-- HART_PASS (R257). -/
def execHartPass (rq : Request) (s : State) : Res := .next (runPacket 0x0244 rq hartPassBody s)

end Sys2Proof.Machine
end

