-- ==== Sys2Proof/Machine/Pulse.lean ====
section
/-! DEFINITION. The pulse generators of repeater stages and flashing lamps (R243 to R246, R277). -/

namespace Sys2Proof.Machine

/-- Time since the last start of a period, µs. -/
def Wave.pos (t : Rat) (w : Wave) : Rat :=
  let x := (t - w.start) / w.period
  (x - (rfloor x : Rat)) * w.period

/-- The level that the wave has at physical time t. -/
def Wave.level (t : Rat) (w : Wave) : Bool := decide (w.period ≠ 0) && decide (w.pos t < w.high)

/-- The level never changes. -/
def Wave.steady (w : Wave) : Bool := decide (w.period = 0) || decide (w.high ≤ 0) || decide (w.period ≤ w.high)

/-- The start of the next period after t. -/
def Wave.nextStart (t : Rat) (w : Wave) : Rat := t - w.pos t + w.period

/-- The next edge of either kind after t. -/
def Wave.nextEdge (t : Rat) (w : Wave) : Rat := if w.pos t < w.high then t - w.pos t + w.high else w.nextStart t

/-- The wave stretched about time t: what has been stands, what comes runs `k` times as long. -/
def Wave.stretch (t k : Rat) (w : Wave) : Wave := ⟨t + (w.start - t) * k, w.period * k, w.high * k⟩

/-- A terminal held low. -/
def Wave.low (t : Rat) : Wave := ⟨t, 0, 0⟩

/-- The generator at time t, a setting that has come to act taken over. -/
def Pulse.at (t : Rat) (p : Pulse) : Pulse :=
  match p.next with
  | some (e, w) => if e ≤ t then { p with wave := w, next := none } else p
  | none => p

/-- The level that the generator drives at time t. -/
def Pulse.level (t : Rat) (p : Pulse) : Bool := (p.at t).wave.level t

/-- What HS and LS drive at time t: high, low, or neither in the 1 µs after an edge (R243). -/
def Pulse.drives (t : Rat) (p : Pulse) : Option Bool :=
  let w := (p.at t).wave
  let x := w.pos t
  if w.steady then some (w.level t)
  else if x < 1 || (w.high ≤ x && x < w.high + 1) then none
  else some (w.level t)

/-- REP_FRQ takes a frequency u, Hz, at time t (R244): from the next edge of either kind each phase lasts half the new period, and
below 0.1 Hz the terminal is low from there. A terminal that was held low starts with a rising edge at once (log 219). -/
def Pulse.setFreq (t u : Rat) (p0 : Pulse) : Pulse :=
  let p := p0.at t
  let low := decide (u < 1 / 10)
  let half := 500000 / u
  if p.wave.steady then { wave := if low then Wave.low t else ⟨t, 2 * half, half⟩, next := none, locked := true }
  else
    let e := match p.next with | some (e, _) => e | none => p.wave.nextEdge t
    let rises := !p.wave.level t
    { p with next := some (e, if low then Wave.low e else ⟨if rises then e else e + half, 2 * half, half⟩), locked := true }

/-- The high time, µs, of u % of a period: whole steps of 1 / 16.384 MHz, the nearer steady level in place of a phase under
2 µs (R245). -/
def highTime (u period : Rat) : Rat :=
  let h := (rfloor (u / 100 * period * 16384 / 1000 + 1 / 2) : Rat) * 1000 / 16384
  if h < 2 then 0 else if period - h < 2 then period else h

/-- REP_PWM takes a duty u, %, and a period, µs, at time t (R245): they act from the next rising edge; one that is not produced
counts at the start of its period (log 219). -/
def Pulse.setDuty (t u period : Rat) (p0 : Pulse) : Pulse :=
  let p := p0.at t
  let h := highTime u period
  if p.wave.period = 0 then { wave := ⟨t, period, h⟩, next := none, locked := true }
  else
    let r := match p.next with | some (e, _) => e | none => p.wave.nextStart t
    { p with next := some (r, ⟨r, period, h⟩), locked := true }

/-- The generator runs on from its own oscillator, `k` times as long as before (R246). -/
def Pulse.stretch (t k : Rat) (p0 : Pulse) : Pulse :=
  let p := p0.at t
  { wave := p.wave.stretch t k, next := p.next.map fun (e, w) => (t + (e - t) * k, w.stretch t k), locked := false }

/-- The generator of output n. -/
def State.generator (s : State) (n : Nat) : Pulse := (s.outp n).pulse.getD ⟨Wave.low s.now, none, true⟩

/-- The generator of output n takes a value u (R244, R245); other functions have none, a lamp's but while its bay engine is
stopped. -/
def setPulse (n : Nat) (u : Rat) (s : State) : State :=
  let p := match s.fn n with
    | .repFrq => some ((s.generator n).setFreq s.now u)
    | .repPwm => some ((s.generator n).setDuty s.now u (s.cf .out n 16))
    | _ => none
  s.modOut n fun o => { o with pulse := p }

/-- FLASH of lamp n as its character stands at this node time (R277). -/
def State.flashWave (s : State) (n : Nat) : Wave :=
  let period := 1000 * max 1 (s.cf .lamp n 13)
  let pos := (s.node + period - 1000 * s.cf .lamp n 14 % period) % period
  ⟨(s.now : Rat) - pos, period, 1000 * s.cf .lamp n 12⟩

/-- The bay engine of output n stops (R246, R277): its generator goes on from its own oscillator, free within ±2 %. -/
def stopPulse (n : Nat) (s : State) : State :=
  let o := s.outp n
  let p := match o.pulse with
    | some p => if p.locked then some p else none
    | none => if s.fn n == Fn.lamp && decide (o.drive = 2) then some ⟨s.flashWave n, none, true⟩ else none
  match p with
  | none => s
  | some p =>
    let (k, s1) := s.draw
    s1.modOut n fun o => { o with pulse := some (p.stretch s.now (1 + clamp (-1) 1 (Config.freeRat k) / 50)) }

end Sys2Proof.Machine
end

