-- ==== Sys2Proof/Machine/Outputs.lean ====
section
/-! DEFINITION. Outputs (chapter 7): sources, safe states, the rail, the conditions of Table 7.4, repeaters and the output
commands. Sources and safe states serve the switched outputs and lamps of chapter 8 too. -/

namespace Sys2Proof.Machine

/-- Where an output function keeps its setup: subject, and the indices of SRC, SAFE_MODE, SRC_CH, SRC_HOLD and CMD_TIMEOUT
(R258, R289). -/
structure OutIndex where
  subj : Subj
  src : Nat
  safe : Nat
  chan : Nat
  hold : Nat
  timeout : Nat

/-- The setup of an output function. -/
def Fn.outIndex : Fn → OutIndex
  | .doHs => ⟨.dio, 0, 1, 2, 5, 6⟩
  | .doLs => ⟨.dio, 0, 1, 2, 5, 6⟩
  | .lamp => ⟨.lamp, 1, 3, 2, 10, 11⟩
  | _ => ⟨.out, 0, 1, 2, 5, 6⟩

/-- A source field of output n in a configuration. -/
def outField (c : Cfg) (n : Nat) (f : OutIndex → Nat) : Nat :=
  let x := (fnIn c n).outIndex
  cfield c x.subj n (f x)

/-- A source field of output n in force. -/
def State.of (s : State) (n : Nat) (f : OutIndex → Nat) : Nat := outField s.cfg.inForce n f

/-- What a source gives. -/
inductive SrcVal where
  /-- No command has come yet. -/
  | none
  /-- Source failure (Table 7.2). -/
  | fail
  /-- SETTLING or HELD: the last u stands (R232). -/
  | keep
  /-- A usable v. -/
  | use (v : Rat)
  deriving DecidableEq, Repr

/-- What a value with a quality and a DETAIL gives an output (R232, Table 7.2). -/
def srcOf (value : Word32) (q detail : Nat) : SrcVal :=
  if q = 8 || q = 2 || q = 3 || q = 6 || hasBit detail 0 then .fail
  else if q = 1 || q = 10 then .keep
  else .use (f32Val value)

/-- VALUE, QUALITY and DETAIL that channel m gives within the unit in this cycle: a sealed partition's channels from the Toll
region (R231). -/
def State.gathered (s : State) (m : Nat) : Word32 × Nat × Nat :=
  if s.inToll m then
    let r := tget Result.initial s.toll.results m
    (r.value, if s.nd.tollStalled then 8 else r.quality, r.detail)
  else let r := s.inputRecord m; (r.value, r.quality, r.detail)

/-- The source of output n (Table 7.2). -/
def State.source (s : State) (n : Nat) : SrcVal :=
  let o := s.outp n
  match s.of n (·.src) with
  | 1 =>
    let r := tget RemoteSlot.initial s.ponor.slots (1024 + n)
    if r.stale || s.nd.dataStalled then .fail else srcOf (BitVec.ofNat 32 (fieldAt r.data 0 4)) (byteAt r.data 4) (byteAt r.data 5)
  | 2 => let (v, q, d) := s.gathered (s.of n (·.chan)); srcOf v q d
  | _ =>
    let limit := 1000 * s.of n (·.timeout)
    if limit ≠ 0 && o.writtenAt + limit ≤ s.now then .fail
    else match o.lastV with | some v => .use v | none => .none

/-- R232: v mapped to the output quantity u; a switched output takes 1 or 0 (R272), a lamp 0, 1 or 2 (R276). -/
def State.mapOut (s : State) (n : Nat) (v : Rat) : Rat :=
  match s.fn n with
  | .doHs => if (1 : Rat) / 2 ≤ v then 1 else 0
  | .doLs => if (1 : Rat) / 2 ≤ v then 1 else 0
  | .lamp => if v < 1 / 2 then 0 else if v < 3 / 2 then 1 else 2
  | _ =>
    let p (i : Nat) : Rat := s.cr .out n i
    clamp (p 11) (p 12) (p 9 + (v - p 7) * (p 10 - p 9) / (p 8 - p 7))

/-- The failure level of an analog output (R236). -/
def State.failLevel (s : State) (n : Nat) : Rat :=
  let d := s.cf .out n 3
  let tied := tget false s.nd.strapLatched (bayOf n) || (s.fn n).repeater
  if d = 1 || (d = 0 && !tied) then s.cr .out n 13 else s.cr .out n 14

/-- The programmed safe state (R235, R272, R276); HOLD keeps the value driven. -/
def State.safeValue (s : State) (n : Nat) : Rat :=
  let last := (s.outp n).drive
  let m := s.of n (·.safe)
  match s.fn n with
  | .doHs => if m = 0 then 0 else if m = 1 then last else 1
  | .doLs => if m = 0 then 0 else if m = 1 then last else 1
  | .lamp => if m = 0 then 0 else if m = 1 then last else if m = 2 then 1 else 2
  | _ => if m = 0 then s.failLevel n else if m = 1 then last else s.cr .out n 15

/-- The failure level that a bay's strap selects before configuration counts (R237): the defaults of Table 7.3 for the function and
range in the configuration, else for those with which the latch took its value. -/
def State.strapLevel (s : State) (n : Nat) : Rat :=
  let lo := tget false s.nd.strapLatched (bayOf n)
  let own := s.fn n == .iout || s.fn n == .vout
  let (f, r) := if own then (s.cf .ch n 0, s.cf .ch n 2) else ((s.outp n).stage.getD (7, 0))
  f32Val (BitVec.ofNat 32 (outDefault f r (if lo then 14 else 13)))

/-- A latch takes a value under a function and range: what the stage drives. It holds while FS+ stands above the latch floor
(Table 8.11), and connections that were lost below it come back (R136, R285). -/
def latchOut (n : Nat) (stage : Nat × Nat) (m : OutMode) (u : Rat) (s : State) : State :=
  let held := decide ((6 : Rat) ≤ (s.bay (bayOf n)).vFs)
  let s1 := if held && !(s.outp n).latched && (s.fn n).held then s.modCh n fun r => r.connect (connIn s.cfg.inForce n) else s
  s1.modOut n fun o => { o with mode := m, drive := u, latched := held, stage := some stage, forgot := false }

/-- FUNCTION and RANGE of channel n in force. -/
def State.stageOf (s : State) (n : Nat) : Nat × Nat := (s.cf .ch n 0, s.cf .ch n 2)

/-- Output n changed, with an OUT_STATUS record where its status word, HART_BUSY apart, changes; NEW and OLD hold STATE
(log 17). -/
def setOut (n : Nat) (f : OutRun → OutRun) (s : State) : State :=
  let old := (s.outp n).status
  let was := (s.outp n).mode.code
  let s1 := s.modOut n f
  let new := (s1.outp n).status
  if new = old || !(s.fn n).analogOut then s1
  else chanEvent 0x043 n (s1.outp n).mode.code was (s1.outStatus n) (s1.img n).value s1

/-- SRC_FAIL of output n (R233), with the record of its function's status word. -/
def setSrcFail (n : Nat) (b : Bool) (s : State) : State :=
  let old := s.dioStatus n
  let s1 := setOut n (fun o => { o with status := setBit o.status 7 b }) s
  let new := s1.dioStatus n
  let st := (s1.outp n).mode.code
  if new = old then s1 else chanEvent 0x044 n st st new (s1.img n).value s1

/-- The output is to take a state and a value at the next transfer. -/
def transfer (n : Nat) (m : OutMode) (u : Rat) (s : State) : State := s.modOut n fun o => { o with xfer := some (m, u) }

/-- The compute phase of output n while this unit takes values from sources (R232, R233; log 22 for SETTLING after a
failure). With SRC COMMAND and no OUT_WRITE accepted yet the output takes its programmed safe state, SRC_FAIL clear (DESIGN CHOICE,
log 253). -/
def computeSource (n : Nat) (s : State) : State :=
  let o := s.outp n
  match s.source n with
  | .none => transfer n .safe (s.safeValue n) (setSrcFail n false (s.modOut n fun o => { o with failSince := none }))
  | .use v =>
    let u := s.mapOut n v
    let s1 := setSrcFail n false (s.modOut n fun o => { o with failSince := none, lastU := u, keepLatched := false })
    transfer n .following u s1
  | .keep =>
    let s1 := setSrcFail n false (s.modOut n fun o => { o with failSince := none })
    if o.keepLatched then transfer n .latched o.drive s1
    else if o.mode = .safe || o.mode = .off then transfer n .safe (s.safeValue n) s1
    else transfer n .holding o.lastU s1
  | .fail =>
    let since := o.failSince.getD s.now
    let s1 := setSrcFail n true (s.modOut n fun o => { o with failSince := some since, keepLatched := false })
    if since + 1000 * s.of n (·.hold) ≤ s.now || o.mode = .safe || o.mode = .off then transfer n .safe (s.safeValue n) s1
    else transfer n .holding o.lastU s1

/-- The compute phase of output n by mode (Table 1.9, R235): sources in DUTY and STANDBY, the programmed safe state in COMMISSION,
no computation in the others; SAFE holds its outputs at the safe state they took on entry. A sealed partition's channels take no
output command (R33). -/
def computeOut (n : Nat) (s : State) : State :=
  if !(s.fn n).output || s.inToll n then s
  else match s.nd.mode with
  | .duty => computeSource n s
  | .standby => computeSource n s
  | .commission => transfer n .safe (s.safeValue n) s
  | _ => s

/-- SRC_HOLD_EXPIRE (R233): the output takes its safe state in the transfer of this cycle. -/
def execSrcHoldExpire (t : Nat) (n : Chan) (s : State) : Res :=
  let s := s.begin t
  match (s.outp n).failSince with
  | none => .next s
  | some f =>
    if !s.cycling || s.now < f + 1000 * s.of n (·.hold) then .next s else .next (computeOut n s)

/-- CMD_TIMEOUT_EXPIRE (Table 7.2): no write for CMD_TIMEOUT is a source failure. -/
def execCmdTimeoutExpire (t : Nat) (n : Chan) (s : State) : Res :=
  let s := s.begin t
  let limit := 1000 * s.of n (·.timeout)
  if !s.cycling || limit = 0 || s.of n (·.src) ≠ 0 || s.now < (s.outp n).writtenAt + limit then .next s
  else .next (computeOut n s)

/-- A new output function starts (R162, R235): at its programmed safe state, where HOLD has no last value to hold and so leaves
the value open (log 24). -/
def startOutput (n : Nat) (s : State) : State :=
  if !(s.fn n).output then s.modOut n fun _ => OutRun.initial
  else
    let (k, s1) := s.draw
    let u := if s.of n (·.safe) = 1 then Config.freeRat k else s.safeValue n
    let s2 := latchOut n (s1.stageOf n) .safe u (s1.modOut n fun _ => { OutRun.initial with
      writtenAt := s1.now, lastU := u, vRail := 5 / 2, railGoal := 5 / 2, railAt := s1.now })
    (setPulse n u s2).modCh n fun r => { r with settling := true, tRestart := s1.node, tNext := s1.node }

/-- The voltage that a value needs at the terminal (R230): the new current through the present load, or the new voltage; the
present voltage where no current flows that shows the load. -/
def State.needed (s : State) (n : Nat) (u : Rat) : Rat :=
  let o := s.outp n
  match s.fn n with
  | .iout => if o.iTerm = 0 then o.vTerm else u * o.vTerm / o.iTerm
  | _ => u

/-- The rail at physical time `now`: it slews by at most 50 V/ms (R229). -/
def OutRun.rail (now : Micros) (o : OutRun) : Rat :=
  let reach : Rat := ((now - o.railAt : Nat) : Rat) / 20
  o.vRail + clamp (-reach) reach (o.railGoal - o.vRail)

/-- The rail target (R229, R230, Table 7.4): 2.5 V above the terminal, or above what a value on its way or loaded at the last boundary
needs; parked at 12.0 V under OPEN_LOOP. -/
def State.railTarget (s : State) (n : Nat) : Rat :=
  let o := s.outp n
  let top := (s.bay (bayOf n)).vFs - 6 / 10
  let loaded := match o.aim with | some (v, t) => if s.now ≤ t then max o.vTerm v else o.vTerm | none => o.vTerm
  let want := match o.xfer with | some (_, u) => max loaded (s.needed n u) | none => loaded
  if hasBit o.status 2 then min 12 top else clamp (5 / 2) top (want + 5 / 2)

/-- RAIL_UPDATE (R229): every 100 µs the stage measures itself and its rail takes a new target (log 25). -/
def execRailUpdate (t : Nat) (n : Chan) (mA v : Rat) (s : State) : Res :=
  let s := s.begin t
  if !(s.fn n == .iout || s.fn n == .vout) || !s.running n || s.now < (s.outp n).railAt + 100 then .next s
  else
    let s1 := s.modOut n fun o =>
      { o with iTerm := mA, vTerm := v, vRail := o.rail s.now, railAt := s.now, pStage := (o.rail s.now - v) * mA / 1000 }
    let target := s1.railTarget n
    .next (s1.modOut n fun o => { o with railGoal := target })

/-- The condition of row k of Table 7.4 holds in the measured values: 0 compliance, 1 open loop, 2 external voltage on IOUT, 3
overload, 4 short to FG, 5 external voltage on VOUT. -/
def State.condition (s : State) (n k : Nat) (mA v : Rat) : Bool :=
  let o := s.outp n
  let c := o.drive
  let rail := o.rail s.now
  let atTop := decide ((s.bay (bayOf n)).vFs - 6 / 10 ≤ rail)
  let band := ((s.fn n).outSpan (s.cf .ch n 2)).2 / 100
  match k with
  | 0 => atTop && decide (mA < c - 1 / 10) && decide (c / 10 ≤ mA)
  | 1 => hasBit (s.cf .out n 4) 0 && decide (1 ≤ c) && !hasBit o.status 4 && atTop && decide (mA < c / 10)
  | 2 => decide (rail + 1 / 2 < v)
  | 3 => decide (12 ≤ mA) && decide ((1 : Rat) / 2 ≤ v) && decide (v < c - band)
  | 4 => decide (12 ≤ mA) && decide (v < 1 / 2)
  | _ => decide (mA ≤ -2) && decide (c + band < v)

/-- The condition of row k may clear: the external voltage of an IOUT when it is gone, those of a VOUT within 1 % of span of the
command. Rows 0 and 1 clear otherwise (R240, OPEN_LOOP_PROBE). -/
def State.conditionGone (s : State) (n k : Nat) (mA v : Rat) : Bool :=
  let band := ((s.fn n).outSpan (s.cf .ch n 2)).2 / 100
  match k with
  | 0 => false
  | 1 => false
  | 2 => !s.condition n 2 mA v
  | _ => decide (rabs (v - (s.outp n).drive) ≤ band)

/-- The status bit of row k. -/
def conditionBit (k : Nat) : Nat := ([1, 2, 4, 1, 3, 4] : List Nat).getD k 4

/-- OUTPUT_CONDITION (R239, R240): row k of Table 7.4 has held, or been gone, for its time. -/
def execOutputCondition (t : Nat) (n : Chan) (k : Fin 6) (on : Bool) (mA v : Rat) (s : State) : Res :=
  let s := s.begin t
  let f := s.fn n
  if !(if (k : Nat) < 3 then f == .iout else f == .vout) || !s.running n || !s.gate (bayOf n) || (s.ch n).tripped then .next s
  else if on && s.condition n k mA v then
    .next (if hasBit (s.outp n).status (conditionBit k) then s.modOut n fun o => { o with iTerm := mA, vTerm := v }
      else hartGuard n (setOut n (fun o =>
        { o with iTerm := mA, vTerm := v, status := setBit o.status (conditionBit k) true,
                 iHeld := if (k : Nat) = 0 then some mA else o.iHeld, reachSince := none, withinSince := none }) s))
  else if !on && s.conditionGone n k mA v then
    .next (setOut n (fun o => { o with iTerm := mA, vTerm := v, status := setBit o.status (conditionBit k) false }) s)
  else .next s

/-- What R240 does each millisecond in an IOUT in compliance whose command is c, whose I_HELD is h and whose I_REACH is i. -/
def OutRun.reach (now : Micros) (c h i : Rat) (o : OutRun) : OutRun :=
  let h1 := if i < h then i else h
  let since := if h1 + 1 / 2 ≤ i then some (o.reachSince.getD now) else none
  let step := match since with | some t => decide (t + 1000000 ≤ now) | none => false
  let h2 := if step then min c (i - 2 / 10) else h1
  let within := if c ≤ i - 2 / 10 then some (o.withinSince.getD now) else none
  let clear := decide (c ≤ h2) || (match within with | some t => decide (t + 100000 ≤ now) | none => false)
  { o with iReach := i, iHeld := if clear then none else some h2, reachSince := if step || clear then none else since,
           withinSince := if clear then none else within, status := if clear then setBit o.status 1 false else o.status }

/-- IOUT_REACH_UPDATE (R240); with no current the load and so I_REACH have no stated value (log 26). -/
def execIoutReachUpdate (t : Nat) (n : Chan) (mA v : Rat) (s : State) : Res :=
  let s := s.begin t
  match s.fn n == .iout && hasBit (s.outp n).status 1 && s.running n, (s.outp n).iHeld with
  | true, some h =>
    let (k, s1) := s.draw
    let i := if mA = 0 || v = 0 then Config.freeRat k else ((s.bay (bayOf n)).vFs - 21 / 10) * mA / v
    .next (setOut n (fun o => { o.reach s1.now o.drive h i with iTerm := mA, vTerm := v }) s1)
  | _, _ => .next s

/-- OPEN_LOOP_PROBE (Table 7.4): the probe of an open loop finds mA; below a command of 1.0 mA OPEN_LOOP keeps its state
(R239). -/
def execOpenLoopProbe (t : Nat) (n : Chan) (mA : Rat) (s : State) : Res :=
  let s := s.begin t
  let o := s.outp n
  if s.fn n != .iout || !hasBit o.status 2 || !s.running n || hasBit o.status 4 || !hasBit (s.cf .out n 4) 0 || decide (o.drive < 1)
  then .next s
  else if o.drive / 10 ≤ mA then .next (setOut n (fun o => { o with iTerm := mA, status := setBit o.status 2 false }) s)
  else .next s

/-- The time for which a repeater's terminal must miss edges, or follow, before that counts (R247), and whether what the row says
agrees with the terminal monitor: a steady level is held against TA at half the field supply (log 223). -/
def State.stuckRule (s : State) (n : Nat) (stuck : Bool) : Rat × Bool :=
  let w := ((s.generator n).at s.now).wave
  let high := decide ((s.bay (bayOf n)).vFs / 2 ≤ (s.ch n).vA)
  if w.steady then (if stuck then 2000 else 0, (high != w.level s.now) == stuck)
  else (if stuck then max (2 * w.period) 2000 else 2 * w.period, true)

/-- REPEATER_STUCK (R247): the terminal of a driving repeater has missed driven edges, or followed, for `held` µs. -/
def execRepeaterStuck (t : Nat) (n : Chan) (seen : Stuck) (s : State) : Res :=
  let s := s.begin t
  let (time, agrees) := s.stuckRule n seen.stuck
  if !(s.fn n).repeater || !s.running n || !s.gate (bayOf n) || (s.dio n).switch.trippedAt.isSome || (s.ch n).tripped ||
      !agrees || (seen.held : Rat) < time then .next s
  else .next (setOut n (fun o => { o with status := setBit o.status 8 seen.stuck }) s)

/-- The output's own quality (Table 7.4, R242, R243, R247, Table 8.12, R286); a repeater's tripped switch shows SHORT as a switched
output's does (log 27). -/
def State.outConditions (s : State) (n : Nat) : Nat :=
  let st := s.outStatus n
  let y := s.bay (bayOf n)
  let q := if hasBit st 2 then 2 else 0
  let trip := (s.fn n).repeater && (s.dio n).status &&& 0xC ≠ 0
  let q1 := if st &&& 0x138 ≠ 0 || trip then worse q 3 else q
  let q2 := if hasBit st 1 || (y.fsLost && s.gate (bayOf n)) || hasBit (s.dio n).status 9 then worse q1 6 else q1
  if hasBit st 6 then worse q2 7 else q2

/-- The conditions of every output channel: STALE, HELD, SETTLING, EPOCH_CHANGE (R201, R242). -/
def State.sharedConditions (s : State) (n : Nat) : Nat :=
  let r := s.ch n
  let q0 := if s.staleNow n then 8 else if s.heldNow n then 10 else 0
  let q1 := if r.settling || decide ((s.bay (bayOf n)).state = .starting) then worse q0 1 else q0
  if r.epochMark || s.mixedEpoch n then worse q1 9 else q1

/-- The record of an output whose own quality is `own` and whose value is its latest result (R242, Table 5.11). -/
def State.outRecord (s : State) (n own : Nat) : Result :=
  let r := s.ch n
  let q := worse (s.sharedConditions n) own
  let value :=
    if q = 8 || q = 10 then (s.img n).value
    else if q = 1 then (if r.hasValue then r.heldValue else f32NaN)
    else r.latest.value
  { value := value, quality := q, detail := s.detailOf n false false, seq := r.latest.seq, epoch := s.epochOf n,
    tEnd := r.latest.tEnd, tNext := r.tNext }

/-- VALUE from the measured quantity m (R242). -/
def State.readback (s : State) (n : Nat) (m : Rat) : Rat :=
  let p (i : Nat) : Rat := s.cr .out n i
  p 7 + (m - p 9) * (p 8 - p 7) / (p 10 - p 9)

/-- The readback is out of its tolerance (Table 7.4). -/
def State.deviates (s : State) (n : Nat) (m : Rat) : Bool :=
  decide (s.cr .out n 17 / 100 * rabs (s.cr .out n 10 - s.cr .out n 9) < rabs (m - (s.outp n).drive))

/-- READBACK_DEV after one more result: three in a row out of tolerance with no `other` condition set it, three within clear it. -/
def OutRun.deviated (out other : Bool) (o : OutRun) : OutRun :=
  let a := if out && !other then min 3 (o.devOut + 1) else 0
  let b := if out then 0 else min 3 (o.devIn + 1)
  { o with devOut := a, devIn := b, status := if a = 3 then setBit o.status 6 true else if b = 3 then setBit o.status 6 false
                                             else o.status }

/-- A readback result of an analog output whose measured quantity is m (R242, R247). -/
def formReadback (n : Nat) (m : Rat) (s : State) : State :=
  let p := periodOf (s.rate n)
  let te := if (s.fn n).repeater then s.node else endOf (s.ch n).nextEnd p s.node
  let s1 := eventResult n (s.readback n m) 0 0 te s
  let s2 := s1.modCh n fun r => { r with nextEnd := te + p, signal := m }
  let dev := s2.deviates n m
  let other := s2.outStatus n &&& 0x13E != 0
  setOut n (fun o => let o' := { o with meas := m }; if (s.fn n).repeater then o' else o'.deviated dev other) s2

/-- The output's value goes to its stage at a boundary (R28, R230): the stage drives it, the field-side latch keeps it, and for
400 µs the rail is kept for the higher of the old terminal voltage and what the value needs. -/
def applyAnalog (n : Nat) (m : OutMode) (u : Rat) (s : State) : State :=
  let aim := some (max (s.outp n).vTerm (s.needed n u), s.now + 400)
  let s1 := setPulse n u ((latchOut n (s.stageOf n) m u s).modOut n fun o => { o with aim := aim })
  let i := (s1.outp n).iHeld
  match i with
  | some h => if u ≤ h then setOut n (fun o => { o with iHeld := none, reachSince := none, withinSince := none,
                                                        status := setBit o.status 1 false }) s1 else s1
  | none => s1

/-- OUT_SET (R238, R258). -/
def execOutSet (rq : Request) (s : State) : Res := setupCommand .out 0x0230 rq s

/-- OUT_GET (R258). -/
def execOutGet (rq : Request) (s : State) : Res := setupRead .out 0x0231 rq s

/-- The refusals of a write to an output (R234, R272, R276): a payload of `len` bytes with a legal value, a function that
`ok` admits, SRC COMMAND, and the node in DUTY. -/
def writeCheck (len : Nat) (valueOk : List Byte → Bool) (ok : Fn → Bool) (pl : List Byte) (s : State) : Option Nat :=
  let n := fieldAt pl 0 2
  if pl.length ≠ len || 512 ≤ n || !valueOk pl then some stParam
  else if s.inToll n then some stToll
  else if !ok (s.fn n) || s.of n (·.src) ≠ 0 || s.nd.mode ≠ .duty then some stState
  else none

/-- An accepted command value (R234). -/
def takeWrite (n : Nat) (v : Rat) (s : State) : State := s.modOut n fun o => { o with lastV := some v, writtenAt := s.now }

/-- OUT_WRITE's value is finite. -/
def outWriteOk (pl : List Byte) : Bool := f32Finite (BitVec.ofNat 32 (fieldAt pl 2 4))

/-- OUT_WRITE's check. -/
def outWriteCheck (pl : List Byte) (s : State) : Option Nat := writeCheck 6 outWriteOk (·.analogOut) pl s

/-- OUT_WRITE (R234): through the mailbox to the control plane. -/
def execOutWrite (rq : Request) (s : State) : Res := answerMailbox 0x0232 rq outWriteCheck s

/-- OUT_WRITE at the boundary that takes it: its value is the source's, and the reply shows u after clamping. -/
def takeOutWrite (pl : List Byte) (s : State) : Nat × List Byte × State :=
  let n := fieldAt pl 0 2
  match outWriteCheck pl s with
  | some st => (st, [], s)
  | none => let v := f32Val (BitVec.ofNat 32 (fieldAt pl 2 4)); (stDone, f32Bytes (s.mapOut n v), takeWrite n v s)

/-- R_LOAD of an IOUT (R230): V_TERM over the present current, open where none flows (log 26). -/
def State.rLoad (s : State) (n : Nat) : Rat :=
  let o := s.outp n
  if o.iTerm = 0 then Config.freeRat s.free else o.vTerm * 1000 / o.iTerm

/-- The OUT_READ reply (Table 7.11). -/
def outReadBytes (n : Nat) (s : State) : List Byte :=
  let o := s.outp n
  let i := s.fn n == .iout
  let nan := w32Bytes f32NaN
  let iReach := if o.iTerm = 0 || o.vTerm = 0 then Config.freeRat s.free
                else ((s.bay (bayOf n)).vFs - 21 / 10) * o.iTerm / o.vTerm
  le 2 n ++ le 1 o.shown ++ le 1 0 ++ le 2 (s.outStatus n) ++ le 2 0 ++ f32Bytes o.drive ++ f32Bytes o.meas ++
    f32Bytes o.vTerm ++ (if (s.fn n).repeater then nan else f32Bytes (o.rail s.now)) ++ (if i then f32Bytes (s.rLoad n) else nan) ++
    (if i then f32Bytes iReach else nan) ++
    (match o.iHeld with | some h => if i then f32Bytes h else nan | none => nan) ++ f32Bytes o.pStage

/-- OUT_READ's own part. -/
def outReadBody (_tk : Ticket) (pl : List Byte) (s : State) : Nat × List Byte × State :=
  let n := fieldAt pl 0 2
  if pl.length ≠ 2 || 512 ≤ n then (stParam, [], s) else (stDone, outReadBytes n s, s.draw.2)

/-- OUT_READ (R258). -/
def execOutRead (rq : Request) (s : State) : Res := answerNow 0x0233 rq outReadBody s

end Sys2Proof.Machine
end

