-- ==== Sys2Proof/Machine/Switched.lean ====
section
/-! DEFINITION. Switched outputs and the digital commands (chapter 8). -/

namespace Sys2Proof.Machine

/-- VALUE of a DO channel follows its switch (R274): a result at each change. -/
def switchResult (n : Nat) (s : State) : State :=
  if !(s.fn n).switched then s
  else
    let v : Rat := bit (s.dio n).switch.closed
    if (s.ch n).given && decide ((s.ch n).latest.value = f32Of v) then s else eventResult n v 0 0 s.node s

/-- The switch of output n closes, by a retry or a command; a stage that FS_LOST locks out stays open. -/
def closeSwitch (n : Nat) (retry : Bool) (s : State) : State :=
  if (s.dio n).switch.closed then s
  else
    let locked := s.lockedOut n
    switchResult n (s.modDio n fun d => { d with switch := { d.switch.close s.now retry with closed := !locked } })

/-- The switch of output n opens by command. -/
def openSwitch (n : Nat) (s : State) : State := switchResult n (s.modDio n fun d => { d with switch := d.switch.open })

/-- A switched output's value goes to its switch (R28, R271, R272): a switch-on by a new command closes even a tripped
switch, a standing command leaves it to its retry. -/
def applySwitched (n : Nat) (m : OutMode) (u : Rat) (s : State) : State :=
  let was := (s.outp n).drive
  let s1 := latchOut n (s.stageOf n) m u s
  if u = 0 then openSwitch n s1
  else if was = 0 || (s1.dio n).switch.trippedAt.isNone then closeSwitch n false s1
  else s1

/-- The time after which a closed switch clears its trip bits, µs (R271). -/
def State.clearTime (s : State) (n : Nat) : Nat :=
  if s.fn n == .lamp then
    let b := s.cf .lamp n 9
    1000 * (if b = 0 then (if s.cf .lamp n 0 = 1 then 20 else 50) else b) + 100000
  else 100000

/-- SHORT, OVERLOAD, SHED and SUPPLY_TRIP clear once the switch or supply has stayed closed for its time (R271). -/
def clearTrips (n : Nat) (s : State) : State :=
  let d := s.dio n
  let a := d.switch.closed && d.switch.closedAt + s.clearTime n ≤ s.now
  let b := d.supply.closed && d.supply.closedAt + 100000 ≤ s.now
  if (a && d.status &&& 0x20C ≠ 0) || (b && hasBit d.status 7) then
    setDio n (fun d =>
      let st := if a then setBit (setBit (setBit d.status 2 false) 3 false) 9 false else d.status
      { d with status := if b then setBit st 7 false else st }) s
  else s

/-- The switch of output n trips (R271): SHORT or OVERLOAD. -/
def tripSwitch (n : Nat) (excess : Bool) (s : State) : State :=
  switchResult n (tripDio n (fun d =>
    { d with switch := d.switch.trip s.now, status := setBit d.status (if excess then 3 else 2) true }) s)

/-- A switch is shed by its bay (R286). -/
def shedSwitch (n : Nat) (s : State) : State :=
  switchResult n (tripDio n (fun d => { d with switch := d.switch.trip s.now, status := setBit d.status 9 true }) s)

/-- A row of Table 8.6 that needs time holds: EXT_V or OPEN_LOAD of channel n with its switch current and TA. -/
def State.doFault (s : State) (n : Nat) (ext : Bool) (mA v : Rat) : Bool :=
  let on := (s.dio n).switch.closed
  let hs := s.fn n == .doHs
  if ext then hs && !on && decide (5 ≤ v)
  else if on then s.dioFlag n 1 && decide (mA < (s.cf .dio n 10 : Rat))
  else !hs && decide (v < 3)

/-- DO_FAULT_DETECT (R274): a fault of Table 8.6 has held, or been absent, for 100 ms. -/
def execDoFaultDetect (t : Nat) (n : Chan) (ext on : Bool) (mA v : Rat) (s : State) : Res :=
  let s := s.begin t
  if !(s.fn n).switched || !s.converting n || !s.gate (bayOf n) then .next s
  else
    let s1 := s.modDio n fun d => { d with iSw := mA }
    if s1.doFault n ext mA v == on then .next (setDioBit n (if ext then 5 else 4) on s1) else .next s1

/-- The functions whose switch follows R271. -/
def Fn.retries (f : Fn) : Bool := f.switched || f == .lamp || f.repeater

/-- Energy that the clamp of channel n has taken in the last 10 s, mJ. -/
def State.demagSum (s : State) (n : Nat) : Rat :=
  ((s.dio n).demag.filter fun x => s.now < x.1 + 10000000).foldl (fun a x => a + x.2) 0

/-- DEMAG_LIMIT of every output of bay b (R273): over 10 s, more than 0.6 W on the channel, or more than 4.0 W in the bay on a channel
that has a part in it (log 226). -/
def demagLimits (b : Nat) (s : State) : State :=
  let chans := (bayChans b).filter fun n => (s.fn n).retries
  let bay := chans.foldl (fun a n => a + s.demagSum n) 0
  chans.foldl (fun s n =>
    let own := s.demagSum n
    setDioBit n 8 (decide (6000 < own) || (decide (40000 < bay) && decide (0 < own))) s) s

/-- DEMAG_LIMIT (R273): a turn-off of channel n has put mJ into its clamp, 0 for none; the averages over 10 s are compared. -/
def execDemagLimit (t : Nat) (n : Chan) (mJ : Rat) (s : State) : Res :=
  let s := s.begin t
  if !(s.fn n).retries || !s.running n then .next s
  else
    .next (demagLimits (bayOf n) (s.modDio n fun d =>
      { d with demag := (if 0 < mJ then [(s.now, mJ)] else []) ++ d.demag.filter fun x => s.now < x.1 + 10000000 }))

/-- The switched output's own quality (R274, Table 8.12, R286); an overload publishes SHORT as a current limit does (log 27). -/
def State.switchConditions (s : State) (n : Nat) : Nat :=
  let st := (s.dio n).status
  let q := if hasBit st 4 then 2 else 0
  let q1 := if st &&& 0x2C ≠ 0 then worse q 3 else q
  if (s.bay (bayOf n)).fsLost && s.gate (bayOf n) || hasBit st 9 then worse q1 6 else q1

/-- DIO_SET (R289). -/
def execDioSet (rq : Request) (s : State) : Res := setupCommand .dio 0x0250 rq s

/-- DIO_GET (R289). -/
def execDioGet (rq : Request) (s : State) : Res := setupRead .dio 0x0251 rq s

/-- DO_WRITE's value is off or on. -/
def doWriteOk (pl : List Byte) : Bool := byteAt pl 2 ≤ 1

/-- DO_WRITE's check (R272). -/
def doWriteCheck (pl : List Byte) (s : State) : Option Nat := writeCheck 3 doWriteOk (·.switched) pl s

/-- DO_WRITE (R272). -/
def execDoWrite (rq : Request) (s : State) : Res := answerMailbox 0x0252 rq doWriteCheck s

/-- DO_WRITE at the boundary that takes it. -/
def takeDoWrite (pl : List Byte) (s : State) : Nat × List Byte × State :=
  match doWriteCheck pl s with
  | some st => (st, [], s)
  | none => (stDone, le 1 (byteAt pl 2), takeWrite (fieldAt pl 0 2) (byteAt pl 2) s)

/-- The DIO_READ reply (Table 8.15): COUNT for CNT, CHANGES for DI, FREQ for FRQ, STATE for outputs. -/
def dioReadBytes (n : Nat) (s : State) : List Byte :=
  let d := s.dio n
  let f := s.subFn n
  let state := if f.output then (s.outp n).shown else 0
  le 2 n ++ le 1 state ++ le 1 0 ++ le 2 (s.dioStatus n) ++ le 2 0 ++ le 6 (if f == .cnt then d.captured else 0) ++ le 2 0 ++
    le 4 (if f == .di then d.changes else 0) ++ f32Bytes d.freq ++ f32Bytes (if f == .di || f == .cnt || f == .frq then s.sinkCurrent n else d.iSw) ++ f32Bytes (s.ch n).vA

/-- DIO_READ (R289). -/
def execDioRead (rq : Request) (s : State) : Res := answerNow 0x0253 rq (readBody 2 512 dioReadBytes) s

/-- CNT_PRESET's check (R267). -/
def cntPresetCheck (pl : List Byte) (s : State) : Option Nat :=
  let n := fieldAt pl 0 2
  if pl.length ≠ 8 || 512 ≤ n then some stParam
  else if s.fn n != .cnt || s.nd.mode ≠ .duty then some stState else none

/-- CNT_PRESET (R267). -/
def execCntPreset (rq : Request) (s : State) : Res := answerMailbox 0x0254 rq cntPresetCheck s

/-- CNT_PRESET at the boundary that takes it, after that boundary's capture: the new count is loaded, the captured one
returned. -/
def takeCntPreset (pl : List Byte) (s : State) : Nat × List Byte × State :=
  let n := fieldAt pl 0 2
  match cntPresetCheck pl s with
  | some st => (st, [], s)
  | none => (stDone, le 6 (s.dio n).captured, s.modDio n (·.preset (fieldAt pl 2 6)))

end Sys2Proof.Machine
end

