-- ==== Sys2Proof/Machine/Lamps.lean ====
section
/-! DEFINITION. Lamps and the retry of switches (chapter 8). -/

namespace Sys2Proof.Machine

/-- The 20th root of a non-negative number below 2^20, rounded down to 2^-30, by bisection. -/
def root20 (x : Rat) : Nat → Nat → Nat → Rat
  | 0, lo, _ => mkRat lo (2 ^ 30)
  | f + 1, lo, hi =>
    let m := (lo + hi) / 2
    if rpow (mkRat m (2 ^ 30)) 20 ≤ x then root20 x f m hi else root20 x f lo m

/-- I_EXP (R278), mA; the power 0.55 is held to 2^-30 (log 14). -/
def State.lampExp (s : State) (n : Nat) : Rat :=
  let i := s.cr .lamp n 15
  let vl := s.cr .lamp n 16
  let v := (s.bay (bayOf n)).vFs
  if s.cf .lamp n 0 = 1 then (if v ≤ 0 then 0 else i * vl / v)
  else if v ≤ 0 || vl ≤ 0 then 0 else i * root20 (rpow (v / vl) 11) 32 0 (2 ^ 31)

/-- INRUSH_BLANK in force, µs (Table 8.17). -/
def State.lampBlank (s : State) (n : Nat) : Nat := s.clearTime n - 100000

/-- COLD_TEST is set. -/
def State.coldTest (s : State) (n : Nat) : Bool := hasBit (s.cf .lamp n 4) 0

/-- QUALITY of a lamp state (Table 8.8). -/
def LampState.quality : LampState → Nat
  | .offUnproven => 1 | .offDark => 2 | .dark => 2 | .partialLit => 7 | .overCurrent => 7 | .unlearned => 7
  | .tripped => 3 | .extV => 3 | _ => 0

/-- Byte 4 of LAMP_READ (Table 8.18). -/
def lampByte4 (n : Nat) (s : State) : Nat :=
  let y := s.bay (bayOf n)
  2 * bit (y.fsLow || y.fsLost) + bit ((s.lamp n).phaseOn && (s.dio n).switch.closed)

/-- The lamp enters a state, with its LAMP_STATE record (Table 12.3). A unit whose gate is shut takes the state from the shared input
snapshot (R283). -/
def setLamp (n : Nat) (x : LampState) (s : State) : State :=
  let old := (s.lamp n).state
  if old = x || !s.gate (bayOf n) then s
  else
    let dark := decide (x = .dark) || decide (x = .offDark)
    let s1 := s.modLamp n fun l => { l with state := x, darkCount := if dark then wrap16 (l.darkCount + 1) else l.darkCount }
    chanEvent 0x045 n x.code old.code (lampByte4 n s1) (f32Of (s1.lamp n).iLamp) s1

/-- A LAMP_LEARN under way is refused (R282). -/
def dropLearn (n : Nat) (s : State) : State :=
  match (s.lamp n).learn with
  | none => s
  | some l => reply l.ticket stState [] (s.modLamp n fun x => { x with learn := none })

/-- The lamp's switch closes with blanking (R278), unless FS_LOST locks its stage out. -/
def lampOn (n : Nat) (retry : Bool) (s : State) : State :=
  let locked := s.lockedOut n
  let s1 := s.modDio n fun d => { d with switch := { d.switch.close s.now retry with closed := !locked } }
  s1.modLamp n fun l => { l with phaseOn := true, onAt := s.now }

/-- The switch opens at the end of an on-phase; a trip's retry keeps running. -/
def lampDark (n : Nat) (s : State) : State :=
  let s1 := s.modDio n fun d => { d with switch := { d.switch with closed := false } }
  s1.modLamp n fun l => { l with phaseOn := false, offAt := s.now }

/-- The lamp is switched off by command (R280): its first test falls due 500 ms later. -/
def lampOff (n : Nat) (s : State) : State :=
  let s1 := (s.modDio n fun d => { d with switch := d.switch.open }).modLamp n fun l =>
    { l with phaseOn := false, offAt := s.now, testDue := s.now + 500000, testFailed := false, run := 0 }
  let s2 := s1.modCh n fun r => { r with tNext := s.node + 501000 }
  setLamp n (if s.coldTest n then .offUnproven else .off) s2

/-- A commit has changed COLD_TEST: a lamp commanded OFF shows OFF without it, and OFF_UNPROVEN with it until its first test, which is
timed from the switch-off (R280, Table 8.8). -/
def followColdTest (n : Nat) (s : State) : State :=
  let st := (s.lamp n).state
  if s.fn n != .lamp || (s.outp n).drive ≠ 0 then s
  else if !s.coldTest n then
    (if st = .offUnproven || st = .offProven || st = .offDark then setLamp n .off s else s)
  else if st = .off then
    let due := max s.now ((s.lamp n).offAt + 500000)
    setLamp n .offUnproven ((s.modLamp n fun l => { l with testDue := due, testFailed := false }).modCh n fun r =>
      { r with tNext := s.node + (due - s.now) + 1000 })
  else s

/-- An on-phase stands (R277): by node time, or as the generator goes on without the bay engine. -/
def State.flashOn (s : State) (n : Nat) : Bool :=
  match (s.outp n).pulse with
  | some p => p.level s.now
  | none => (s.flashWave n).level s.now

/-- The lamp follows its FLASH phase. -/
def flashStep (n : Nat) (s : State) : State :=
  let on := s.flashOn n
  let l := s.lamp n
  if on == l.phaseOn then s
  else if on then
    (if (s.dio n).switch.trippedAt.isSome then s.modLamp n fun l => { l with phaseOn := true } else lampOn n false s)
  else lampDark n s

/-- The command of a lamp changes to ON or FLASH (R278, R281): it keeps its state until it is classified; out of EXT_V it is off and
unproven until then (DESIGN CHOICE, log 255). -/
def lampLit (n : Nat) (u : Rat) (was : Rat) (s : State) : State :=
  let s1 := if (s.lamp n).state = .extV then setLamp n (if s.coldTest n then .offUnproven else .off) s else s
  let s2 := s1.modLamp n fun l => { l with testDue := s.now + 500000, testFailed := false, run := if was = 0 then 0 else l.run }
  if u = 1 then (if (s2.lamp n).phaseOn && (s2.dio n).switch.closed then s2 else lampOn n false s2)
  else if was = 0 then
    (if s2.flashOn n then lampOn n false s2 else s2.modLamp n fun l => { l with phaseOn := false, offAt := s.now })
  else flashStep n s2

/-- A lamp commanded on while FS_LOST holds is DARK (R283). -/
def lampSupply (n : Nat) (s : State) : State :=
  if s.fn n == .lamp && (s.bay (bayOf n)).fsLost && (s.outp n).drive ≠ 0 then setLamp n .dark s else s

/-- A lit lamp's switch closes again where its latch was lost (R285, Table 8.12). -/
def relight (n : Nat) (u : Rat) (s : State) : State :=
  if u = 1 || (u = 2 && s.flashOn n) then lampOn n false s else s

/-- A lamp's command goes to its stage (R28, R276). -/
def applyLamp (n : Nat) (m : OutMode) (u : Rat) (s : State) : State :=
  let was := (s.outp n).drive
  let s1 := setPulse n u (latchOut n (s.stageOf n) m u s)
  if was = u then lampSupply n (if (s.outp n).latched || !(s1.outp n).latched then s1 else relight n u s1)
  else
    let s2 := dropLearn n (s1.modLamp n fun l => { l with commandAt := s.now })
    lampSupply n (if u = 0 then lampOff n s2 else lampLit n u was s2)

/-- A lamp starts (R276): its safe state, and the states of R280 and R278. -/
def startLamp (n : Nat) (s : State) : State :=
  let u := (s.outp n).drive
  let s1 := (s.modLamp n fun _ => { LampRun.initial with commandAt := s.now }).modCh n fun r => { r with settling := false }
  if u = 0 then lampOff n s1 else lampLit n u 0 s1

/-- The class of a sample (Table 8.9). -/
def State.lampClass (s : State) (n : Nat) (e mA : Rat) : LampState :=
  let f (i : Nat) : Rat := (s.cf .lamp n i : Rat) / 100 * e
  if mA < f 6 then .dark else if mA < f 7 then .partialLit else if f 8 < mA then .overCurrent else .lit

/-- Samples of a class in a row that give the state (Table 8.9). -/
def State.lampConfirm (s : State) (n : Nat) : LampState → Nat
  | .dark => s.cf .lamp n 5
  | .lit => s.cf .lamp n 5
  | _ => 100

/-- One classified sample of a lit lamp. -/
def lampClassify (n : Nat) (e mA : Rat) (s : State) : State :=
  let c := s.lampClass n e mA
  let l := s.lamp n
  let run := if l.run ≠ 0 && decide (l.cand = c) then l.run + 1 else 1
  let s1 := s.modLamp n fun l => { l with cand := c, run := run }
  if s.lampConfirm n c ≤ run then setLamp n c s1 else s1

/-- LAMP_SAMPLE (R278): the mean current of a millisecond in which the lamp was on. One that spans the gap of a takeover is not
classified (R456). -/
def execLampSample (t : Nat) (n : Chan) (mA : Rat) (s : State) : Res :=
  let s := s.begin t
  let l := s.lamp n
  if s.fn n != .lamp || !s.running n || !s.gate (bayOf n) || !l.phaseOn || !(s.dio n).switch.closed then .next s
  else
    let e := s.lampExp n
    let vFs := (s.bay (bayOf n)).vFs
    let learn := l.learn.map fun x =>
      if x.count < 1000 then { x with sumI := x.sumI + mA, sumV := x.sumV + vFs, count := x.count + 1 } else x
    let s1 := (s.modLamp n fun l => { l with iLamp := mA, iExp := e, learn := learn }).modDio n fun d => { d with iSw := mA }
    let s2 := eventResult n mA 0 0 s.node s1
    let gap := match s.pair.claiming with | some c => decide (s.now < c.began + 1000) | none => false
    if s.now < l.onAt + s.lampBlank n || (s.bay (bayOf n)).fsLost || gap then .next s2
    else if s.cr .lamp n 15 = 0 then .next (setLamp n .unlearned s2)
    else .next (lampClassify n e mA s2)

/-- COLD_MIN in force, mA (R280). -/
def State.coldMin (s : State) (n : Nat) : Rat :=
  let m := s.cr .lamp n 17
  if m ≠ 0 then m else if s.cf .lamp n 0 = 1 then 20 else s.cr .lamp n 15 / 2

/-- A cold test may end now (R280): the lamp is OFF and a test is due, or FLASH is in an off-phase of at least 10 ms that
began after the test fell due (a repeat runs in any), with 2 ms kept at both ends. -/
def State.coldFits (s : State) (n : Nat) : Bool :=
  let l := s.lamp n
  let due := decide (l.testDue ≤ s.now)
  if (s.outp n).drive = 0 then due
  else if (s.outp n).drive = 2 && !l.phaseOn then
    let period := 1000 * max 1 (s.cf .lamp n 13)
    let on := 1000 * s.cf .lamp n 12
    let pos := (s.node + period - 1000 * s.cf .lamp n 14 % period) % period
    due && decide (10000 ≤ period - on) && decide (on + 3000 ≤ pos) && decide (pos + 2000 ≤ period) &&
      (l.testFailed || decide (l.testDue ≤ l.offAt))
  else false

/-- What a cold test leaves (R280): in FLASH a passed test ends OFF_DARK only (log 28). -/
def coldResult (n : Nat) (pass : Bool) (s : State) : State :=
  let l := s.lamp n
  let off := decide ((s.outp n).drive = 0)
  if pass then
    let s1 := s.modLamp n fun l => { l with testFailed := false, testDue := s.now + 500000 }
    if (off && decide (l.state ≠ .extV)) || decide (l.state = .offDark) then setLamp n .offProven s1 else s1
  else if !l.testFailed then s.modLamp n fun l => { l with testFailed := true, testDue := s.now + 20000 }
  else
    let s1 := s.modLamp n fun l => { l with testFailed := false, testDue := s.now + 500000 }
    if l.state = .extV then s1 else setLamp n .offDark s1

/-- LAMP_COLD_TEST (R280): a cold test pulse ends with a mean current over its last 0.5 ms. -/
def execLampColdTest (t : Nat) (n : Chan) (mA : Rat) (s : State) : Res :=
  let s := s.begin t
  if s.fn n != .lamp || !s.coldTest n || !s.running n || !s.gate (bayOf n) || !s.coldFits n || (s.bay (bayOf n)).fsLost then
    .next s
  else
    let s1 := s.modLamp n fun l => { l with iCold := mA, tTest := s.node }
    let s2 := if (s.outp n).drive = 0 then eventResult n mA 0 0 s.node s1 else s1
    .next (coldResult n (decide (s.coldMin n ≤ mA)) s2)

/-- LAMP_EXT_V (R281): TA of a lamp commanded OFF has stood on one side of 5.0 V for 100 ms outside cold tests. -/
def execLampExtV (t : Nat) (n : Chan) (v : Rat) (s : State) : Res :=
  let s := s.begin t
  if s.fn n != .lamp || !s.running n || (s.outp n).drive ≠ 0 then .next s
  else if (5 : Rat) ≤ v then .next (setLamp n .extV s)
  else if (s.lamp n).state = .extV then .next (lampOff n s)
  else .next s

/-- The latch of channel n was set as a lamp's (R237, R277). -/
def OutRun.isLamp (o : OutRun) : Bool := match o.stage with | some (f, _) => decide (Fn.ofCode f = .lamp) | none => false

/-- The lamp follows the generator that goes on without its bay engine (R246, R277); a tripped switch stays open. -/
def flashFree (n : Nat) (s : State) : State :=
  let on := s.flashOn n
  (s.modLamp n fun l => { l with phaseOn := on }).modDio n fun d =>
    { d with switch := { d.switch with closed := on && d.switch.trippedAt.isNone && !s.lockedOut n } }

/-- FLASH_PHASE (R277): an on-phase or off-phase begins, on node time or from the generator's own oscillator. -/
def execFlashPhase (t : Nat) (n : Chan) (s : State) : Res :=
  let s := s.begin t
  let o := s.outp n
  if !s.gate (bayOf n) || o.drive ≠ 2 then .next s
  else if o.latched && o.isLamp && o.pulse.isSome then .next (flashFree n s)
  else .next (if s.fn n == .lamp then flashStep n s else s)

/-- A repeater's stage is closed while it drives. -/
def State.switchClosed (s : State) (n : Nat) : Bool :=
  if (s.fn n).repeater then (s.dio n).switch.trippedAt.isNone && !s.lockedOut n else (s.dio n).switch.closed

/-- The trip of a use (R270, Table 8.4): current, mA, and the time, µs, for which it stands. -/
def Fn.tripLevel (f : Fn) (excess : Bool) : Rat × Nat :=
  match f, excess with
  | .lamp, true => (1250, 100000)
  | .lamp, false => (3000, 50000)
  | .repPwm, true => (130, 10000)
  | .repPwm, false => (300, 100)
  | .repFrq, true => (130, 10000)
  | .repFrq, false => (300, 100)
  | _, true => (650, 10000)
  | _, false => (1500, 100)

/-- A current `x` trips the switch of channel n (R270): at a limit, or above an overload, whose time starts for a
lamp when its blanking ends. -/
def State.trips (s : State) (n : Nat) (x : Excess) : Bool :=
  let (i, time) := (s.fn n).tripLevel x.overload
  let blanked := s.fn n == .lamp && x.overload && decide (s.now < (s.lamp n).onAt + s.lampBlank n + time)
  (if x.overload then decide (i < x.mA) else decide (i ≤ x.mA)) && decide (time ≤ x.held) && !blanked

/-- SWITCH_TRIP (R270, R271): the switch of output n reaches its current limit or overload. -/
def execSwitchTrip (t : Nat) (n : Chan) (x : Excess) (s : State) : Res :=
  let s := s.begin t
  if !(s.fn n).retries || !s.running n || !s.gate (bayOf n) || !s.switchClosed n || !s.trips n x then .next s
  else
    let s1 := tripSwitch n x.overload s
    if s.fn n == .lamp then
      .next (dropLearn n (setLamp n .tripped (s1.modLamp n fun l => { l with tripCount := wrap16 (l.tripCount + 1), run := 0 })))
    else .next s1

/-- SWITCH_RETRY (R271): a tripped switch, or sensor supply, retries after its wait; a switch commanded off makes no retry. -/
def execSwitchRetry (t : Nat) (n : Chan) (supply : Bool) (s : State) : Res :=
  let s := s.begin t
  let d := s.dio n
  if !s.running n || !s.gate (bayOf n) then .next s
  else if supply then
    if d.supply.mayRetry s.now && s.dioFlag n 4 then
      .next (s.modDio n fun d => { d with supply := d.supply.close s.now true })
    else .next s
  else if !(s.fn n).retries || !d.switch.mayRetry s.now || (!(s.fn n).repeater && (s.outp n).drive = 0) then .next s
  else if s.fn n == .lamp then
    .next (if (s.outp n).drive = 2 && !s.flashOn n then
        s.modDio n fun d => { d with switch := { d.switch with trippedAt := none, retriedAt := some s.now } }
      else lampOn n true s)
  else .next (closeSwitch n true s)

/-- FS_LOST locks out the stage of channel n (R285): its switch opens, and the command stands. -/
def lockStage (n : Nat) (s : State) : State :=
  switchResult n (s.modDio n fun d => { d with switch := { d.switch with closed := false } })

/-- The supply is back and the latch kept (R285, Table 8.12): the stage of channel n drives the latched value at once, a lamp with
blanking, with or without its bay engine. -/
def unlockStage (n : Nat) (s : State) : State :=
  let o := s.outp n
  if !o.latched || (s.dio n).switch.trippedAt.isSome then s
  else match (o.stage.map fun x => Fn.ofCode x.1).getD .off with
    | .doHs => if o.drive = 0 then s else closeSwitch n false s
    | .doLs => if o.drive = 0 then s else closeSwitch n false s
    | .lamp => relight n o.drive s
    | _ => s

/-- The lamp's own quality (Table 8.8, Table 8.12, R286). -/
def State.lampConditions (s : State) (n : Nat) : Nat :=
  let q := (s.lamp n).state.quality
  if ((s.bay (bayOf n)).fsLost && s.gate (bayOf n)) || hasBit (s.dio n).status 9 then worse q 6 else q

/-- LAMP_SET (R289). -/
def execLampSet (rq : Request) (s : State) : Res := setupCommand .lamp 0x0260 rq s

/-- LAMP_GET (R289). -/
def execLampGet (rq : Request) (s : State) : Res := setupRead .lamp 0x0261 rq s

/-- LAMP_WRITE's value is OFF, ON or FLASH. -/
def lampWriteOk (pl : List Byte) : Bool := byteAt pl 2 ≤ 2

/-- LAMP_WRITE's check (R276). -/
def lampWriteCheck (pl : List Byte) (s : State) : Option Nat := writeCheck 3 lampWriteOk (· == .lamp) pl s

/-- LAMP_WRITE (R276). -/
def execLampWrite (rq : Request) (s : State) : Res := answerMailbox 0x0262 rq lampWriteCheck s

/-- LAMP_WRITE at the boundary that takes it. -/
def takeLampWrite (pl : List Byte) (s : State) : Nat × List Byte × State :=
  match lampWriteCheck pl s with
  | some st => (st, [], s)
  | none => (stDone, le 1 (byteAt pl 2), takeWrite (fieldAt pl 0 2) (byteAt pl 2) s)

/-- The LAMP_READ reply (Table 8.18). -/
def lampReadBytes (n : Nat) (s : State) : List Byte :=
  let l := s.lamp n
  let cmd := if s.fn n == .lamp then rfloorNat (s.outp n).drive else 0
  le 2 n ++ le 1 l.state.code ++ le 1 cmd ++ le 1 (lampByte4 n s) ++ le 3 0 ++ f32Bytes l.iLamp ++ f32Bytes (s.lampExp n) ++
    f32Bytes l.iCold ++ le 8 l.tTest ++ le 2 l.darkCount ++ le 2 l.tripCount

/-- LAMP_READ (R289). -/
def execLampRead (rq : Request) (s : State) : Res := answerNow 0x0263 rq (readBody 2 512 lampReadBytes) s

/-- LAMP_LEARN's own part (R282), refused too while one runs on the lamp (DESIGN CHOICE, log 256). -/
def lampLearnBody (cls : Rights) (tk : Ticket) (pl : List Byte) (s : State) : State :=
  let n := fieldAt pl 0 2
  if pl.length ≠ 2 || 512 ≤ n then finish cls tk stParam [] s
  else if s.fn n != .lamp || (s.outp n).drive ≠ 1 || !(s.dio n).switch.closed || s.now < (s.lamp n).onAt + s.lampBlank n + 1000000 ||
      (s.lamp n).learn.isSome then finish cls tk stState [] s
  else inProgress tk (s.modLamp n fun l => { l with learn := some ⟨tk, 0, 0, 0⟩ })

/-- LAMP_LEARN (R282). -/
def execLampLearn (rq : Request) (s : State) : Res := .next (runPacket 0x0264 rq lampLearnBody s)

/-- The means of a learning that has its 1,000 samples are staged as I_NOM and V_LEARN (R282). -/
def endLearn (n : Nat) (l : LampLearn) (s : State) : State :=
  let s1 := s.modLamp n fun x => { x with learn := none }
  let i := f32Of (l.sumI / 1000)
  let v := f32Of (l.sumV / 1000)
  let recs : List Change := [(Subj.pid .lamp n 15, some i.toNat), (Subj.pid .lamp n 16, some v.toNat)]
  match stageTry l.ticket.session recs s1 with
  | .error e => reply l.ticket e.status [] s1
  | .ok st => reply l.ticket stDone (w32Bytes i ++ w32Bytes v) (stageSet l.ticket.session st s1)

/-- LAMP_LEARN_DONE (R282): the last sample has come. -/
def execLampLearnDone (t : Nat) (n : Chan) (s : State) : Res :=
  let s := s.begin t
  match (s.lamp n).learn with
  | none => .next s
  | some l => if l.count < 1000 then .next s else .next (endLearn n l s)

end Sys2Proof.Machine
end

