-- ==== Sys2Proof/Machine/Bays.lean ====
section
/-! DEFINITION. Bays: field supply, bay current and the bay commands (chapter 8). -/

namespace Sys2Proof.Machine

/-- Byte 1 of BAY_FS (Table 8.19). -/
def BayRun.flags (y : BayRun) : Nat :=
  bitsOf [y.fsOv, y.fsWarn, y.fsLow, y.fsLost, y.overload, y.shedding, y.latchLost, y.ssExpired]

/-- Bay b changed, with a BAY_FS record (R284, Table 12.3; NEW and OLD free, log 17). -/
def setBay (b : Nat) (f : BayRun → BayRun) (s : State) : State :=
  let s1 := s.modBay b f
  freeEvent 0x047 (32 * b) (s1.bay b).flags (f32Of (s1.bay b).vFs) s1

/-- Bay b changed by what its field side does: its engine, while it runs, records it (R284). -/
def changeBay (b : Nat) (f : BayRun → BayRun) (s : State) : State :=
  if (s.bay b).state = .running then setBay b f s else s.modBay b f

/-- The bay with V_FS measured. -/
def BayRun.measure (v : Rat) (y : BayRun) : BayRun := { y with vFs := v, vFsMin := if v < y.vFsMin then v else y.vFsMin }

/-- V_FS lies beyond the set point (on) or the clear point of a threshold of Table 8.11: 0 FS_OV, 1 FS_WARN, 2 FS_LOW, 3
FS_LOST. -/
def fsCrossed (which : Nat) (on : Bool) (v : Rat) : Bool :=
  match which, on with
  | 0, true => decide (33 ≤ v)
  | 0, false => decide (v < 65 / 2)
  | 1, true => decide (v < 35 / 2)
  | 1, false => decide (18 ≤ v)
  | 2, true => decide (v < 15)
  | 2, false => decide (16 ≤ v)
  | _, true => decide (v < 9)
  | _, false => decide (12 ≤ v)

/-- A threshold flag. -/
def BayRun.fsFlag (which : Nat) (y : BayRun) : Bool :=
  match which with | 0 => y.fsOv | 1 => y.fsWarn | 2 => y.fsLow | _ => y.fsLost

/-- A threshold flag set or cleared. -/
def BayRun.setFs (which : Nat) (on : Bool) (y : BayRun) : BayRun :=
  match which with
  | 0 => { y with fsOv := on }
  | 1 => { y with fsWarn := on }
  | 2 => { y with fsLow := on }
  | _ => { y with fsLost := on }

/-- The sheddable output of bay b with the highest current among the closed ones (R286). -/
def shedChoice (b : Nat) (loads : List Rat) (s : State) : Option Nat :=
  let cand := (bayChans b).filter fun n => (s.fn n).retries && s.switchClosed n
  cand.foldl (fun best n =>
    match best with
    | none => some n
    | some m => if loads.getD (m % 32) 0 < loads.getD (n % 32) 0 then some n else some m) none

/-- The bay's current taken (R286): 10,000 samples make the mean; time above 8.0 A runs. -/
def BayRun.current (a v : Rat) (now : Micros) (y : BayRun) : BayRun :=
  let hist := (a :: y.iHist).take 10000
  let mean := hist.foldl (· + ·) 0 / 10000
  let since := if 8 < a then some (y.over8Since.getD now) else none
  let shed := (y.shedding || (match since with | some t => decide (t + 100000 ≤ now) | none => false)) && decide (4 ≤ a)
  { y.measure v with iFs := a, iFsPeak := if y.iFsPeak < a then a else y.iFsPeak, iHist := hist, overload := decide (4 < mean),
                     over8Since := since, shedding := shed }

/-- FS_SENSE of bay b as it is found; a change is reported (R68). -/
def noteSense (b : Nat) (isOpen : Bool) (s : State) : State :=
  if (s.bay b).senseOpen == isOpen then s
  else (s.modBay b fun y => { y with senseOpen := isOpen }).emit (.report (.fsSense b isOpen))

/-- I_SW of the switched outputs and lamps of bay `b` (R289). -/
def noteLoads (b : Nat) (loads : List Rat) (s : State) : State :=
  (bayChans b).foldl (fun s n =>
    if (s.fn n).switched || s.fn n == .lamp then s.modDio n fun d => { d with iSw := loads.getD (n % 32) 0 } else s) s

/-- BAY_CURRENT_SAMPLE (R68, R286): FS+ current and V_FS of bay b, measured at the FS+ pins where FS_SENSE is unconnected
(`isOpen`), and its 32 switch currents. -/
def execBayCurrentSample (t : Nat) (b : Bay) (amps : Rat) (sense : Sense) (loads : List Rat) (s : State) : Res :=
  let s := s.begin t
  if loads.length ≠ 32 then .fault .illFormed
  else if (s.bay b).state ≠ .running then .next s
  else
    let s1 := noteSense b sense.isOpen ((noteLoads b loads s).modBay b (·.current amps sense.v s.now))
    if !(s1.bay b).shedding || !s1.gate b then .next s1
    else match shedChoice b loads s1 with
      | none => .next s1
      | some n => .next (shedSwitch n s1)

/-- BAY_SET (R287). -/
def execBaySet (rq : Request) (s : State) : Res := setupCommand .bay 0x0270 rq s

/-- BAY_GET (R289). -/
def execBayGet (rq : Request) (s : State) : Res := setupRead .bay 0x0271 rq s

/-- The BAY_FS reply (Table 8.19). -/
def bayFsBytes (b : Nat) (s : State) : List Byte :=
  let y := s.bay b
  le 1 b ++ le 1 y.flags ++ le 2 y.ssCount ++ f32Bytes y.vFsMin ++ f32Bytes y.iFs ++ f32Bytes y.iFsPeak

/-- BAY_FS's own part: CLEAR acts after the reply is built. -/
def bayFsBody (_tk : Ticket) (pl : List Byte) (s : State) : Nat × List Byte × State :=
  let b := byteAt pl 0
  if pl.length ≠ 2 || 16 ≤ b then (stParam, [], s)
  else
    let clear (y : BayRun) : BayRun := { y with ssExpired := false, latchLost := false, vFsMin := y.vFs, iFsPeak := y.iFs }
    (stDone, bayFsBytes b s, if hasBit (byteAt pl 1) 0 then s.modBay b clear else s)

/-- BAY_FS (R289). -/
def execBayFs (rq : Request) (s : State) : Res := answerNow 0x0272 rq bayFsBody s

end Sys2Proof.Machine
end

