-- ==== Sys2Proof/Machine/Points.lean ====
section
/-! DEFINITION. Alarm points (chapter 10): one point's part of a sweep, in the order of Table 10.7, and the point commands. -/

namespace Sys2Proof.Machine

/-- KIND of point p (Table 10.1). -/
def State.ptKind (s : State) (p : Nat) : Nat := s.cf .pt p 0

/-- FLAGS bit k of point p (Table 10.10). -/
def State.ptFlag (s : State) (p k : Nat) : Bool := hasBit (s.cf .pt p 4) k

/-- DIR of point p. -/
def State.ptDir (s : State) (p : Nat) : Nat := s.cf .pt p 4 % 4

/-- The numbers that two lists hold, rising, each once. -/
def unionKeys (a b : List Nat) : List Nat := ((a ++ b).foldl (fun t k => tput k () t) ([] : Tbl Unit)).map (·.1)

/-- The points that are not OFF in a configuration. -/
def usedPoints (c : Cfg) : List Nat := (c.filter fun x => x.1 / 65536 == 0x1020 && x.2 != 0).map (·.1 % 65536)

/-- What a sweep forms of a point's input and condition (R312 to R317). -/
structure Judged where
  cond : Bool
  paused : Bool
  bad : Bool
  input : Word32
  quality : Nat
  samples : List Rat
  deriving DecidableEq, Repr

/-- A quality of Table 10.2 that is usable. -/
def usableQ (q : Nat) : Bool := [0, 7, 11, 9, 4, 5].contains q

/-- A quality of Table 10.2 that pauses. -/
def pausingQ (q : Nat) : Bool := q == 1 || q == 10

/-- The channel region that the sweep begun at `at_` reads: as it stood at the boundary (R29). -/
def State.sweepRegion (s : State) (at_ : Nat) : Tbl Result × Tbl Words :=
  match s.field.atSweep with
  | some (b, image, words) => if b = at_ then (image, words) else (s.field.image, s.field.words)
  | none => (s.field.image, s.field.words)

/-- The result of channel n that the sweep begun at `at_` reads: the channel region as flipped before its boundary (R29), or
the Toll region (R312). -/
def State.sweepResult (s : State) (at_ n : Nat) : Word32 × Nat :=
  if s.inToll n then let r := s.gathered n; (r.1, r.2.1)
  else
    let r := tget Result.initial (s.sweepRegion at_).1 n
    (r.value, r.quality)

/-- The status words that the sweep begun at `at_` reads. -/
def State.sweepWords (s : State) (at_ k : Nat) : Words :=
  tget Words.initial (s.sweepRegion at_).2 k

/-- What a point reads of a remote slot: quality, value, STATE and ACTIVE (R420, Table 1.6). -/
def RemoteSlot.input (r : RemoteSlot) (stalled : Bool) : Nat × Word32 × AlState × Bool :=
  let b1 := byteAt r.data 1
  let st := AlState.ofCode (byteAt r.data 0 % 4)
  if r.stale || stalled then (8, f32NaN, .normal, false)
  else if r.kind = 1 then (byteAt r.data 4, BitVec.ofNat 32 (fieldAt r.data 0 4), .normal, false)
  else if r.kind = 2 then (0, f32NaN, st, hasBit b1 7)
  else if r.kind = 3 then (0, f32NaN, st, decide (0 < fieldAt r.data 2 2))
  else (0, f32NaN, st, hasBit b1 1)

/-- The remote slots that the sweep begun at `at_` reads: the remote region as it stood at its boundary (R29). -/
def State.sweepSlots (s : State) (at_ : Nat) : Tbl RemoteSlot :=
  match s.ponor.atSweep with
  | some (b, slots) => if b = at_ then slots else s.ponor.slots
  | none => s.ponor.slots

/-- The remote slot that point p names, as the sweep begun at `at_` reads it. -/
def State.ptSlot (s : State) (at_ p : Nat) : Nat × Word32 × AlState × Bool :=
  (tget RemoteSlot.initial (s.sweepSlots at_) (s.cf .pt p 2)).input s.nd.dataStalled

/-- A condition with a set and a clear level (R313, R314): `v` is compared upwards. -/
def hystCond (was : Bool) (v set clear : Rat) : Bool := if was then !decide (v < clear) else decide (set ≤ v)

/-- The condition of a LIMIT or REMOTE_VALUE point (R313). -/
def State.limitCond (s : State) (p : Nat) (was : Bool) (v : Rat) : Bool :=
  let lim := s.cr .pt p 12
  let h := s.cr .pt p 13
  if s.ptDir p = 0 then hystCond was v lim (lim - h) else hystCond was (-v) (-lim) (-lim - h)

/-- The condition of a RATE point at rate r (R314). -/
def State.rateCond (s : State) (p : Nat) (was : Bool) (r : Rat) : Bool :=
  let lim := s.cr .pt p 12
  let h := s.cr .pt p 13
  let v := if s.ptDir p = 0 then r else if s.ptDir p = 1 then -r else rabs r
  hystCond was v lim (lim - h)

/-- r of R314 from the samples held, latest first, none until there are nine. -/
def State.rateOfChange (s : State) (p : Nat) (xs : List Rat) : Option Rat :=
  if xs.length < 9 then none
  else some ((xs.getD 0 0 - xs.getD 8 0) * 100 / (8 * (s.cf .pt p 11 : Rat)))

/-- The word of Table 10.3 that a FAULT point reads for its FSRC from 0x01 on. -/
def State.faultWord (s : State) (at_ p : Nat) : Nat :=
  let src := s.cf .pt p 2
  let w := s.sweepWords at_ src
  match s.cf .pt p 5 with
  | 1 => w.sup
  | 2 => w.out
  | 3 => w.dio
  | 4 => 2 ^ w.lamp
  | 5 => (s.sweepWords at_ (512 + src)).flags
  | _ => w.flags % 256

/-- A bad input (R317): with BAD_RAISE the condition counts as present, without it the point is treated as paused. -/
def State.badInput (s : State) (p : Nat) (r : PtRun) (v : Word32) (q : Nat) (xs : List Rat) : Judged :=
  if s.ptFlag p 4 then ⟨true, false, true, v, q, xs⟩ else ⟨r.cond, true, true, v, q, xs⟩

/-- The condition of a COMPUTED point (R316) from the ACTIVE bits of the previous completed sweep. -/
def State.computedCond (s : State) (p : Nat) : Bool :=
  let f := s.cf .pt p 5
  let m := s.cf .pt p 14
  let hits := (List.range (f % 16)).filter fun k =>
    (tget PtRun.initial s.alarm.imgPts (s.cf .pt p (15 + k))).active != hasBit m k
  decide (f / 16 ≤ hits.length)

/-- A RATE point's judgement with a usable input (R314). -/
def State.judgeRate (s : State) (at_ p : Nat) (r : PtRun) (v : Word32) (q : Nat) : Judged :=
  let xs := if at_ % (10000 * s.cf .pt p 11) = 0 then (f32Val v :: r.samples).take 9 else r.samples
  match s.rateOfChange p xs with
  | none => ⟨false, false, false, f32NaN, q, xs⟩
  | some x => ⟨s.rateCond p r.cond x, false, false, f32Of x, q, xs⟩

/-- Step 4 of Table 10.7: the input judged and the condition formed. -/
def State.judge (s : State) (at_ p : Nat) (r : PtRun) : Judged :=
  match s.ptKind p with
  | 5 => ⟨s.computedCond p, false, false, f32NaN, 0, []⟩
  | 3 =>
    let fsrc := s.cf .pt p 5
    let m := s.cf .pt p 14
    if fsrc = 5 then ⟨s.faultWord at_ p &&& m % 65536 != 0, false, false, f32NaN, 0, []⟩
    else
      let q := (s.sweepResult at_ (s.cf .pt p 2)).2
      if fsrc = 0 then ⟨hasBit m q, false, false, f32NaN, q, []⟩
      else if pausingQ q then ⟨r.cond, true, false, f32NaN, q, []⟩
      else if q = 8 then s.badInput p r f32NaN q []
      else ⟨s.faultWord at_ p &&& (if fsrc = 6 then m % 256 else if fsrc = 4 then m else m % 65536) != 0, false, false,
            f32NaN, q, []⟩
  | 6 =>
    let (q, v, _, _) := s.ptSlot at_ p
    if pausingQ q then ⟨r.cond, true, false, v, q, []⟩
    else if usableQ q then ⟨s.limitCond p r.cond (f32Val v), false, false, v, q, []⟩
    else s.badInput p r v q []
  | 7 =>
    let (q, _, _, act) := s.ptSlot at_ p
    if q = 8 then s.badInput p r f32NaN q [] else ⟨act, false, false, f32NaN, q, []⟩
  | k =>
    let (v, q) := s.sweepResult at_ (s.cf .pt p 2)
    if pausingQ q then ⟨r.cond, true, false, if k = 2 then r.input else v, q, r.samples⟩
    else if !usableQ q then
      s.badInput p r (if k = 2 then r.input else v) q (if at_ % (10000 * s.cf .pt p 11) = 0 then [] else r.samples)
    else if k = 2 then s.judgeRate at_ p r v q
    else if k = 4 then ⟨decide ((1 : Rat) / 2 ≤ f32Val v) != s.ptFlag p 2, false, false, v, q, []⟩
    else ⟨s.limitCond p r.cond (f32Val v), false, false, v, q, []⟩

/-- The points that a sweep evaluates in HOLD (R330): fed by lane, lamp, Toll and remote values, and COMPUTED ones. -/
def State.heldSweep (s : State) (p : Nat) : Bool :=
  match s.ptKind p with
  | 5 => true
  | 6 => true
  | 7 => true
  | 3 => s.cf .pt p 5 == 5 || s.essential (s.cf .pt p 2)
  | _ => s.essential (s.cf .pt p 2)

/-- The PT_EVENT record (Table 12.3) of point p after an event, stamped with the start of its sweep (R322). -/
def ptRecord (at_ p cause origin epoch : Nat) (r : PtRun) : Submission :=
  ⟨0x080, at_, le 2 p ++ le 1 (ptByte0 r) ++ le 1 cause ++ le 2 r.raiseSeq ++ le 1 origin ++ le 1 0 ++ le 4 epoch⟩

/-- A point under work, and the records made of it so far. -/
structure PtWork where
  r : PtRun
  recs : List Submission
  deriving DecidableEq, Repr

/-- A state change with its record. -/
def PtWork.go (w : PtWork) (at_ p cause origin epoch : Nat) (f : PtRun → PtRun) : PtWork :=
  let r := f w.r
  ⟨r, w.recs ++ [ptRecord at_ p cause origin epoch r]⟩

/-- An acknowledgement accepted (R321, R323). -/
def PtRun.acked (at_ : Micros) (r : PtRun) : PtRun :=
  { r with state := if r.state = .actUnack then .actAck else .normal, tChange := at_ }

/-- A raise (R321). -/
def PtRun.raise (at_ : Micros) (r : PtRun) : PtRun :=
  { r with state := .actUnack, raiseSeq := if r.raiseSeq = 65535 then 1 else r.raiseSeq + 1, raises := wrap32 (r.raises + 1),
           raisedAt := at_, tChange := at_ }

/-- Points other than p shelved or inhibited (R328). -/
def State.withheldBut (s : State) (p : Nat) : Nat :=
  (s.alarm.pts.filter fun x => decide (x.1 ≠ p) && (x.2.inhibited || 0 < x.2.shelveLeft)).length

/-- Step 1 of Table 10.7 for one command on point p (R323, R326, R327, R341): the point, and the command's status or its
count. -/
def applyPtCmd (s : State) (at_ p : Nat) (c : SweepCmd) (w : PtWork) : PtWork × SweepCmd :=
  let e := s.epochOf (1024 + p)
  match c.op with
  | .ack q =>
    if w.r.state.unack && (q = 0 || q = w.r.raiseSeq) then (w.go at_ p 3 c.origin e (·.acked at_), c)
    else (w.go at_ p 4 c.origin e id, { c with status := stState })
  | .shelve m =>
    if s.cf .pt p 10 = 0 || s.cf .pt p 10 < m || s.cf .pt p 1 = 4 || w.r.inhibited then (w, { c with status := stState })
    else if m ≠ 0 && w.r.shelveLeft = 0 && 1024 ≤ s.withheldBut p then (w, { c with status := stResource })
    else ({ w with r := { w.r with shelveLeft := m } }, c)
  | .inhibit on =>
    if on && !w.r.inhibited && w.r.shelveLeft = 0 && 1024 ≤ s.withheldBut p then (w, { c with status := stResource })
    else ({ w with r := { w.r with inhibited := on } }, c)
  | .grpAck prio seen =>
    if w.r.state.unack && prio ≤ s.cf .pt p 1 && (seen = 0 || w.r.raisedAt ≤ seen) then
      (w.go at_ p 3 c.origin e (·.acked at_), { c with count := c.count + 1 })
    else (w, c)

/-- Every command that names point p, in the order taken. -/
def applyPtCmds (s : State) (at_ p : Nat) : List SweepCmd → PtWork → PtWork × List SweepCmd
  | [], w => (w, [])
  | c :: cs, w =>
    let (w1, c1) := if c.points.contains p then
        let (x, d) := applyPtCmd s at_ p c w
        (x, { d with points := d.points.filter (· != p) })
      else (w, c)
    let (w2, cs1) := applyPtCmds s at_ p cs w1
    (w2, c1 :: cs1)

/-- Step 2: SHELVE_LEFT counts down on a whole minute (R326). -/
def PtRun.countShelf (at_ : Micros) (paused : Bool) (r : PtRun) : PtRun :=
  if at_ % 60000000 = 0 && !paused then { r with shelveLeft := r.shelveLeft - 1 } else r

/-- Step 3: the block input and BLOCK_DELAY (R325). -/
def PtRun.block (at_ : Micros) (enabled input : Bool) (delay : Nat) (r : PtRun) : PtRun :=
  if !enabled then { r with blocked := false, blockFalse := none }
  else if input then { r with blocked := true, blockFalse := none }
  else if !r.blocked then r
  else
    let from_ := r.blockFalse.getD at_
    if from_ + delay ≤ at_ then { r with blocked := false, blockFalse := none } else { r with blockFalse := some from_ }

/-- Step 5: the delays and ACTIVE (R318), `on` and `off` in ms. -/
def PtRun.delays (on off : Nat) (r : PtRun) : PtRun :=
  if r.paused then r
  else if r.cond = r.active then { r with timing := false, delay := 0 }
  else
    let count := if r.timing then r.delay + 10 else 0
    if (if r.active then off else on) ≤ count then { r with active := r.cond, timing := false, delay := 0 }
    else { r with timing := true, delay := count }

/-- SUPPRESS that the causes of a point give (Table 10.6). -/
def PtRun.suppression (r : PtRun) : Nat :=
  if r.inhibited then 3 else if 0 < r.shelveLeft then 2 else if r.blocked then 1 else 0

/-- Suppression changes of step 6 (R324). -/
def suppressStep (at_ p epoch : Nat) (w : PtWork) : PtWork :=
  let want := w.r.suppression
  if want = w.r.suppress then w
  else if want = 0 then w.go at_ p 6 0 epoch fun r => { r with suppress := 0 }
  else w.go at_ p 5 0 epoch fun r =>
    { r with suppress := want, state := .normal, tChange := if r.state = .normal then r.tChange else at_ }

/-- The acknowledgement a REMOTE_STATE point follows (R331). -/
def followStep (at_ p epoch : Nat) (src : Option AlState) (w : PtWork) : PtWork :=
  match src, w.r.state with
  | some .actAck, .actUnack => w.go at_ p 3 0x80 epoch (·.acked at_)
  | some .normal, .rtnUnack => w.go at_ p 3 0x80 epoch (·.acked at_)
  | _, _ => w

/-- The transitions of Table 10.5 that ACTIVE calls for. -/
def activeStep (at_ p epoch : Nat) (rtnAck : Bool) (w : PtWork) : PtWork :=
  if w.r.active && !w.r.state.act then w.go at_ p 1 0 epoch (·.raise at_)
  else if !w.r.active && w.r.state.act then
    w.go at_ p 2 0 epoch fun r =>
      { r with state := if r.state = .actUnack && rtnAck then .rtnUnack else .normal, tChange := at_ }
  else w

/-- Step 6 for a point that is not frozen. -/
def stepSix (s : State) (at_ p : Nat) (w : PtWork) : PtWork :=
  let e := s.epochOf (1024 + p)
  let w1 := suppressStep at_ p e w
  if w1.r.suppress ≠ 0 then w1
  else
    let (q, _, st, _) := s.ptSlot at_ p
    let src := if s.ptKind p = 7 && s.ptFlag p 3 && q ≠ 8 then some st else none
    activeStep at_ p e (s.ptFlag p 5) (followStep at_ p e src w1)

/-- A point of KIND OFF (R312): NORMAL, no suppression, ACTIVE clear; what outlives it stays. -/
def offPoint (s : State) (at_ p : Nat) (w : PtWork) : PtWork :=
  let off (r : PtRun) : PtRun :=
    { PtRun.initial with shelveLeft := r.shelveLeft, inhibited := r.inhibited, raiseSeq := r.raiseSeq, raises := r.raises,
                         raisedAt := r.raisedAt, epoch := r.epoch, tChange := r.tChange }
  if w.r.state ≠ .normal || w.r.suppress ≠ 0 then
    w.go at_ p 7 0 (s.epochOf (1024 + p)) fun r =>
      { off r with epoch := s.epochOf (1024 + p), tChange := if r.state = .normal then r.tChange else at_ }
  else { w with r := off w.r }

/-- Steps 2 to 7 of Table 10.7 for a point that is not OFF. -/
def evalPoint (s : State) (at_ p : Nat) (frozen : Bool) (w : PtWork) : PtWork :=
  let j := s.judge at_ p w.r
  let b := (tget PtRun.initial s.alarm.imgPts (s.cf .pt p 8)).active != s.ptFlag p 6
  let r0 := ((w.r.countShelf at_ j.paused).block at_ (s.ptFlag p 7) b (1000000 * s.cf .pt p 9))
  let r1 := { r0 with cond := j.cond, paused := j.paused, inputBad := j.bad, input := j.input, inputQ := j.quality,
                      samples := j.samples, priority := s.cf .pt p 1, frozen := frozen, epoch := s.epochOf (1024 + p) }
  let r2 := if r1.restart && !frozen then { r1 with restart := false, timing := false, delay := 0 } else r1
  let w1 : PtWork := { w with r := r2.delays (10 * s.cf .pt p 6) (10 * s.cf .pt p 7) }
  if frozen then w1 else stepSix s at_ p w1

/-- One point's part of the sweep begun at `at_`, with the commands that wait. -/
def sweepPoint (s : State) (at_ p : Nat) (cmds : List SweepCmd) : PtWork × List SweepCmd :=
  let frozen := s.alarm.frozen.contains p
  let w0 : PtWork := ⟨{ s.pt p with sweptAt := at_ }, []⟩
  let (w1, cs) := if frozen then (w0, cmds) else applyPtCmds s at_ p cmds w0
  let off := s.ptKind p = 0
  let hold := decide (s.nd.mode = .hold)
  if frozen && off then ({ w1 with r := { w1.r.countShelf at_ hold with frozen := true } }, cs)
  else if off then (offPoint s at_ p { w1 with r := w1.r.countShelf at_ hold }, cs)
  else if hold && !s.heldSweep p then ({ w1 with r := { w1.r with paused := true, frozen := frozen } }, cs)
  else (evalPoint s at_ p frozen w1, cs)

/-- PT_SET (Table 10.9). -/
def execPtSet (rq : Request) (s : State) : Res := setupCommand .pt 0x1001 rq s

/-- PT_GET. -/
def execPtGet (rq : Request) (s : State) : Res := setupRead .pt 0x1002 rq s

/-- The entry of point p from the latest flip. -/
def State.imgPt (s : State) (p : Nat) : PtRun := tget PtRun.initial s.alarm.imgPts p

/-- The PT_READ reply (Table 10.12). -/
def ptReadBytes (p : Nat) (s : State) : List Byte :=
  let r := s.pt p
  le 2 p ++ le 2 0 ++ ptBytes (s.imgPt p) ++ w32Bytes r.input ++ le 1 r.inputQ ++ le 1 0 ++ le 2 r.shelveLeft ++
    le 4 r.delay ++ le 8 r.tChange ++ le 4 r.raises

/-- PT_READ. -/
def execPtRead (rq : Request) (s : State) : Res := answerNow 0x1003 rq (readBody 2 65536 ptReadBytes) s

/-- PT_STATES: COUNT entries from one flip. -/
def ptStatesBody (_tk : Ticket) (pl : List Byte) (s : State) : Nat × List Byte × State :=
  let p := fieldAt pl 0 2
  let k := fieldAt pl 2 2
  if pl.length ≠ 4 || k = 0 || 127 < k || 65536 < p + k then (stParam, [], s)
  else (stDone, le 2 p ++ le 2 k ++ (rangeFrom p k).flatMap fun q => ptBytes (s.imgPt q), s)

/-- PT_STATES. -/
def execPtStates (rq : Request) (s : State) : Res := answerNow 0x1004 rq ptStatesBody s

/-- PT_ACK's form. -/
def ptAckCheck (pl : List Byte) (_ : State) : Option Nat := if pl.length ≠ 4 then some stParam else none

/-- PT_ACK (R323): to the mailbox, then to the sweep. -/
def execPtAck (rq : Request) (s : State) : Res := answerMailbox 0x1010 rq ptAckCheck s

/-- PT_SHELVE (R326). -/
def execPtShelve (rq : Request) (s : State) : Res := answerMailbox 0x1011 rq ptAckCheck s

/-- PT_INHIBIT's form; without CONFIRM it is refused (R327). -/
def ptInhibitCheck (pl : List Byte) (_ : State) : Option Nat :=
  if pl.length ≠ 4 || 1 < byteAt pl 2 then some stParam
  else if !hasBit (byteAt pl 3) 0 then some stState else none

/-- PT_INHIBIT. -/
def execPtInhibit (rq : Request) (s : State) : Res := answerMailbox 0x1012 rq ptInhibitCheck s

end Sys2Proof.Machine
end

