-- ==== Sys2Proof/Machine/TollLog.lean ====
section
/-! DEFINITION. The Toll log, the checkpoint and the trust of time that its entries carry (R394, R536, R540, R543, R544). -/

namespace Sys2Proof.Machine

/-- An interval [a, b) added to intervals that rise and stand apart. -/
def addSpan (a b : Nat) : List (Nat × Nat) → List (Nat × Nat)
  | [] => if a < b then [(a, b)] else []
  | (c, d) :: r =>
    if b ≤ a then (c, d) :: r
    else if b < c then (a, b) :: (c, d) :: r
    else if d < a then (c, d) :: addSpan a b r
    else addSpan (min a c) (max b d) r

/-- `s` with the Toll partition changed. -/
def State.modToll (s : State) (f : TollSt → TollSt) : State := { s with toll := f s.toll }

/-- Bytes 0 to 55 of an entry (Table 18.7). -/
def TollEntry.body (e : TollEntry) : List Byte :=
  le 4 e.no ++ le 2 e.event ++ le 2 e.sealNo ++ le 8 e.time ++ le 1 (bit e.trusted) ++ fit 39 e.args

/-- The 64 bytes of an entry. -/
def TollEntry.bytes (e : TollEntry) : List Byte := e.body ++ fit 8 e.chain

/-- Entries the Toll log holds (R543). -/
def tollLogSize : Nat := 97280

/-- A Toll log entry (R543, R544): chained, submitted to the Granary, and never over an older one. -/
def tollEntry (event : Nat) (args : List Byte) (s : State) : State :=
  if s.toll.state = .absent || s.toll.logFull then s
  else
    let prev := match s.toll.log.getLast? with | some e => e.chain | none => zeros 8
    let e : TollEntry := ⟨s.toll.log.length + 1, event, s.toll.sealNo, s.node, s.trustedNow && !s.nd.dataStalled, fit 39 args, []⟩
    let e1 := { e with chain := (sha256 (prev ++ e.body)).take 8 }
    let k := s.toll.log.length + 1
    submit .toll 0x200 e1.bytes (s.modToll fun t =>
      { t with log := t.log ++ [e1], read := [], logLow := t.logLow || decide (tollLogSize ≤ k + 4096),
               logFull := decide (tollLogSize ≤ k) })

/-- The totals of every point written into the checkpoint (R536). -/
def checkpoint (s : State) : State :=
  if s.toll.state = .absent then s
  else s.modToll fun t =>
    { t with checkTotals := (List.range 16).map fun p => ((s.tollPt p).total, (s.tollPt p).totalFault),
             checkAt := s.clk.clock }

/-- The POWER_DOWN entry (Table 18.8), written where the Toll core runs its firmware. -/
def tollPowerDown (v : Rat) (s : State) : State := if s.toll.fwOk then tollEntry 0x0006 (f32Bytes v) s else s

/-- The partition goes to BROKEN, with its entry (R540). -/
def tollBreak (cause latched : Nat) (s : State) : State :=
  if s.toll.state = .sealed then
    tollEntry 0x0003 (le 1 cause ++ le 8 latched) (s.modToll fun t => { t with state := .broken })
  else s

/-- The points as a restart of the Toll core finds them: totals from the checkpoint (R531, R536). -/
def checkedPoints (t : TollSt) : Tbl TollPoint :=
  (List.range 16).foldl (fun x p =>
    let c := t.checkTotals.getD p (0, 0)
    tset TollPoint.initial x p { TollPoint.initial with total := c.1, totalFault := c.2 }) []

/-- The Toll core restarts at a COLD or POR reset (R531, R536, R540, R545): a waiting image comes into use, `ok` says whether the
image in use passes verification, and the entries say what was missed. -/
def tollRestart (kind : Nat) (ok : Bool) (s : State) : State :=
  if s.toll.state = .absent then s
  else
    let s1 := s.modToll fun t =>
      { t with fw := t.fwNext.getD t.fw, fwNext := none, fwOk := ok, pts := checkedPoints t, results := [], downAt := none,
               latched := none, peerSince := if s.nd.pairBase && s.nd.peerPres then some s.now else none }
    let age := (s.clk.clock - s.toll.checkAt) / 1000
    let off := match s.toll.downAt with | some d => (s.clk.clock - d) / 1000000 | none => 0
    let s2 := if ok then
        tollEntry 0x000B (le 1 2) (tollEntry 0x0007 (le 1 kind ++ le 4 (wrap32 age) ++ le 4 (wrap32 off)) s1) else s1
    let s3 := match s.toll.latched with | some (at_, _) => tollBreak 4 at_ s2 | none => s2
    if ok then s3 else tollEntry 0x0003 (le 1 5 ++ le 8 0) (s3.modToll fun t => { t with state := .broken })

end Sys2Proof.Machine
end

