-- ==== Sys2Proof/Machine/Clock.lean ====
section
/-! DEFINITION. Node time and its steps, the calendar, the clock window and the clock commands (chapter 13). -/

namespace Sys2Proof.Machine

/-- The limit of binary values (R383). -/
def clockLimit : Nat := 12622780800000000

/-- Microseconds in a day. -/
def dayMicros : Nat := 86400000000

/-- 2000 + k is a leap year (R384). -/
def leapYear (k : Nat) : Bool := k % 4 == 0 && (k % 100 != 0 || k % 400 == 0)

/-- Days from 2000-01-01 to the first day of year 2000 + k. -/
def yearDays (k : Nat) : Nat := 365 * k + (k + 3) / 4 + (k + 399) / 400 - (k + 99) / 100

/-- The lengths of the months of year 2000 + k (R384). -/
def monthLens (k : Nat) : List Nat := [31, if leapYear k then 29 else 28, 31, 30, 31, 30, 31, 31, 30, 31, 30, 31]

/-- A calendar time (R383). -/
structure Cal where
  year : Nat
  month : Nat
  day : Nat
  hour : Nat
  minute : Nat
  second : Nat
  micro : Nat
  deriving DecidableEq, Repr

/-- The calendar check of R390. -/
def Cal.ok (c : Cal) : Bool :=
  decide (2000 ≤ c.year) && decide (c.year ≤ 2399) && decide (1 ≤ c.month) && decide (c.month ≤ 12) && decide (1 ≤ c.day) &&
    decide (c.day ≤ (monthLens (c.year - 2000)).getD (c.month - 1) 0) && decide (c.hour ≤ 23) && decide (c.minute ≤ 59) &&
    decide (c.second ≤ 59) && decide (c.micro ≤ 999999)

/-- The binary value of a calendar time (R383). -/
def Cal.binary (c : Cal) : Nat :=
  let days := yearDays (c.year - 2000) + ((monthLens (c.year - 2000)).take (c.month - 1)).foldl (· + ·) 0 + (c.day - 1)
  ((days * 24 + c.hour) * 60 + c.minute) * 60000000 + c.second * 1000000 + c.micro

/-- Month and day of day d of a year whose months have these lengths, months counted from m. -/
def monthDay : List Nat → Nat → Nat → Nat × Nat
  | [], m, d => (m, d + 1)
  | l :: ls, m, d => if d < l then (m, d + 1) else monthDay ls (m + 1) (d - l)

/-- The year, less 2000, that day d falls in. -/
def yearOf (d : Nat) : Nat :=
  let k := d * 400 / 146097
  if yearDays (k + 1) ≤ d then k + 1 else if d < yearDays k then k - 1 else k

/-- The calendar time of a binary value (R383). -/
def Cal.of (t : Nat) : Cal :=
  let d := t / dayMicros
  let k := yearOf d
  let (m, dd) := monthDay (monthLens k) 1 (d - yearDays k)
  ⟨2000 + k, m, dd, t / 3600000000 % 24, t / 60000000 % 60, t / 1000000 % 60, t % 1000000⟩

/-- WEEKDAY (R383). -/
def weekday (t : Nat) : Nat := (t / dayMicros + 5) % 7 + 1

/-- The time that reads show: node time, the clock while the data plane is stalled (R385), at most the end of the range
(R386). -/
def State.shownTime (s : State) : Nat := min (s.stamped s.node) (clockLimit - 1)

/-- STATUS, offset 0x18 of Table 13.1. -/
def State.clkStatus (s : State) : Nat :=
  let c := s.clk
  let now := match c.leapEnd with | some t => decide (s.shownTime < t) | none => false
  bit c.oscStop + 2 * bit c.lowBak + 4 * bit s.nd.power.backupLow + 8 * bit s.trustedNow + 16 * bit c.rangeEnd +
    32 * bit s.clkLocked + 64 * s.shownSource.code + 512 * bit (decide (c.leapAt ≠ 0)) + 1024 * bit now

/-- `s` with the clock changed. -/
def State.modClk (s : State) (f : ClockSt → ClockSt) : State := { s with clk := f s.clk }

/-- TRUSTED followed, with the TRUST record of a change (R394); one while the logic domain is off is recorded once BOOT has loaded
TRUST_SEL. -/
def trustStep (cause : Nat) (s : State) : State :=
  let v := s.trustedNow
  if v = s.clk.trusted || !s.logicOn then s
  else sysUpdate (submit .management 0x102 (le 2 s.clkStatus ++ le 1 (bit v) ++ le 1 cause ++ le 4 0)
    (s.modClk fun c => { c with trusted := v }))

/-- SOURCE changed, with the SOURCE record of a change (R395): what the source before it had still to move is dropped, but for the
step of an apply. -/
def setSource (new : ClkSource) (s : State) : State :=
  if new = s.clk.source then s
  else sourceRecord s.shownSource s.clkLocked (s.modClk fun c =>
    { c with source := new, slew := 0, step := c.step.filter (·.apply.isSome) })

/-- SOURCE as the locks and TIME_SRC give it (R395). -/
def sourceStep (s : State) : State :=
  let sel := s.param 0x13000002
  if s.clk.timeLock && (sel == 0 || sel == 2) then setSource .time s
  else if s.clk.ringLock && (sel == 0 || sel == 1) then setSource .ring s
  else if s.clkLocked then setSource .free s else s

/-- What a lock clears (R393; RANGE_END by an apply alone, R386), with LAST_LOCK (Table 13.5). -/
def lockTo (trustedSource : Bool) (s : State) : State :=
  let s1 := s.modClk fun c =>
    { c with oscStop := c.oscStop && !trustedSource, lowBak := c.lowBak && !trustedSource, lastLock := s.node }
  trustStep 3 (sourceStep s1)

/-- A node time moved by a step. -/
def shiftT (a : Int) (t : Nat) : Nat := ((t : Int) + a).toNat

/-- The node times at which something falls due in the field, moved with a step, so that it falls due at the same physical
time (R398, R399). -/
def FieldSt.shift (a : Int) (f : FieldSt) : FieldSt :=
  let mv := shiftT a
  let ch (_ : Nat) (c : ChanRun) : ChanRun :=
    { c with refDue := c.refDue.map mv, leadDue := c.leadDue.map mv, tRestart := mv c.tRestart, tNext := mv c.tNext,
             nextEnd := mv c.nextEnd, refAccepted := c.refAccepted.map fun x => (x.1, mv x.2) }
  let su (_ : Nat) (x : SupRun) : SupRun :=
    { x with due := x.due.map mv, dropTo := x.dropTo.map mv, check := x.check.map fun k => { k with began := mv k.began, endAt := mv k.endAt } }
  let di (_ : Nat) (d : DioRun) : DioRun :=
    { d with runAt := mv d.runAt, gateEnd := mv d.gateEnd, edge0 := d.edge0.map (shiftT (100 * a)),
             edgeN := d.edgeN.map (shiftT (100 * a)) }
  let leg (g : LegRun) : LegRun := { g with soundSince := g.soundSince.map mv, degradeFrom := g.degradeFrom.map mv }
  let la (_ : Nat) (l : LaneRun) : LaneRun :=
    { l with pulseAt := mv l.pulseAt, differSince := l.differSince.map mv,
             agreeSince := l.agreeSince.map mv, legA := leg l.legA, legB := leg l.legB }
  let ba (_ : Nat) (b : BayRun) : BayRun :=
    { b with startedAt := mv b.startedAt, refUser := b.refUser.map fun u => (u.1, mv u.2) }
  { f with chan := tmap ChanRun.initial ch f.chan, sup := tmap SupRun.initial su f.sup, dio := tmap DioRun.initial di f.dio,
           lane := tmap LaneRun.initial la f.lane, bay := tmap BayRun.initial ba f.bay,
           imageNext := f.imageNext.map fun x => (mv x.1, x.2), atSweep := f.atSweep.map fun x => (mv x.1, x.2) }

/-- The same for the alarm fabric. -/
def AlarmSt.shift (a : Int) (x : AlarmSt) : AlarmSt :=
  let mv := shiftT a
  let pt (_ : Nat) (r : PtRun) : PtRun := { r with blockFalse := r.blockFalse.map mv, sweptAt := mv r.sweptAt }
  { x with pts := tmap PtRun.initial pt x.pts, next := x.next.map fun n => { n with flip := mv n.flip },
           panelAcks := x.panelAcks.map fun y => (mv y.1, y.2),
           thawAt := x.thawAt.map mv, sweepAt := mv x.sweepAt }

/-- A region whose flip time moves with a step of `a` µs, so that its age stays what it was (R41). -/
def Region.shift (a : Int) (r : Region) : Region := { r with flip := shiftT a r.flip }

/-- The same for work marked ready. -/
def MbxWork.shift (a : Int) : MbxWork → MbxWork
  | .panelAck t g seen k => .panelAck (shiftT a t) g seen k
  | w => w

/-- Every due node time of the unit moved with a step of `a` µs, the stamp of an edge that waits for its label among them, so that
its offset is measured in the time that now runs (log 230). -/
def shiftTimes (a : Int) (s : State) : State :=
  { s with field := s.field.shift a, alarm := s.alarm.shift a,
           host := { s.host with sweepCmds := s.host.sweepCmds.map fun x => (shiftT a x.1, x.2),
                                 mbxWait := s.host.mbxWait.map (·.shift a),
                                 mbx := match s.host.mbx with | .ready ws => .ready (ws.map (·.shift a)) | m => m },
           pair := { s.pair with partAt := shiftT a s.pair.partAt, partsFrom := s.pair.partsFrom.map (shiftT a) }, bell := { s.bell with tickAt := shiftT a s.bell.tickAt },
           ponor := { s.ponor with flipAt := s.ponor.flipAt.map (shiftT a), cycleAt := s.ponor.cycleAt.map (shiftT a),
                                   atSweep := s.ponor.atSweep.map fun x => (shiftT a x.1, x.2) },
           grn := { s.grn with buckets := s.grn.buckets.map fun x => (x.1, { x.2 with at_ := shiftT (a / 1000) x.2.at_ }) },
           nd := { s.nd with
             regChannel := s.nd.regChannel.shift a, regAlarm := s.nd.regAlarm.shift a, regRemote := s.nd.regRemote.shift a,
             regService := s.nd.regService.shift a, regToll := s.nd.regToll.shift a, runFrom := shiftT a s.nd.runFrom, upFrom := shiftT a s.nd.upFrom,
             cycleAt := s.nd.cycleAt.map (shiftT a) },
           clk := { s.clk with ppsStamp := s.clk.ppsStamp.map (· + 1000 * a) } }

/-- Node time stepped by `a` µs (R398, R399): every field of the time changes together, a repeated second that is over stays over
(R401), and the Toll core logs it (Table 18.8). -/
def stepBy (a : Int) (s : State) : State :=
  let s1 := shiftTimes a s
  let past := s.clk.leapEnd.any fun t => decide (t ≤ s.node)
  let s2 : State := { s1 with node := shiftT a s.node,
                              clk := { s1.clk with clock := shiftT a s.node, leapEnd := if past then none else s.clk.leapEnd } }
  if s2.toll.fwOk then tollEntry 0x000A (le 8 s.node ++ leInt 8 a) s2 else s2

/-- The TIME_STEP record, stamped with node time after the step (R404). -/
def stepRecord (old : Nat) (a : Int) (s : State) : State :=
  submit .data 0x101 (le 8 old ++ leInt 8 a ++ le 1 s.clk.source.code ++ le 3 0) s

/-- The step that waits, where one does (R398). -/
def stepNow (s : State) : State :=
  match s.clk.step with
  | none => s
  | some p =>
    let s1 := (stepBy p.amount s).modClk fun c => { c with step := none, slew := p.rest }
    match p.apply with
    | some (old, new, k) => submit .management 0x100 (le 8 old ++ le 8 new ++ le 1 k ++ le 1 0 ++ le 2 0) s1
    | none => stepRecord s.node p.amount (s1.modClk fun c => { c with steps := wrap32 (c.steps + 1) })

/-- The LEAP record (Table 13.6). -/
def leapRecord (at_ event : Nat) (s : State) : State := submit .management 0x104 (le 8 at_ ++ le 1 event ++ le 3 0) s

/-- Node time has reached an armed hold. -/
def State.leapDue (s : State) : Bool := s.clk.leapAt != 0 && decide (s.clk.leapAt ≤ s.node)

/-- The hold (R401): node time one second back, without slew. -/
def leapHold (s : State) : State :=
  if s.leapDue then
    let at_ := s.clk.leapAt
    let s1 := (stepBy (-1000000) s).modClk fun c =>
      { c with leapAt := 0, leapEnd := some at_, steps := wrap32 (c.steps + 1) }
    leapRecord at_ 2 (stepRecord s.node (-1000000) s1)
  else s

/-- The steps that fall at a sweep boundary. -/
def boundarySteps (s : State) : State := stepNow (leapHold s)

/-- `e` ns rounded to the nearest multiple of 10,000 µs; halfway, either (R398; log 32). -/
def roundStep (e : Int) (s : State) : Int × State :=
  let n := e.natAbs
  let up := (n + 5000000) / 10000000 * 10000
  let sgn (k : Nat) : Int := if e < 0 then -(k : Int) else k
  if n % 10000000 = 5000000 then
    let (k, s1) := s.draw
    (sgn (up - 10000 * (Config.freeNat k % 2)), s1)
  else (sgn up, s)

/-- Node time on its way to a time `e` ns away (R398): slewed, or stepped at the next sweep boundary. -/
def moveBy (e : Int) (apply : Option (Nat × Nat × Nat)) (s : State) : State :=
  if e.natAbs ≤ 5000000 then s.modClk fun c => { c with slew := e, step := none }
  else
    let (a, s1) := roundStep e s
    s1.modClk fun c => { c with slew := 0, step := some ⟨a, e - 1000 * a, apply⟩ }

/-- The read block, 0x00 to 0x1B of Table 13.1. -/
def readBlock (s : State) : List Byte :=
  let t := s.shownTime
  let c := Cal.of t
  le 1 s.clk.snap ++ le 1 0 ++ le 2 c.year ++ le 1 c.month ++ le 1 c.day ++ le 1 c.hour ++ le 1 c.minute ++ le 1 c.second ++
    le 1 (weekday t) ++ le 2 0 ++ le 4 c.micro ++ le 8 t ++ le 2 s.clkStatus ++ le 1 0 ++ le 1 s.clk.snap

/-- A freeze of the read block: SNAP counts (R388). -/
def freezeBlock (s : State) : List Byte × State :=
  let s1 := s.modClk fun c => { c with snap := (c.snap + 1) % 256 }
  (readBlock s1, s1)

/-- The present time as staged fields (R389). -/
def presentFields (s : State) : List Byte :=
  let t := s.shownTime
  let c := Cal.of t
  le 2 c.year ++ le 1 c.month ++ le 1 c.day ++ le 1 c.hour ++ le 1 c.minute ++ le 1 c.second ++ le 1 0 ++ le 4 c.micro ++
    le 4 0 ++ le 8 t

/-- The staged fields with their RESERVED bytes 0x00 (R489). -/
def maskFields (bs : List Byte) : List Byte := overlay (overlay (fit 24 bs) 7 [0#8]) 12 (zeros 4)

/-- Staging and shadows whose time is over are gone (R388, R389). -/
def lapseWindows (s : State) : State :=
  let old := s.clk.staging.filter fun x => decide (x.began + 10000000 ≤ s.now)
  s.modClk fun c =>
    { c with staging := c.staging.filter fun x => !decide (x.began + 10000000 ≤ s.now),
             lapsed := c.lapsed ++ old.map (·.session),
             shadows := c.shadows.filter fun x => !decide (x.began + 2000 ≤ s.now) }

/-- A session's staging. -/
def State.stagingOf (s : State) (k : Nat) : Option ClkStaging := s.clk.staging.find? (·.session == k)

/-- Offsets 0x1C to 0x3F as a session reads them; W_ fields with nothing staged are free (log 33). -/
def upperBytes (k : Nat) (s : State) : List Byte × State :=
  let (d, s1) := s.draw
  let st := match s.stagingOf k with | some x => x.fields | none => maskFields (Config.freeBytes d)
  (zeros 4 ++ st ++ le 1 0 ++ le 1 (tget 1 s.clk.wResult k) ++ le 1 (s.param 0x13000001) ++ zeros 5, s1)

/-- A session's shadow dropped. -/
def dropShadow (k : Nat) (s : State) : State := s.modClk fun c => { c with shadows := c.shadows.filter (·.session != k) }

/-- The read block as a session reads it, and the freeze it starts or uses (R388). -/
def shadowBlock (k : Nat) (s : State) : List Byte × State :=
  match s.clk.shadows.find? (·.session == k) with
  | some x => (x.block, s)
  | none =>
    let (b, s1) := freezeBlock s
    (b, s1.modClk fun c => { c with shadows := c.shadows ++ [⟨k, s1.now, b⟩] })

/-- A read of `len` bytes of the clock window from `off` in session k (R387, R388). -/
def clkRead (k off len : Nat) (s : State) : List Byte × State :=
  let s1 := lapseWindows s
  let (lo, s2) := if off < 0x1C then shadowBlock k s1 else (zeros 28, s1)
  let (hi, s3) := upperBytes k s2
  let s4 := if off < 0x1C && decide (0x1B < off + len) then dropShadow k s3 else s3
  (slice (lo ++ hi) off len, s4)

/-- A write to the staging of session k at `off` from 0x20: the first copies the present time (R389). -/
def stageWrite (k off : Nat) (bs : List Byte) (s : State) : State :=
  let s1 := lapseWindows s
  let x : ClkStaging := (s1.stagingOf k).getD ⟨k, s1.now, presentFields s1⟩
  let y : ClkStaging := { x with fields := maskFields (overlay x.fields (off - 0x20) bs) }
  s1.modClk fun c =>
    { c with staging := c.staging.filter (·.session != k) ++ [y], lapsed := c.lapsed.filter (· != k) }

/-- A staged calendar time. -/
def stagedCal (f : List Byte) : Cal :=
  ⟨fieldAt f 0 2, byteAt f 2, byteAt f 3, byteAt f 4, byteAt f 5, byteAt f 6, fieldAt f 8 4⟩

/-- An accepted apply (R391, R393): the time taken, the flags cleared, node time on its way. -/
def applyTime (k new : Nat) (s : State) : State :=
  let old := s.shownTime
  let s1 := s.modClk fun c =>
    { c with oscStop := false, lowBak := false, rangeEnd := false, leapEnd := none, steps := wrap32 (c.steps + 1) }
  let e : Int := ((new : Int) - s.node) * 1000
  let s2 := moveBy e (some (old, new, k)) (setSource .host s1)
  let s3 := if e.natAbs ≤ 5000000 then
      submit .management 0x100 (le 8 old ++ le 8 new ++ le 1 k ++ le 1 0 ++ le 2 0) s2 else s2
  trustStep 2 s3

/-- W_RESULT of an apply, and what it leaves (R390, R391, Table 13.2). -/
def tryApply (k : Nat) (calendar : Bool) (s : State) : Nat × State :=
  if s.clkLocked then (4, s)
  else
    match s.stagingOf k with
    | none => (if s.clk.lapsed.contains k then 5 else 1, s)
    | some x =>
      if calendar then
        if (stagedCal x.fields).ok then (0, applyTime k (stagedCal x.fields).binary s) else (2, s)
      else
        let v := fieldAt x.fields 16 8
        if v < clockLimit then (0, applyTime k v s) else (3, s)

/-- The status that follows from a W_RESULT (R390). -/
def wStatus (w : Nat) : Nat := if w = 0 || w = 6 then stDone else if w = 2 || w = 3 then stParam else stState

/-- A session's staging gone, with the W_RESULT of what ended it. -/
def endStagingOf (k : Nat) (w : Option Nat) (s : State) : State :=
  s.modClk fun c =>
    { c with staging := c.staging.filter (·.session != k), lapsed := c.lapsed.filter (· != k),
             wResult := match w with | some r => tset 1 c.wResult k r | none => c.wResult }

/-- A write to CTRL (R389, R390): it acts at once, and the staging goes. A value that Table 13.1 does not list is refused. -/
def ctrlWrite (k v : Nat) (s : State) : Nat × State :=
  let s1 := lapseWindows s
  if v = 3 then (stDone, endStagingOf k (some 6) s1)
  else if v = 1 || v = 2 then
    let (w, s2) := tryApply k (v == 1) s1
    (wStatus w, endStagingOf k (some w) s2)
  else (stParam, endStagingOf k none s1)

/-- CLK_GET's own part: the window from one freeze of its own (R405). -/
def clkGetBody (tk : Ticket) (pl : List Byte) (s : State) : Nat × List Byte × State :=
  if !pl.isEmpty then (stParam, [], s)
  else
    let (b, s1) := freezeBlock (lapseWindows s)
    let (u, s2) := upperBytes tk.session s1
    (stDone, b ++ u, s2)

/-- CLK_GET. -/
def execClkGet (rq : Request) (s : State) : Res := answerNow 0x1301 rq clkGetBody s

/-- CLK_SET's own part (R405). -/
def clkSetBody (tk : Ticket) (pl : List Byte) (s : State) : Nat × List Byte × State :=
  let v := byteAt pl 0
  if pl.length ≠ 32 || !(v == 1 || v == 2) then (stParam, [], s)
  else
    let (st, s1) := ctrlWrite tk.session v (stageWrite tk.session 0x20 (pl.drop 8) s)
    (st, le 1 (tget 1 s1.clk.wResult tk.session), s1)

/-- CLK_SET. -/
def execClkSet (rq : Request) (s : State) : Res := answerNow 0x1302 rq clkSetBody s

/-- An instant at which a hold may be armed (R400): the first day of a month, not past, at most 366 days ahead. -/
def State.leapOk (s : State) (v : Nat) : Bool :=
  decide (v < clockLimit) && v % dayMicros == 0 && (Cal.of v).day == 1 && decide (s.node ≤ v) &&
    decide (v ≤ s.node + 366 * dayMicros)

/-- The hold armed at `v`, or cancelled at 0, with its record. -/
def armLeap (v : Nat) (s : State) : State :=
  let old := s.clk.leapAt
  let s1 := s.modClk fun c => { c with leapAt := v }
  if v ≠ 0 then leapRecord v 1 s1 else if old ≠ 0 then leapRecord old 3 s1 else s1

/-- CLK_LEAP's own part (R400). -/
def clkLeapBody (_tk : Ticket) (pl : List Byte) (s : State) : Nat × List Byte × State :=
  let v := fieldAt pl 0 8
  if pl.length ≠ 8 || (v ≠ 0 && !s.leapOk v) then (stParam, [], s)
  else if s.clk.source = .ring then (stState, [], s)
  else (stDone, le 8 v, armLeap v s)

/-- CLK_LEAP. -/
def execClkLeap (rq : Request) (s : State) : Res := answerNow 0x1303 rq clkLeapBody s

/-- The slew in force, ppb: at most 200 ppm towards the target, free within that (log 11). -/
def State.slewPpb (s : State) : Int × State :=
  if s.clk.slew = 0 || s.nd.dataStalled then (0, s)
  else
    let (k, s1) := s.draw
    let r : Nat := Config.freeNat k % 200001
    (if s.clk.slew < 0 then -(r : Int) else r, s1)

/-- CLK_STATUS's own part (Table 13.8). -/
def clkStatusBody (_tk : Ticket) (pl : List Byte) (s : State) : Nat × List Byte × State :=
  if !pl.isEmpty then (stParam, [], s)
  else
    let (r, s1) := s.slewPpb
    let c := s.clk
    (stDone, le 2 s.clkStatus ++ le 1 (bit (s.ring 0).isMaster) ++ le 1 0 ++ leInt 4 c.offset ++ leInt 4 r ++
      le 8 c.lastLock ++ le 4 c.ppsEdges ++ le 4 c.senOk ++ le 4 c.senBad ++ le 4 c.steps, s1)

/-- CLK_STATUS. -/
def execClkStatus (rq : Request) (s : State) : Res := answerNow 0x1304 rq clkStatusBody s

/-- An offset and length lie within USER (R403, Table 13.7). -/
def userOk (off len : Nat) : Bool := decide (64 ≤ off) && decide (1 ≤ len) && decide (off + len ≤ 128)

/-- BRAM_READ's own part. -/
def bramReadBody (_tk : Ticket) (pl : List Byte) (s : State) : Nat × List Byte × State :=
  let o := byteAt pl 0
  let n := byteAt pl 1
  if pl.length ≠ 2 || !userOk o n then (stParam, [], s) else (stDone, slice s.clk.user (o - 64) n, s)

/-- BRAM_READ. -/
def execBramRead (rq : Request) (s : State) : Res := answerNow 0x1305 rq bramReadBody s

/-- BRAM_WRITE's own part: applied in one piece (R403). -/
def bramWriteBody (_tk : Ticket) (pl : List Byte) (s : State) : Nat × List Byte × State :=
  let o := byteAt pl 0
  let n := byteAt pl 1
  if pl.length ≠ n + 2 || !userOk o n then (stParam, [], s)
  else (stDone, [], s.modClk fun c => { c with user := overlay c.user (o - 64) (pl.drop 2) })

/-- BRAM_WRITE. -/
def execBramWrite (rq : Request) (s : State) : Res := answerNow 0x1306 rq bramWriteBody s

/-- A part of a taken MEM_PEEK or MEM_POKE of the clock window in an open session. -/
def windowStep (t : Nat) (k : Fin 8) (f : State → State) (s : State) : Res :=
  let s1 := s.begin t
  .next (if s1.alive && !s1.nd.mgmtStalled && decide ((s1.sess k.val).state ≠ .free) then f s1 else s1)

/-- CLK_WINDOW_READ: a read of `len` bytes of the read block from `off` (R388). -/
def execClkWindowRead (t : Nat) (k : Fin 8) (off len : Fin 28) (s : State) : Res :=
  windowStep t k (fun s => (clkRead k.val off.val (len.val + 1) s).2) s

/-- CLK_FREEZE_LAPSE: 2 ms have passed since a session's freeze began (R388). -/
def execClkFreezeLapse (t : Nat) (k : Fin 8) (s : State) : Res :=
  let s1 := s.begin t
  .next (s1.modClk fun c =>
    { c with shadows := c.shadows.filter fun x => !(x.session == k.val && decide (x.began + 2000 ≤ s1.now)) })

/-- CLK_STAGING_WRITE: bytes written to the staging at 0x20 + `off` (R389); none beyond 0x37. -/
def execClkStagingWrite (t : Nat) (k : Fin 8) (off : Fin 24) (bs : List Byte) (s : State) : Res :=
  windowStep t k (stageWrite k.val (0x20 + off.val) (bs.take (24 - off.val))) s

/-- CLK_APPLY_CALENDAR: CTRL 0x01 (R390). -/
def execClkApplyCalendar (t : Nat) (k : Fin 8) (s : State) : Res := windowStep t k (fun s => (ctrlWrite k.val 1 s).2) s

/-- CLK_APPLY_BINARY: CTRL 0x02. -/
def execClkApplyBinary (t : Nat) (k : Fin 8) (s : State) : Res := windowStep t k (fun s => (ctrlWrite k.val 2 s).2) s

/-- CLK_DISCARD_STAGING: CTRL 0x03. -/
def execClkDiscardStaging (t : Nat) (k : Fin 8) (s : State) : Res := windowStep t k (fun s => (ctrlWrite k.val 3 s).2) s

/-- CLK_STAGING_LAPSE: 10 s have passed since the first write of a session's staging (R389). -/
def execClkStagingLapse (t : Nat) (k : Fin 8) (s : State) : Res :=
  let s1 := s.begin t
  match s1.stagingOf k.val with
  | none => .next s1
  | some x => .next (if x.began + 10000000 ≤ s1.now then
      s1.modClk fun c =>
        { c with staging := c.staging.filter (·.session != k.val), lapsed := c.lapsed ++ [k.val] } else s1)

end Sys2Proof.Machine
end

