-- ==== Sys2Proof/Machine/Groups.lean ====
section
/-! DEFINITION. Alarm groups and the sweep (R29, R329, R332, R335 to R341, R511). -/

namespace Sys2Proof.Machine

/-- The configuration whose group tree the fabric uses: the old one while a phased change is applied (R511). -/
def State.treeCfg (s : State) : Cfg := s.alarm.tree.getD s.cfg.inForce

/-- The groups enabled in a configuration, the root group among them (R335). -/
def groupsOf (c : Cfg) : List Nat :=
  0 :: ((c.filter fun x => x.1 / 65536 == 0x1041 && x.2 == 1 && x.1 % 65536 != 0).map (·.1 % 65536))

/-- PARENT of a group. -/
def parentOf (c : Cfg) (g : Nat) : Nat := cfield c .grp g 0

/-- A group's depth: the parent steps to the root group (R337), at most `fuel`. -/
def depthOf (c : Cfg) : Nat → Nat → Nat
  | 0, _ => 0
  | fuel + 1, g => if g = 0 then 0 else depthOf c fuel (parentOf c g) + 1

/-- Group g is `top` or lies below it. -/
def groupWithin (c : Cfg) (top : Nat) : Nat → Nat → Bool
  | 0, _ => false
  | fuel + 1, g => if g = top then true else if g = 0 then false else groupWithin c top fuel (parentOf c g)

/-- The enabled groups, the deepest first, the lowest number first within one depth (R337). -/
def groupOrder (c : Cfg) : List Nat :=
  let gs := groupsOf c
  let ds := gs.map fun g => (g, depthOf c gs.length g)
  let top := ds.foldl (fun a x => max a x.2) 0
  (List.range (top + 1)).reverse.flatMap fun d => (ds.filter fun x => x.2 == d).map (·.1)

/-- The points below group g, and its own (R335, R341). -/
def pointsWithin (c : Cfg) (g : Nat) (ps : List Nat) : List Nat :=
  let fuel := (groupsOf c).length + 1
  ps.filter fun p => groupWithin c g fuel (cfield c .pt p 3)

/-- What a group gathers of the points below it (R338). -/
structure GrpSum where
  rank : Nat
  prio : Nat
  unackPrio : Nat
  act : Nat
  unack : Nat
  supp : Nat
  raises : Nat
  bad : Bool
  frz : Bool
  kids : Bool
  deriving DecidableEq, Repr

/-- Of no points. -/
def GrpSum.initial : GrpSum := ⟨1, 0, 0, 0, 0, 0, 0, false, false, false⟩

/-- Two sums taken together. -/
def GrpSum.add (a b : GrpSum) : GrpSum :=
  ⟨max a.rank b.rank, max a.prio b.prio, max a.unackPrio b.unackPrio, a.act + b.act, a.unack + b.unack, a.supp + b.supp,
    a.raises + b.raises, a.bad || b.bad, a.frz || b.frz, a.kids || b.kids⟩

/-- One point's part: a suppressed point counts as NORMAL (R320). -/
def GrpSum.ofPoint (old new : PtRun) : GrpSum :=
  let st := if new.suppress = 0 then new.state else .normal
  ⟨st.rank, if st = .normal then 0 else new.priority, if st.unack then new.priority else 0, bit st.act, bit st.unack,
    bit (decide (new.suppress ≠ 0)), (new.raises + 4294967296 - old.raises) % 4294967296, new.inputBad, new.frozen, true⟩

/-- The state whose RANK is r. -/
def stateOfRank (r : Nat) : AlState := if r = 4 then .actUnack else if r = 3 then .actAck else if r = 2 then .rtnUnack else .normal

/-- The entry that a sum gives (Table 11.1). -/
def GrpSum.entry (a : GrpSum) (raises epoch : Nat) : GrpEntry where
  state := stateOfRank a.rank
  priority := a.prio
  unackPrio := a.unackPrio
  inputBad := a.bad
  frozen := a.frz
  suppressed := decide (0 < a.supp)
  empty := !a.kids
  activeCount := min 65535 a.act
  unackCount := min 65535 a.unack
  raises := wrap16 (raises + a.raises)
  epoch := epoch
  suppCount := min 65535 a.supp

/-- The sums of the points alone, by group. -/
def pointSums (c : Cfg) (old new : Tbl PtRun) (ps : List Nat) : Tbl GrpSum :=
  ps.foldl (fun t p =>
    tmod GrpSum.initial t (cfield c .pt p 3)
      (·.add (GrpSum.ofPoint (tget PtRun.initial old p) (tget PtRun.initial new p)))) []

/-- The groups' entries, each formed from the entries of its children made in the same sweep (R337, R338). -/
def groupEntries (s : State) (c : Cfg) : List Nat → Tbl GrpSum → Tbl GrpEntry → Tbl GrpEntry
  | [], _, out => out
  | g :: gs, sums, out =>
    let a := tget GrpSum.initial sums g
    let e := a.entry (tget GrpEntry.initial s.alarm.grps g).raises (s.epochOf (66560 + g))
    let up := if g = 0 then sums else tmod GrpSum.initial sums (parentOf c g) (·.add { a with kids := true })
    groupEntries s c gs up (tset GrpEntry.initial out g e)

/-- The fabric is powered (R45): while an alarm point is configured, and until the sweeps that bring removed points to NORMAL,
work off the commands that wait and end a freeze have run (log 196). -/
def State.fabricOn (s : State) : Bool :=
  !(usedPoints s.cfg.inForce).isEmpty || s.alarm.pts.any (fun x => decide (x.2.state ≠ .normal) || decide (x.2.suppress ≠ 0)) ||
    !s.alarm.waiting.isEmpty || !s.host.sweepCmds.isEmpty || !s.alarm.panelAcks.isEmpty || s.alarm.thawAt.isSome

/-- The fabric sweeps (R45, R330): COMMISSION, DUTY, STANDBY and HOLD. -/
def State.sweeps (s : State) : Bool :=
  s.cycling && s.fabricOn &&
    (match s.nd.mode with | .commission => true | .duty => true | .standby => true | .hold => true | _ => false)

/-- A command of the mailbox in the form the fabric works on (R323, R341). -/
def sweepCmdOf (s : State) (tk : Ticket) (pl : List Byte) : SweepCmd :=
  let p := fieldAt pl 0 2
  let org := tk.session + 1
  if tk.opcode = 0x1010 then ⟨.ack (fieldAt pl 2 2), p, [p], 0, stDone, org, some tk⟩
  else if tk.opcode = 0x1011 then ⟨.shelve (fieldAt pl 2 2), p, [p], 0, stDone, org, some tk⟩
  else if tk.opcode = 0x1012 then ⟨.inhibit (byteAt pl 2 == 1), p, [p], 0, stDone, org, some tk⟩
  else ⟨.grpAck (byteAt pl 2) (fieldAt pl 4 8), p, pointsWithin s.treeCfg p (usedPoints s.cfg.inForce), 0, stDone, org, some tk⟩

/-- A panel's acknowledgement as the fabric works on it (R356). -/
def panelCmdOf (s : State) (g seen slot : Nat) : SweepCmd :=
  ⟨.grpAck 0 seen, g, pointsWithin s.treeCfg g (usedPoints s.cfg.inForce), 0, stDone, 0x40 + slot, none⟩

/-- The commands that the sweep begun at `at_` takes: those that waited in frozen points, then the new ones. -/
def State.dueCmds (s : State) (at_ : Nat) : List SweepCmd :=
  s.alarm.waiting ++
    ((s.host.sweepCmds.filter fun x => decide (x.1 ≤ at_)).map fun x => sweepCmdOf s x.2.1 x.2.2) ++
    ((s.alarm.panelAcks.filter fun x => decide (x.1 ≤ at_)).map fun x => panelCmdOf s x.2.1 x.2.2.1 x.2.2.2)

/-- A command's reply once every point has been worked on: the state after the sweep (Table 10.9, Table 11.12). -/
def sweepReply (s : State) (c : SweepCmd) : Option (Ticket × Nat × List Byte) :=
  match c.ticket with
  | none => none
  | some tk =>
    let r := s.pt c.target
    let pl := match c.op with
      | .ack _ => le 1 (ptByte0 r)
      | .shelve _ => if c.status = stDone then le 2 r.shelveLeft else []
      | .inhibit _ => if c.status = stDone then le 1 (ptByte0 r) else []
      | .grpAck _ _ => le 4 c.count
    some (tk, c.status, pl)

/-- The freeze ended where the sweep begun at `at_` is the unfreezing one (R510, R511). -/
def thaw (at_ : Micros) (s : State) : State :=
  match s.alarm.thawAt with
  | some t =>
    if at_ < t then s
    else
      let ms := if s.alarm.frozen.isEmpty then s.cfg.freezeMs else min 65535 ((s.now - s.alarm.frozenAt) / 1000)
      { s with alarm := { s.alarm with frozen := [], tree := none, thawAt := none }, cfg := { s.cfg with freezeMs := ms } }
  | none => s

/-- Every point in ascending number. -/
def sweepPoints (at_ : Micros) : List Nat → List SweepCmd → List Submission → State → List SweepCmd × List Submission × State
  | [], cs, recs, s => (cs, recs, s)
  | p :: ps, cs, recs, s =>
    let (w, cs1) := sweepPoint s at_ p cs
    sweepPoints at_ ps cs1 (recs ++ w.recs) (s.modPt p fun _ => w.r)

/-- The whole sweep begun at node time `at_` (R29, R329): points, then groups; the region flips within 8,000 µs. -/
def runSweep (at_ : Micros) (s0 : State) : State :=
  let s := thaw at_ (stallEnds 1 s0)
  let cmds := s.dueCmds at_
  let keys := unionKeys (usedPoints s.cfg.inForce ++ s.alarm.pts.map (·.1)) (cmds.flatMap (·.points))
  let (cs, recs, s1) := sweepPoints at_ keys cmds [] s
  let c := s.treeCfg
  let sums := pointSums c s.alarm.pts s1.alarm.pts (usedPoints s.cfg.inForce)
  let grps := groupEntries s c (groupOrder c) sums []
  let replies := (cs.filter (·.points.isEmpty)).filterMap (sweepReply s1)
  let (k, s2) := s1.draw
  { s2 with
    alarm := { s2.alarm with next := some ⟨at_ + Config.freeNat k % 8001, grps, recs, replies⟩,
                             waiting := cs.filter (!·.points.isEmpty),
                             panelAcks := s2.alarm.panelAcks.filter fun x => !decide (x.1 ≤ at_), sweepAt := at_ },
    host := { s2.host with sweepCmds := s2.host.sweepCmds.filter fun x => !decide (x.1 ≤ at_) },
    nd := { s2.nd with sweepDropRun := 0 } }

/-- The start of the sweep that stands at this node time: the last whole multiple of 10,000 µs. -/
def State.sweepStart (s : State) : Micros := s.node / 10000 * 10000

/-- A sweep is due: the fabric sweeps and none has begun at or since the last sweep boundary. -/
def State.sweepDue (s : State) : Bool := s.sweeps && decide (s.alarm.sweepAt < s.sweepStart)

/-- The sweep of the latest sweep boundary, where it is still due and `want` holds at its start; a step of node time that
waits falls first (R398, R401). A flip that then falls due follows at once. -/
def sweepIf (t : Nat) (want : State → Bool) (s : State) : Res :=
  let s0 := s.begin t
  let s1 := if s0.sweepDue then boundarySteps s0 else s0
  if s1.sweepDue && want s1 then .next (dueFlips (runSweep s1.sweepStart s1)) else .next s1

/-- SWEEP (R29). -/
def execSweep (t : Nat) (s : State) : Res := sweepIf t (fun _ => true) s

/-- Point p as the due sweep would leave it. -/
def State.afterSweep (s : State) (p : Nat) : PtRun := (runSweep s.sweepStart s).pt p

/-- POINT_ON_DELAY_EXPIRE: the sweep at which the count reaches ON_DELAY and ACTIVE of point p sets (R318). -/
def execPointOnDelayExpire (t : Nat) (p : Point) (s : State) : Res :=
  sweepIf t (fun x => !(x.pt p).active && (x.afterSweep p).active) s

/-- POINT_OFF_DELAY_EXPIRE: the sweep at which ACTIVE of point p clears (R318). -/
def execPointOffDelayExpire (t : Nat) (p : Point) (s : State) : Res :=
  sweepIf t (fun x => (x.pt p).active && !(x.afterSweep p).active) s

/-- SHELVE_EXPIRE: the sweep at which SHELVE_LEFT of point p counts down to 0 (R326). -/
def execShelveExpire (t : Nat) (p : Point) (s : State) : Res :=
  sweepIf t (fun x => decide ((x.pt p).shelveLeft = 1) && decide ((x.afterSweep p).shelveLeft = 0)) s

/-- BLOCK_DELAY_EXPIRE: the sweep at which blocking of point p ends (R325). -/
def execBlockDelayExpire (t : Nat) (p : Point) (s : State) : Res :=
  sweepIf t (fun x => (x.pt p).blocked && !(x.afterSweep p).blocked) s

/-- The timers of point p are paused at the sweep begun at `at_`: by HOLD, or by its input (R317, R330). -/
def State.pausedAt (s : State) (at_ p : Nat) (r : PtRun) : Bool :=
  if s.ptKind p = 0 || (s.nd.mode = .hold && !s.heldSweep p) then decide (s.nd.mode = .hold) else (s.judge at_ p r).paused

/-- An abandoned sweep (R29, R318, R326): delays and shelving times that are not paused count, nothing else is kept. -/
def abandonSweep (at_ : Micros) (s : State) : State :=
  let pts := tmap PtRun.initial (fun p r =>
    let paused := s.pausedAt at_ p r
    let r1 := r.countShelf at_ paused
    if r1.timing && !paused then { r1 with delay := r1.delay + 10 } else r1) s.alarm.pts
  ({ s with alarm := { s.alarm with pts := pts, sweepAt := at_ },
            nd := { s.nd with sweepDropRun := s.nd.sweepDropRun + 1 } } : State).count 4 1

/-- SWEEP_ABANDONED: the sweep of the latest sweep boundary does not complete; the third in a row is a control plane fault
(R111). -/
def execSweepAbandoned (t : Nat) (s : State) : Res :=
  let s0 := s.begin t
  let s1 := if s0.sweepDue then boundarySteps s0 else s0
  if s1.sweepDue then .next (abandonSweep s1.sweepStart s1) else .next s1

/-- GRP_SET (Table 11.12). -/
def execGrpSet (rq : Request) (s : State) : Res := setupCommand .grp 0x1030 rq s

/-- GRP_GET. -/
def execGrpGet (rq : Request) (s : State) : Res := setupRead .grp 0x1031 rq s

/-- The GRP_READ reply: depth, and the entry from the latest flip. -/
def grpReadBytes (g : Nat) (s : State) : List Byte :=
  let c := s.treeCfg
  le 2 g ++ le 2 (depthOf c (groupsOf c).length g) ++ grpBytes (tget GrpEntry.initial s.alarm.imgGrps g)

/-- GRP_READ. -/
def execGrpRead (rq : Request) (s : State) : Res := answerNow 0x1032 rq (readBody 2 16384 grpReadBytes) s

/-- GRP_ACK's form. -/
def grpAckCheck (pl : List Byte) (_ : State) : Option Nat :=
  if pl.length ≠ 12 || 16384 ≤ fieldAt pl 0 2 then some stParam else none

/-- GRP_ACK (R341). -/
def execGrpAck (rq : Request) (s : State) : Res := answerMailbox 0x1033 rq grpAckCheck s

end Sys2Proof.Machine
end

