-- ==== Sys2Proof/Machine/Bell.lean ====
section
/-! DEFINITION. System alarms, the Hopper Bell, its tick, the watch roster and the dead-man watch (R342 to R353, R356, R357). -/

namespace Sys2Proof.Machine

/-- System alarms of a mask acknowledged, those raised by `seen` where one is given (R342, R356). -/
def sysAck (mask origin : Nat) (seen : Option Nat) (s : State) : State :=
  (List.range 11).foldl (fun s k =>
    let st := s.sysAlarm k
    let seenBy := match seen with | none => true | some t => decide (tget 0 s.bell.sysRaised k ≤ t)
    if hasBit mask k && st.unack && seenBy then sysTo k (if st = .actUnack then .actAck else .normal) origin s else s) s

/-- A call stands (R343), by the latest flip of the alarm region. -/
def State.callStands (s : State) : Bool :=
  let e := tget GrpEntry.initial s.alarm.imgGrps (s.hb 2)
  decide (s.hb 3 ≤ e.unackPrio) || (List.range 11).any fun k => s.sysCalls k && (s.sysAlarm k).unack

/-- ZONE in minutes. -/
def State.zone (s : State) : Int := toSigned 4 (s.hb 10)

/-- Ship time in minutes, counted from 14 days before 2000-01-01 (R347), a Saturday. -/
def State.shipMinute (s : State) : Nat := ((s.clk.clock / 60000000 : Nat) + 20160 + s.zone).toNat

/-- The latest start of roster entry r at or before minute m within 7 days, none where it has none. -/
def State.rosterStart (s : State) (m r : Nat) : Option Nat :=
  let days := s.param (0x11020000 + 4 * r)
  let start := s.param (0x11020000 + 4 * r + 1)
  ((List.range 8).map fun k => (m / 1440 - k, (m / 1440 - k) * 1440 + start)).findSome? fun (d, t) =>
    if hasBit days ((d + 5) % 7) && t ≤ m && m ≤ t + 10080 then some t else none

/-- The engineer the roster names, 0xFF for none (R347): the latest start, the lower index among equals. -/
def State.rosterNames (s : State) : Nat :=
  let m := s.shipMinute
  let best := (List.range 64).foldl (fun (b : Option (Nat × Nat)) r =>
    match s.rosterStart m r, b with
    | some t, some (u, _) => if u < t then some (t, r) else b
    | some t, none => some (t, r)
    | none, _ => b) none
  match best with
  | some (_, r) => s.param (0x11020000 + 4 * r + 2)
  | none => 255

/-- The duty engineer at a tick (R347, R349). -/
def dutyStep (s : State) : State :=
  let s1 := if s.trustedNow then
      s.modBell fun b =>
        let ended := match b.overrideUntil with | some u => decide (u ≤ s.clk.clock) | none => false
        { b with rosterDuty := s.rosterNames, overrideEng := if ended then 255 else b.overrideEng,
                 overrideUntil := if ended then none else b.overrideUntil }
    else s
  s1.modBell fun b => { b with duty := if b.overrideUntil.isSome then b.overrideEng else b.rosterDuty }

/-- The dead-man watch enters a state, with what backup RAM keeps of it (R350, R351). -/
def setDm (d : DmState) (s : State) : State :=
  let left := match d with | .armed => 10 * s.hb 7 | .prewarn => s.bell.dmLeft | _ => 0
  let s1 := s.modBell fun b => { b with dm := d, dmLeft := left }
  { s1 with clk := { s1.clk with dmSaved := d } }

/-- DM_LEFT counts `n` ticks (R346, R350). -/
def dmStep (n : Nat) (s : State) : State :=
  if s.bell.dm = .armed || s.bell.dm = .prewarn then
    let left := s.bell.dmLeft - n
    let s1 := s.modBell fun b => { b with dmLeft := left }
    if left = 0 then setDm .expired s1
    else if s.bell.dm = .armed && left ≤ 10 * s.hb 8 then setDm .prewarn s1 else s1
  else s

/-- CABIN slot of engineer e, none for none. -/
def State.cabin (s : State) (e : Nat) : Option Nat :=
  if 16 ≤ e then none else let k := s.param (0x11010000 + 4 * e + 1); if k < 64 then some k else none

/-- The CABIN panel of engineer e is missing, or there is none. -/
def State.cabinMissing (s : State) (e : Nat) : Bool :=
  match s.cabin e with
  | none => true
  | some k => s.slotField k 0 != 3 || s.slotMissing k

/-- Slot k is a CABIN panel that is called. -/
def State.calledSlot (s : State) (k : Nat) : Bool :=
  s.slotField k 0 == 3 && (s.bell.called == 254 || s.cabin s.bell.called == some k)

/-- A class may use a key (Table 11.6). -/
def Key.allowed (k : Key) (cls : Nat) : Bool :=
  match k with
  | .ack => cls == 1
  | .silence => decide (1 ≤ cls) && decide (cls ≤ 5)
  | .accept => cls == 3
  | .dmOn => cls == 1 || cls == 2
  | .dmReset => cls == 1 || cls == 2
  | .dmOff => cls == 1
  | .manned => cls == 1
  | .unmanned => cls == 1

/-- The latest node time up to `at_` whose low 32 bits are VIEW (R356). -/
def seenTime (at_ view : Nat) : Nat := at_ - (at_ + 4294967296 - view % 4294967296) % 4294967296

/-- A key that is taken in this state, at slot k (R344, R350, R353, R356): KEY_RESULT 0x00, or 0x02 and nothing done. -/
def actKey (at_ k : Nat) (e : KeyEvent) (s : State) : Nat × State :=
  match e.key with
  | .ack =>
    let seen := seenTime at_ e.view
    let s1 := postWork (.panelAck at_ (s.slotGroup k) seen k) s
    (0, sysAck 0x7FF (0x40 + k) (some seen) s1)
  | .silence => (0, s.modPanel k fun p => { p with silenced := true })
  | .accept => if s.bell.stage = .stage3 || (s.bell.stage = .stage2 && s.calledSlot k) then (0, s) else (2, s)
  | .dmOn => (0, setDm .armed s)
  | .dmReset => if s.bell.dm = .prewarn || s.bell.dm = .expired then (0, setDm .armed s) else (2, s)
  | .dmOff => if s.bell.dm = .armed || s.bell.dm = .prewarn then (0, setDm .off s) else (2, s)
  | .manned => (0, s.modBell fun b => { b with unmanned := false })
  | .unmanned => if s.callStands then (2, s) else (0, s.modBell fun b => { b with unmanned := true })

/-- What the keys taken at a tick call for. -/
structure KeyActs where
  accept : Bool
  manned : Bool
  deriving DecidableEq, Repr

/-- The key noted at slot k taken (R356). -/
def takeKey (at_ k : Nat) (x : KeyActs × State) : KeyActs × State :=
  let (acts, s) := x
  match (s.panel k).key with
  | none => (acts, s)
  | some e =>
    let (res, s1) := if e.key.allowed (s.slotField k 0) then actKey at_ k e s else (1, s)
    let s2 := s1.modPanel k fun p => { p with key := none, keyTaken := e.eventNo, keyResult := res }
    (⟨acts.accept || (decide (e.key = .accept) && res == 0), acts.manned || (decide (e.key = .manned) && res == 0)⟩, s2)

/-- A stage entered with its timer and called engineer. -/
def goStage (st : Stage) (timer : Option Nat) (called : Nat) (s : State) : State :=
  s.modBell fun b => { b with stage := st, timer := timer, called := called }

/-- The called engineer at entry to STAGE2 (R346). -/
def State.callWhom (s : State) : Nat :=
  let d := s.bell.duty
  if d = 255 || s.sysAlarm 9 != .normal || s.cabinMissing d then 254 else d

/-- The timer has run out. -/
def State.timerOut (s : State) : Bool := s.bell.timer == some 0

/-- The highest transition of Table 11.4 that holds at a tick. -/
def stageStep (acts : KeyActs) (newCall dmRaised : Bool) (s : State) : State :=
  let st := s.bell.stage
  if dmRaised && decide (st ≠ .stage3) then goStage .stage3 none 254 s
  else if decide (st ≠ .idle) && !s.callStands then goStage .idle none 255 s
  else if acts.manned && (st = .stage2 || st = .stage3 || st = .attend) then goStage .stage1 none 255 s
  else if st = .idle && newCall then goStage .stage1 (some (10 * s.hb 4)) 255 s
  else if st = .stage1 && s.timerOut && s.bell.unmanned then goStage .stage2 (some (10 * s.hb 5)) s.callWhom s
  else if (st = .stage2 || st = .stage3) && acts.accept then
    let s1 := goStage .attend (some (10 * s.hb 6)) s.bell.called s
    if hasBit (s.hb 9) 1 then setDm .armed s1 else s1
  else if (st = .stage2 || st = .attend) && s.timerOut then goStage .stage3 none 254 s
  else if st = .stage2 && s.cabinMissing s.bell.called then s.modBell fun b => { b with called := 254 }
  else s

/-- A new call since the previous tick (R343): CALL_GROUP's RAISES changed, or a system alarm raised that counts. -/
def State.newCall (s : State) : Bool :=
  s.bell.sysCall || (s.bell.prevGroup == s.hb 2 &&
    (tget GrpEntry.initial s.alarm.imgGrps (s.hb 2)).raises != s.bell.prevRaises)

/-- What the tick remembers for the next one. -/
def rememberCalls (s : State) : State :=
  s.modBell fun b => { b with sysCall := false, dmRaised := false, prevGroup := s.hb 2,
                              prevRaises := (tget GrpEntry.initial s.alarm.imgGrps (s.hb 2)).raises }

/-- SILENCE ends on a new call, a stage change, a dead-man change, or a raise under the panel's group (R346, R353). -/
def unsilence (all : Bool) (s : State) : State :=
  (List.range 64).foldl (fun s k =>
    if s.slotField k 0 = 0 then s
    else
      let now := (tget GrpEntry.initial s.alarm.imgGrps (s.slotGroup k)).raises
      s.modPanel k fun p => { p with silenced := p.silenced && !all && p.raises == now, raises := now }) s

/-- The ticks that a tick begun at `at_` counts: those passed over while the management plane did not run are counted too
(R346). -/
def State.tickCount (s : State) (at_ : Micros) : Nat := max 1 ((at_ - s.bell.tickAt) / 100000)

/-- The Hopper Bell's part of a tick (R343 to R351). -/
def hopper (at_ : Micros) (s : State) : State :=
  let n := s.tickCount at_
  let s1 := dmStep n (sysFollowAll (dutyStep s))
  let s2 := s1.modBell fun b => { b with timer := b.timer.map (· - n) }
  let (acts, s3) := (List.range 64).foldl (fun x k => takeKey at_ k x) (⟨false, false⟩, s2)
  let s4 := sysFollowAll s3
  let newCall := s4.newCall
  let s5 := sysFollowAll (stageStep acts newCall s4.bell.dmRaised s4)
  let s6 := unsilence (newCall || s5.bell.stage != s.bell.stage || s5.bell.dm != s.bell.dm) s5
  let s7 := rememberCalls s6
  if s7.bell.record = s.bell.record then s7 else submit .management 0x082 s7.bell.record s7

/-- A Hopper Bell command applied at a tick. -/
def applyBellCmd (s : State) (c : Ticket × List Byte) : State :=
  if c.1.opcode = 0x1103 then sysAck (fieldAt c.2 0 2) (c.1.session + 1) none s
  else
    let e := byteAt c.2 0
    s.modBell fun b =>
      { b with overrideEng := e, overrideUntil := if e = 255 then none else some (fieldAt c.2 8 8) }

/-- A command's reply after the tick that applied it (Table 11.12). -/
def replyBellCmd (s : State) (c : Ticket × List Byte) : State :=
  reply c.1 stDone (if c.1.opcode = 0x1103 then le 4 s.sysWord else le 1 s.bell.duty) s

/-- The last tick boundary: whole multiples of 100,000 µs of node time (R343). -/
def State.tickStart (s : State) : Micros := s.node / 100000 * 100000

/-- A tick is due. -/
def State.tickDue (s : State) : Bool :=
  s.alive && decide (s.nd.mode ≠ .boot) && decide (s.bell.tickAt < s.tickStart)

/-- The whole tick begun at `at_`: the first after a stall of the management plane shows that it runs again (R42). -/
def runTick (at_ : Micros) (s0 : State) : State :=
  let s := s0.modNd fun d => { d with mgmtStalled := false }
  let cmds := s.host.bellCmds
  let s1 := cmds.foldl applyBellCmd { s with host := { s.host with bellCmds := [] } }
  let s2 := sendChange s (if s1.hbOn && s1.executes then hopper at_ s1 else rememberCalls (sysFollowAll s1))
  let s3 := flipService (s2.modBell fun b => { b with tickAt := at_ })
  cmds.foldl replyBellCmd s3

/-- The tick of the latest tick boundary, where it is still due and `want` holds at its start. -/
def tickIf (t : Nat) (want : State → Bool) (s : State) : Res :=
  let s1 := s.begin t
  if s1.tickDue && want s1 then .next (runTick s1.tickStart s1) else .next s1

/-- The Hopper Bell as the due tick would leave it. -/
def State.afterTick (s : State) : BellSt := (runTick s.tickStart s).bell

/-- HB_TICK (R343). -/
def execHbTick (t : Nat) (s : State) : Res := tickIf t (fun _ => true) s

/-- The due tick takes the Hopper Bell from one stage to another. -/
def stageTick (t : Nat) (a b : Stage) (s : State) : Res :=
  tickIf t (fun x => decide (x.bell.stage = a) && decide (x.afterTick.stage = b)) s

/-- HB_T1_EXPIRE: the tick at which T1 runs out in UNMANNED (R345). -/
def execHbT1Expire (t : Nat) (s : State) : Res := stageTick t .stage1 .stage2 s

/-- HB_T2_EXPIRE: the tick at which T2 runs out. -/
def execHbT2Expire (t : Nat) (s : State) : Res := stageTick t .stage2 .stage3 s

/-- HB_T_ATTEND_EXPIRE: the tick at which T_ATTEND runs out. -/
def execHbTAttendExpire (t : Nat) (s : State) : Res := stageTick t .attend .stage3 s

/-- DM_PREWARN: the tick at which DM_LEFT reaches DM_PREWARN (R350). -/
def execDmPrewarn (t : Nat) (s : State) : Res :=
  tickIf t (fun x => decide (x.bell.dm = .armed) && decide (x.afterTick.dm = .prewarn)) s

/-- DM_EXPIRED: the tick at which DM_LEFT reaches 0. -/
def execDmExpired (t : Nat) (s : State) : Res :=
  tickIf t (fun x => decide (x.bell.dm ≠ .expired) && decide (x.afterTick.dm = .expired)) s

/-- ROSTER_CHANGE: the tick at which the duty engineer changes (R348). -/
def execRosterChange (t : Nat) (s : State) : Res := tickIf t (fun x => x.bell.duty != x.afterTick.duty) s

/-- HB_OVERRIDE_END: the tick at which the override ends (R347). -/
def execHbOverrideEnd (t : Nat) (s : State) : Res :=
  tickIf t (fun x => x.bell.overrideUntil.isSome && x.afterTick.overrideUntil.isNone) s

/-- The tick that takes a key noted at slot k. -/
def keyTick (t : Nat) (k : Fin 64) (key : Key) (s : State) : Res :=
  tickIf t (fun x => match (x.panel k).key with | some e => decide (e.key = key) | none => false) s

/-- KEY_ACK (R356). -/
def execKeyAck (t : Nat) (k : Fin 64) (s : State) : Res := keyTick t k .ack s
/-- KEY_SILENCE (R353). -/
def execKeySilence (t : Nat) (k : Fin 64) (s : State) : Res := keyTick t k .silence s
/-- KEY_ACCEPT (Table 11.4). -/
def execKeyAccept (t : Nat) (k : Fin 64) (s : State) : Res := keyTick t k .accept s
/-- KEY_DM_ON (Table 11.5). -/
def execKeyDmOn (t : Nat) (k : Fin 64) (s : State) : Res := keyTick t k .dmOn s
/-- KEY_DM_RESET. -/
def execKeyDmReset (t : Nat) (k : Fin 64) (s : State) : Res := keyTick t k .dmReset s
/-- KEY_DM_OFF. -/
def execKeyDmOff (t : Nat) (k : Fin 64) (s : State) : Res := keyTick t k .dmOff s
/-- KEY_MANNED (R344, R345). -/
def execKeyManned (t : Nat) (k : Fin 64) (s : State) : Res := keyTick t k .manned s
/-- KEY_UNMANNED (R344). -/
def execKeyUnmanned (t : Nat) (k : Fin 64) (s : State) : Res := keyTick t k .unmanned s

/-- HB_STATUS's reply (Table 11.13). -/
def hbStatusBytes (s : State) : List Byte :=
  let b := s.bell
  let ok := (List.range 64).foldl (fun a k => if s.slotField k 0 != 0 && !s.slotMissing k then a + 2 ^ k else a) 0
  le 1 b.stage.code ++ le 1 (bit b.unmanned) ++ le 1 b.dm.code ++ le 1 b.duty ++ le 1 b.called ++ le 3 0 ++ le 4 s.sysWord ++
    le 4 (b.timer.getD 0) ++ le 4 b.dmLeft ++ le 8 ok

/-- HB_STATUS. -/
def execHbStatus (rq : Request) (s : State) : Res := answerNow 0x1101 rq (plainRead hbStatusBytes) s

/-- A command that the next tick applies (reply kind W). -/
def answerTick (op : Nat) (rq : Request) (ok : List Byte → Bool) (s : State) : Res :=
  .next (runPacket op rq (fun cls tk pl s =>
    if ok pl then { s with host := { s.host with bellCmds := s.host.bellCmds ++ [(tk, pl)] } }
    else finish cls tk stParam [] s) s)

/-- HB_OVERRIDE's form. -/
def overrideOk (pl : List Byte) : Bool :=
  pl.length == 16 && (decide (byteAt pl 0 < 16) || byteAt pl 0 == 255)

/-- HB_OVERRIDE (R347). -/
def execHbOverride (rq : Request) (s : State) : Res := answerTick 0x1102 rq overrideOk s

/-- HB_SYS_ACK (R342). -/
def execHbSysAck (rq : Request) (s : State) : Res := answerTick 0x1103 rq (fun pl => pl.length == 2) s

/-- The state received from the duty unit, with its timers as sent. -/
def takeBell (m : BellMsg) (s : State) : State :=
  let st (k : Nat) : AlState := AlState.ofCode (m.sys / 4 ^ k % 4)
  let s1 := s.modBell fun b =>
    { b with stage := Stage.ofCode m.stage, unmanned := m.unmanned, timer := m.timer, called := m.called,
             dm := DmState.ofCode m.dm, dmLeft := m.dmLeft, duty := m.duty,
             sys := (List.range 11).foldl (fun t k => tset .normal t k (st k)) [],
             overrideEng := m.overrideEng, overrideUntil := m.overrideUntil, peerAt := s.now }
  let s2 := (List.range 64).foldl (fun s k =>
    let n := m.taken.getD k 0
    s.modPanel k fun p =>
      { p with keyTaken := n, noted := if p.noted = some n || n ≠ p.keyTaken then some n else p.noted,
               key := match p.key with | some e => if e.eventNo = n then none else p.key | none => none }) s1
  { s2 with clk := { s2.clk with dmSaved := DmState.ofCode m.dm } }

/-- At takeover the timers go on from the last state received, advanced by the time since it was sent (R357). -/
def advanceBell (s : State) : State :=
  let n := (s.now - s.bell.peerAt) / 100000
  s.modBell fun b => { b with timer := b.timer.map (· - n), dmLeft := b.dmLeft - n, peerAt := s.now }

/-- HB_STATE_SYNC (R357): the duty unit sends its state once 1,000 ms have passed since the last message; its peer takes the
message that arrives. -/
def execHbStateSync (t : Nat) (m : BellMsg) (s : State) : Res :=
  let s1 := s.begin t
  if !s1.alive || !s1.paired then .next s1
  else if s1.onDuty then .next (if s1.bell.syncAt + 1000000 ≤ s1.now then sendBell s1 else s1)
  else .next (takeBell m s1)

end Sys2Proof.Machine
end

