-- ==== Sys2Proof/Machine/Ports.lean ====
section
/-! DEFINITION. The Ponor ports: what enables one, its state and the record of a change (R90, R427, Table 14.7). -/

namespace Sys2Proof.Machine

/-- BRIDGE_EN (R431). -/
def State.bridgeEn (s : State) : Bool := s.param 0x14000005 == 1

/-- Port p is enabled (Table 14.7, R90, Table 14.12). -/
def State.portEnabled (s : State) (p : Nat) : Bool :=
  hasBit (s.param 0x14000004) p && (decide (p < 2) || s.bridgeEn) && !(tget Sfp.none s.nd.sfp p).refused

/-- The state of port p: an enabled port of which nothing else is known is DOWN. -/
def State.portState (s : State) (p : Nat) : PortState :=
  if !s.portEnabled p then .disabled
  else match (s.port p).state with | .disabled => .down | x => x

/-- A port that forwards and receives frames other than LINK (R427). -/
def PortState.works : PortState → Bool
  | .up => true | .crossed => true | _ => false

/-- The code of Table 14.7. -/
def PortState.code : PortState → Nat
  | .disabled => 0 | .down => 1 | .silent => 2 | .miscabled => 3 | .cut => 4 | .up => 5 | .crossed => 6

/-- The PORT_STATE record of a port that was `old` and is now `st` (Table 14.10), none where it is the same. -/
def portRecord (p : Nat) (old st : PortState) (s : State) : State :=
  if old = st then s
  else submit .data 0x140 (le 1 p ++ le 1 st.code ++ le 1 old.code ++ le 1 0 ++ le 2 (s.port p).neighbour ++ le 2 0) s

/-- A port's state changed, with its PORT_STATE record (R427). -/
def setPortState (p : Nat) (st : PortState) (s : State) : State :=
  portRecord p (s.portState p) st (s.modPort p fun x => { x with state := st })

/-- Port p after a change of what enables it, `old` its state before: a change to or from DISABLED is recorded, and a port that is
disabled starts afresh once it is enabled (R427). -/
def followPort (p : Nat) (old : PortState) (s : State) : State :=
  let st := s.portState p
  portRecord p old st
    (if st = .disabled then s.modPort p fun x => { x with state := .disabled, sync := false, linkRun := 0 } else s)

/-- Every port after such a change; `s0` is the state before it. -/
def followPorts (s0 s : State) : State := [0, 1, 2, 3].foldl (fun x p => followPort p (s0.portState p) x) s

end Sys2Proof.Machine
end

