-- ==== Sys2Proof/Machine/Panels.lean ====
section
/-! DEFINITION. The panel buses: what panels are sent, and their replies (R352 to R356). -/

namespace Sys2Proof.Machine

/-- TAG of engineer e. -/
def State.engineerTag (s : State) (e : Nat) : List Byte := if e < 16 then le 16 (s.param (0x11010000 + 4 * e)) else []

/-- The unacknowledged point below group g that panels name (R353): the highest PRIORITY, the latest raised among equals. -/
def State.worstPoint (s : State) (g : Nat) : Option (Nat × PtRun) :=
  let c := s.treeCfg
  let ps := pointsWithin c g (usedPoints s.cfg.inForce)
  ps.foldl (fun b p =>
    let r := s.imgPt p
    if r.suppress ≠ 0 || !r.state.unack then b
    else match b with
      | none => some (p, r)
      | some (_, x) => if x.priority < r.priority || (x.priority = r.priority && x.raisedAt < r.raisedAt) then some (p, r) else b)
    none

/-- The unacknowledged system alarm of highest priority, the lowest number among equals. -/
def State.worstSys (s : State) : Option Nat :=
  (List.range 11).foldl (fun b k =>
    if !(s.sysAlarm k).unack then b
    else match b with
      | none => some k
      | some j => if sysPrio j < sysPrio k then some k else b) none

/-- The alarm tag of a panel (R353). -/
def State.alarmTag (s : State) (g : Nat) : List Byte :=
  let tag := match s.worstPoint g with | some (p, _) => le 16 (s.cf .pt p 19) | none => []
  let prio := match s.worstPoint g with | some (_, r) => r.priority | none => 0
  match s.worstSys with
  | some k => if prio < sysPrio k then ascii 16 (sysName k) else tag
  | none => tag

/-- DEAD_MAN is not NORMAL. -/
def State.deadMan (s : State) : Bool := s.sysAlarm 10 != .normal

/-- SOUNDER code and TEXT of slot k (Table 11.7, R353), before SILENCE. -/
def State.panelRow (s : State) (k : Nat) : Nat × List Byte :=
  let st := s.bell.stage
  let tag := s.alarmTag (s.slotGroup k)
  match s.slotField k 0 with
  | 3 =>
    (match st with
     | .idle => (0, if s.cabin s.bell.duty == some k then ascii 32 "ON DUTY" else [])
     | .stage1 => (0, [])
     | .stage2 => if s.calledSlot k then (2, tag) else (0, [])
     | .attend => (0, if s.calledSlot k then ascii 32 "ACCEPTED" else [])
     | .stage3 => (2, []))
  | 4 =>
    (match st with
     | .stage2 => (2, if s.bell.called < 16 then s.engineerTag s.bell.called else ascii 32 "ALL ENGINEERS")
     | .stage3 => (2, ascii 32 "ALL ENGINEERS")
     | _ => (0, []))
  | 5 =>
    (match st with
     | .idle => (0, [])
     | .stage1 => (0, ascii 32 "MACHINERY ALARM")
     | .stage2 => (0, ascii 32 "ENGINEER CALLED")
     | .attend => (0, ascii 32 "ENGINEER ATTENDING")
     | .stage3 => (4, ascii 32 (if s.deadMan then "DEAD MAN" else "ENGINEER NOT RESPONDING")))
  | _ =>
    let row : Nat × List Byte := match st with
      | .idle => (0, s.engineerTag s.bell.duty)
      | .stage3 => (if s.deadMan then 4 else 1, tag)
      | _ => (1, tag)
    if s.bell.dm = .prewarn && row.1 ≤ 1 then (3, row.2) else row

/-- LAMPS of slot k (Table 11.9, R353). -/
def State.panelLamps (s : State) (k : Nat) : Nat :=
  let e := tget GrpEntry.initial s.alarm.imgGrps (s.slotGroup k)
  bitsOf [decide (0 < e.unackCount) || decide (0 < e.activeCount), decide (0 < e.unackCount),
    s.bell.dm != .off, s.bell.dm == .prewarn || s.bell.dm == .expired, s.sysWord != 0]

/-- Ship time in seconds since 2000-01-01 (Table 11.9). -/
def State.shipSeconds (s : State) : Nat := ((s.clk.clock / 1000000 : Nat) + 60 * s.zone).toNat % 4294967296

/-- The STATUS payload for slot k (Table 11.9). -/
def statusPayload (s : State) (k : Nat) : List Byte :=
  let (snd, text) := s.panelRow k
  let p := s.panel k
  let e := tget GrpEntry.initial s.alarm.imgGrps (s.slotGroup k)
  le 1 s.bell.stage.code ++ le 1 (if p.silenced then 0 else snd) ++ le 1 (s.panelLamps k) ++ le 1 s.bell.dm.code ++
    le 4 s.nd.regAlarm.flip ++ le 2 e.unackCount ++ le 2 e.activeCount ++ le 1 s.bell.duty ++ le 1 e.unackPrio ++
    le 1 p.keyTaken ++ le 1 p.keyResult ++ le 2 (s.bell.dmLeft / 10) ++ le 2 0 ++ le 4 s.shipSeconds ++ fit 32 text

/-- A panel bus frame (Table 11.8). -/
def panelFrame (addr type seq : Nat) (pl : List Byte) : List Byte :=
  let b := le 1 0xA5 ++ le 1 addr ++ le 1 type ++ le 1 seq ++ le 1 pl.length ++ pl
  b ++ le 2 (crc16Run 0x1021#16 0xFFFF#16 b).toNat

/-- The node transmits on the panel buses: its duty unit, which a solo unit always is (R84, R343). -/
def State.polls (s : State) : Bool := s.mgmtUp && s.hbOn && (s.onDuty || !s.paired)

/-- The slots polled on a bus, in ascending order (R354). -/
def State.busSlots (s : State) (busB : Bool) : List Nat :=
  (List.range 64).filter fun k => s.slotField k 0 != 0 && hasBit (s.slotField k 1) (bit busB)

/-- The next slot of a bus: the first from `from_` on, then the first of all. -/
def State.nextSlot (s : State) (busB : Bool) (from_ : Nat) : Option Nat :=
  match (s.busSlots busB).find? (from_ ≤ ·) with
  | some k => some k
  | none => (s.busSlots busB).head?

/-- The STATUS frame that waits for its reply on a bus. -/
def BellSt.wait (b : BellSt) (busB : Bool) : Option PanelWait := if busB then b.waitB else b.waitA

/-- `s` with the wait of a bus replaced. -/
def setWait (busB : Bool) (w : Option PanelWait) (s : State) : State :=
  s.modBell fun b => if busB then { b with waitB := w } else { b with waitA := w }

/-- A character on a panel bus, µs, rounded up: 8 data bits, no parity, 1 stop bit (R354). -/
def State.charTime (s : State) (busB : Bool) : Nat := (10000000 + s.hb (16 + bit busB) - 1) / s.hb (16 + bit busB)

/-- A frame has ended on a bus at this time. -/
def frameEnd (busB : Bool) (s : State) : State :=
  s.modBell fun b => if busB then { b with busEndB := s.now } else { b with busEndA := s.now }

/-- A STATUS frame of 63 characters that ends now began at least four character times after the last frame (R354). -/
def State.gapKept (s : State) (busB : Bool) : Bool :=
  decide ((if busB then s.bell.busEndB else s.bell.busEndA) + 67 * s.charTime busB ≤ s.now)

/-- PANEL_POLL (R354): the STATUS frame to the next slot ends. -/
def execPanelPoll (t : Nat) (busB : Bool) (s : State) : Res :=
  let s1 := s.begin t
  let b := s1.bell
  if !s1.polls || (b.wait busB).isSome || !s1.gapKept busB then .next s1
  else
    match s1.nextSlot busB (if busB then b.nextB else b.nextA) with
    | none => .next s1
    | some k =>
      let seq := if busB then b.seqB else b.seqA
      let s2 := s1.emit (.panel busB (panelFrame (s1.slotField k 2) 1 seq (statusPayload s1 k)))
      let s3 := s2.modBell fun b =>
        if busB then { b with nextB := k + 1, seqB := (seq + 1) % 256 } else { b with nextA := k + 1, seqA := (seq + 1) % 256 }
      .next (frameEnd busB (setWait busB (some ⟨k, seq, s1.now⟩) s3))

/-- Every bus the slot names has failed three times in a row (R355). -/
def PanelRun.dead (buses : Nat) (p : PanelRun) : Bool :=
  buses != 0 && (!hasBit buses 0 || decide (3 ≤ p.failA)) && (!hasBit buses 1 || decide (3 ≤ p.failB))

/-- A poll of the slot counted on a bus (R355): a slot that is missing returns after three passed polls. -/
def PanelRun.polled (busB pass : Bool) (buses : Nat) (p : PanelRun) : PanelRun :=
  let p1 := if busB then
      { p with failB := if pass then 0 else min 3 (p.failB + 1), okB := if pass then min 3 (p.okB + 1) else 0 }
    else { p with failA := if pass then 0 else min 3 (p.failA + 1), okA := if pass then min 3 (p.okA + 1) else 0 }
  { p1 with missing := if p1.missing then !(decide (3 ≤ p1.okA) || decide (3 ≤ p1.okB)) else p1.dead buses }

/-- A poll of slot k ends. -/
def endPoll (busB pass : Bool) (k : Nat) (s : State) : State :=
  sysUpdate ((setWait busB none s).modPanel k (·.polled busB pass (s.slotField k 1)))

/-- A REPLY frame is sound and answers the STATUS frame (Table 11.8). -/
def replyGood (addr seq : Nat) (bs : List Byte) : Bool :=
  bs.length == 15 && bs == panelFrame addr 0x81 seq (slice bs 5 8)

/-- A good reply of the slot's class (Table 11.10, R356): a key event is noted once. -/
def panelSays (k : Nat) (pl : List Byte) (s : State) : State :=
  let no := byteAt pl 2
  s.modPanel k fun p =>
    match Key.ofCode (byteAt pl 3) with
    | some key => if p.noted = some no then p else { p with noted := some no, key := some ⟨no, key, fieldAt pl 4 4⟩ }
    | none => p

/-- A reply of another class makes the slot missing; no poll of it has passed (R355, R356). -/
def classWrong (k : Nat) (s : State) : State :=
  s.modPanel k fun p => { p with missing := true, okA := 0, okB := 0 }

/-- The reply of slot k to the STATUS frame `w`, its frame ended now, is in its window (R354). -/
def State.inWindow (s : State) (busB : Bool) (w : PanelWait) : Bool :=
  let c := s.charTime busB
  decide (w.sentAt + 50 + 15 * c ≤ s.now) && decide (s.now ≤ w.sentAt + 1000 + 17 * c)

/-- A reply taken: a failed poll where it is not sound or lies outside its window. -/
def takeReply (busB : Bool) (w : PanelWait) (bytes : List Byte) (s : State) : State :=
  if !s.inWindow busB w || !replyGood (s.slotField w.slot 2) w.seq bytes then endPoll busB false w.slot s
  else if byteAt bytes 5 != s.slotField w.slot 0 then sysUpdate (classWrong w.slot (setWait busB none s))
  else endPoll busB true w.slot (panelSays w.slot (slice bytes 5 8) s)

/-- PANEL_REPLY: t is the end of its frame. -/
def execPanelReply (t : Nat) (busB : Bool) (bytes : List Byte) (s : State) : Res :=
  let s1 := s.begin t
  if !s1.polls then .next s1
  else
    match s1.bell.wait busB with
    | none => .next s1
    | some w => .next (takeReply busB w bytes (frameEnd busB s1))

/-- PANEL_REPLY_TIMEOUT: the window has passed without a reply (R354). -/
def execPanelReplyTimeout (t : Nat) (busB : Bool) (s : State) : Res :=
  let s1 := s.begin t
  match s1.bell.wait busB with
  | none => .next s1
  | some w =>
    if s1.mgmtUp && w.sentAt + 1000 + 2 * s1.charTime busB ≤ s1.now then .next (endPoll busB false w.slot s1) else .next s1

end Sys2Proof.Machine
end

