-- ==== Sys2Proof/Machine/Granary.lean ====
section
/-! DEFINITION. The Granary (chapter 12), and the pending notification items that its intake makes (R548 to R551). -/

namespace Sys2Proof.Machine

/-- The source that a record feeds (Table 19.1), none for a code that feeds none. -/
def sourceOf (code : Nat) (pl : List Byte) : Option Nat :=
  let b := fieldAt pl 0 2 / 32
  if code = 0x012 then some 0
  else if code = 0x010 then some 1
  else if code = 0x011 then some 2
  else if code = 0x013 then some 3
  else if code = 0x014 then some 4
  else if code = 0x015 then some 5
  else if code = 0x047 then some (32 + b)
  else if code = 0x040 then some (48 + b)
  else if code = 0x041 || code = 0x042 then some (64 + b)
  else if 0x043 ≤ code && code ≤ 0x046 then some (80 + b)
  else if code = 0x060 then some (96 + byteAt pl 0)
  else if code = 0x080 then some 128
  else if code = 0x081 then some 129
  else if code = 0x082 then some 130
  else if 0x001 ≤ code && code ≤ 0x005 then some 160
  else if code = 0x100 || code = 0x101 || code = 0x104 then some 161
  else if code = 0x102 then some 162
  else if code = 0x103 then some 163
  else if code = 0x1C0 || code = 0x1C3 then some 164
  else if code = 0x1C1 then some 165
  else if code = 0x1C2 then some 166
  else if code = 0x140 then some 192
  else if code = 0x141 || code = 0x142 then some 193
  else if code = 0x143 then some 194
  else if code = 0x144 then some 195
  else if code = 0x145 then some 196
  else if code = 0x180 then some 197
  else if code = 0x181 then some 198
  else if code = 0x182 then some 199
  else if code = 0x200 then some 224
  else if code = 0x240 then some 232
  else if code = 0x241 then some 233
  else if code = 0x242 then some 234
  else none

/-- A pending item after an event on its source (R551). -/
def PendingItem.merge (e : PendingItem) (i : PendingItem) : PendingItem :=
  { i with code := e.code, count := satAdd 65535 i.count 1, noRecord := e.noRecord, seq := e.seq, time := e.time,
           detail := e.detail }

/-- The items after an event: a new item in ascending SOURCE, or the one pending updated (R550, R551). -/
def raiseItem (e : PendingItem) : List PendingItem → List PendingItem
  | [] => [e]
  | i :: is =>
    if i.source = e.source then e.merge i :: is
    else if e.source < i.source then e :: i :: is else i :: raiseItem e is

/-- An event reaches every session that subscribes its source (R550). -/
def raiseSource (src code : Nat) (seq : Option Nat) (time : Micros) (detail : List Byte) (s : State) : State :=
  (List.range 8).foldl (fun s k =>
    let ss := s.sess k
    if ss.state = .free || !hasBit ss.sub src then s
    else
      let held := hasBit ss.hold src
      let e : PendingItem := ⟨src, code, 1, seq.isNone, seq.getD 0, time, fit 16 detail, held, s.now⟩
      let s1 := s.modSess k fun x => { x with items := raiseItem e x.items }
      if ss.items.any (·.source == src) then s1.count 15 1 else s1) s

/-- A record raises its source at the intake (R548). -/
def notifyRecord (r : Submission) (seq : Option Nat) (s : State) : State :=
  match sourceOf r.code r.payload with
  | some src => raiseSource src r.code seq r.time r.payload s
  | none => s

/-- LEN of a record (R360). -/
def recLen (pl : List Byte) : Nat := 16 + pad4 pl.length

/-- A record's bytes (Tables 12.2, R361). -/
def recBytes (r : GrnRec) : List Byte :=
  let n := recLen r.payload
  let head := le 2 ((n / 4 - 1) * 1024 + r.code)
  let rest := le 4 r.seq ++ le 8 r.time ++ fit (n - 16) r.payload
  head ++ le 2 ((crc16Run 0x1021#16 0xFFFF#16 (head ++ rest)).toNat % 32768) ++ rest

/-- The codes that are never suppressed (R370). -/
def exempt (code : Nat) : Bool := (rateDefault code).isNone

/-- Bytes of the records in a list. -/
def recsBytes (rs : List (Micros × GrnRec)) : Nat := rs.foldl (fun a x => a + recLen x.2.payload) 0

/-- Bytes in staging. -/
def GranarySt.stagedBytes (g : GranarySt) : Nat := recsBytes g.staged

/-- RATE of a code, a quarter of it under RESTRAINT (R380). -/
def State.grnRate (s : State) (code : Nat) : Rat :=
  let r := (s.param (0x12100000 + 4 * code) : Rat)
  if s.grn.restraint then r / 4 else r

/-- DEPTH of a code. -/
def State.grnDepth (s : State) (code : Nat) : Rat := (s.param (0x12100001 + 4 * code) : Rat)

/-- A full bucket. -/
def State.fullBucket (s : State) (code : Nat) : Bucket := ⟨s.grnDepth code, s.node / 1000, false, 0, 0, 0, 0⟩

/-- The bucket of a code at millisecond `ms` of node time, refilled (R368). -/
def State.bucketAt (s : State) (code ms : Nat) : Bucket :=
  match tfind s.grn.buckets code with
  | none => s.fullBucket code
  | some b =>
    if ms ≤ b.at_ then b
    else
      let v := b.tokens + s.grnRate code * ((ms - b.at_ : Nat) : Rat) / 1000
      { b with tokens := if s.grnDepth code < v then s.grnDepth code else v, at_ := ms }

/-- `s` with the bucket of a code replaced. -/
def setBucket (code : Nat) (b : Bucket) (s : State) : State :=
  { s with grn := { s.grn with buckets := tput code b s.grn.buckets } }

/-- A record suppressed (R368, R369). -/
def suppressRec (r : Submission) (b : Bucket) (s : State) : State :=
  let b1 : Bucket :=
    { b with flood := true, since := if b.flood then b.since else s.now, suppressed := b.suppressed + 1,
             tFirst := if b.suppressed = 0 then r.time else b.tFirst, tLast := r.time }
  let s1 := setBucket r.code b1 s
  notifyRecord r none { s1 with grn := { s1.grn with suppressed := wrap32 (s1.grn.suppressed + 1) } }

/-- A numbered record put into staging; the number after it is the next, in backup RAM too (R365, R366). -/
def stageRec (rc : GrnRec) (s : State) : State :=
  let next := wrap32 (rc.seq + 1)
  let g := { s.grn with staged := s.grn.staged ++ [(s.now, rc)], nextSeq := next }
  { s with grn := { g with stagedPeak := max g.stagedPeak g.stagedBytes }
           clk := { s.clk with nextSeq := next, seqIntact := true } }

/-- Staging that reaches 3 MiB breaks a freeze (R374). -/
def breakFreeze (s : State) : State := if 3145728 ≤ s.grn.stagedBytes then endFreeze 4 s else s

/-- The next SEQ assigned to a record, which goes into staging and, in a pair, to the peer (R365, R446). -/
def assignRec (r : Submission) (s : State) : State :=
  let seq := s.grn.nextSeq
  let rc : GrnRec := ⟨r.code, seq, r.time, r.payload⟩
  let s1 := (stageRec rc s).count 16 1
  let s2 := if s1.paired then s1.emit (.peer 5 (recBytes rc)) else s1
  breakFreeze (notifyRecord r (some seq) s2)

/-- Staging has room for a record (R366). -/
def State.stageRoom (s : State) (r : Submission) : Bool :=
  decide (s.grn.stagedBytes + recLen r.payload ≤ (if exempt r.code then 4194304 else 4194304 - 65536))

/-- The intake's decision on a record (R365 to R370); none where staging has no room for it. -/
def intakeRec (r : Submission) (s : State) : Option State :=
  if exempt r.code then if s.stageRoom r then some (assignRec r s) else none
  else
    let b := s.bucketAt r.code (s.node / 1000)
    if b.tokens < 1 then some (suppressRec r b s)
    else if s.stageRoom r then some (assignRec r (setBucket r.code { b with tokens := b.tokens - 1 } s)) else none

/-- Sector k. -/
def State.sector (s : State) (k : Nat) : Sector := tget Sector.initial s.grn.sectors k

/-- The granary with sector k changed. -/
def GranarySt.modSector (g : GranarySt) (k : Nat) (f : Sector → Sector) : GranarySt :=
  { g with sectors := tmod Sector.initial g.sectors k f }

/-- Bytes of a sector. -/
def sectorSize : Nat := 131072

/-- A sector header (Table 12.1), its HDR_CHECK over the 28 bytes before it. -/
def sectorHeader (openNo erases first : Nat) (tOpen : Micros) (k : Nat) : List Byte :=
  let h := le 4 0x5A3C96A5 ++ le 4 openNo ++ le 4 erases ++ le 4 first ++ le 8 tOpen ++ le 2 k ++ le 2 0
  h ++ le 4 (crc32 h)

/-- A sector's header stands and passes HDR_CHECK (R376). -/
def Sector.good (x : Sector) : Bool :=
  x.header.length == 32 && fieldAt x.header 0 4 == 0x5A3C96A5 && fieldAt x.header 28 4 == crc32 (x.header.take 28)

/-- OPEN_NO of a sector's header. -/
def Sector.openNo (x : Sector) : Nat := fieldAt x.header 4 4

/-- A sector erased (R378, R379). -/
def GranarySt.erase (g : GranarySt) (k : Nat) : GranarySt :=
  let n := (tget Sector.initial g.sectors k).erases + 1
  { g.modSector k (fun _ => { Sector.initial with erases := n }) with
    eraseTotal := g.eraseTotal + 1, maxErases := max g.maxErases n }

/-- Sector k opened for records from `first` on (Table 12.1); what the erase due has not yet done is done. -/
def GranarySt.openSector (g : GranarySt) (k first : Nat) (node now : Micros) : GranarySt :=
  let g1 := if (tget Sector.initial g.sectors k).header.isEmpty then g else g.erase k
  let g2 := g1.modSector k fun x =>
    { x with header := sectorHeader g1.openings x.erases first node k, records := [], used := 32 }
  { g2 with sector := k, openings := wrap32 (g1.openings + 1), eraseDue := some now }

/-- The sectors that hold records, those whose header is good (R376), in the order of their opening: from the one after the present
one on. -/
def GranarySt.sectorOrder (g : GranarySt) : List Sector :=
  let ss := g.sectors.filter (·.2.good)
  ((ss.filter fun x => g.sector < x.1) ++ (ss.filter fun x => x.1 ≤ g.sector)).map (·.2)

/-- The records of the store, in SEQ order. -/
def GranarySt.stored (g : GranarySt) : List GrnRec := g.sectorOrder.flatMap (·.records)

/-- Every record held, in SEQ order. -/
def GranarySt.all (g : GranarySt) : List GrnRec := g.stored ++ g.staged.map (·.2)

/-- OLDEST and NEWEST, none where no record is held. -/
def GranarySt.range (g : GranarySt) : Option (Nat × Nat) :=
  match g.all.head?, g.all.getLast? with
  | some a, some b => some (a.seq, b.seq)
  | _, _ => none

/-- OLDEST and NEWEST as reported; with no record held the manual gives neither, and they are free (log 31). -/
def State.grnRange (s : State) : (Nat × Nat) × State :=
  match s.grn.range with
  | some r => (r, s)
  | none =>
    let (k, s1) := s.draw
    ((wrap32 (Config.freeNat k), wrap32 (Config.freeNat (k + 1))), { s1 with free := s1.free + 1 })

/-- The two neighbours of a sector. -/
def sectorNeighbours (k : Nat) : List Nat := [(k + 767) % 768, (k + 1) % 768]

/-- ERASES of an erased sector, which has no header, as recovery sets it (R376): one above the higher count of the neighbours that
have a header; its own where neither has one (log 229). -/
def GranarySt.erasesFound (g : GranarySt) (k : Nat) (x : Sector) : Nat :=
  let ns := ((sectorNeighbours k).map fun j => tget Sector.initial g.sectors j).filter (·.good)
  if !x.header.isEmpty || ns.isEmpty then x.erases else ns.foldl (fun a y => max a y.erases) 0 + 1

/-- The sectors' counts of erases as recovery finds them (R376). -/
def GranarySt.recount (g : GranarySt) : GranarySt :=
  (List.range 768).foldl (fun h k =>
    let n := g.erasesFound k (tget Sector.initial g.sectors k)
    { h.modSector k (fun x => { x with erases := n }) with maxErases := max h.maxErases n }) g

/-- The numbers of the gap that a recovery names, 0 for both where none exists (R377). -/
def seqGap (intact : Bool) (newest : Option Nat) (next : Nat) : Nat × Nat :=
  match newest with
  | some n => if next = wrap32 (n + 1) then (0, 0) else (wrap32 (n + 1), wrap32 (next + 4294967295))
  | none => if intact && next != 0 then (0, next - 1) else (0, 0)

/-- The newest sector: the one with the latest OPEN_NO and a good header (R376 step 1). -/
def GranarySt.newest (g : GranarySt) : Option (Nat × Sector) :=
  (g.sectors.filter (·.2.good)).foldl (fun a x =>
    match a with
    | some y => if seqDiff x.2.openNo y.2.openNo < 2147483648 then some x else a
    | none => some x) none

/-- The next SEQ after a COLD or POR reset, and whether it comes from the store (R377). -/
def State.recoverNext (s : State) : Nat × Bool :=
  if s.clk.brMagic && s.clk.seqIntact then (s.clk.nextSeq, false)
  else (match s.grn.stored.getLast? with | some n => wrap32 (n.seq + 1048577) | none => 0, true)

/-- The Granary as a COLD or POR reset leaves it (Tables 3.12, 12.8): ports, staging, buckets, freeze and counts go, the store stays
and is to be recovered, and the next SEQ stands (R377). -/
def GranarySt.cold (g : GranarySt) (next : Nat × Bool) : GranarySt :=
  { g with ports := [], staged := [], stagedPeak := 0, buckets := [], freeze := none, suppressed := 0, lost := 0, torn := 0,
           urgent := false, restraint := false, recovering := true, nextSeq := next.1, fromStore := next.2 }

/-- The store recovered after a COLD or POR reset (R376, R377), with the RECOVERY record. The records that a cut left without their
commit pass are torn; those submitted since the reset stand in staging. -/
def recoverStore (s : State) : State :=
  let g := s.grn
  let from_ := match g.staged with | x :: _ => x.2.seq | [] => g.nextSeq
  let gap := seqGap (!g.fromStore) (g.stored.getLast?.map (·.seq)) from_
  let torn := g.bodies + bit (decide (0 < g.carry))
  let g0 := { g.recount with bodies := 0, carry := 0, torn := torn, recovering := false }
  let (k, no) := match g.newest with
    | some x => ((x.1 + 1) % 768, wrap32 (x.2.openNo + 1))
    | none => (g.sector, g.openings)
  let g1 := ({ g0 with openings := no } : GranarySt).openSector k from_ s.node s.now
  let r := ({ s with grn := g1 } : State).grnRange
  submit .management 0x005
    (le 1 s.nd.resetKind.code ++ le 1 (bit g.fromStore) ++ le 2 torn ++ le 4 gap.1 ++ le 4 gap.2 ++ le 4 r.1.1 ++ le 2 k ++ le 2 0) r.2

/-- The store as recovered, where it still is to be after a reset (R376). -/
def recovered (s : State) : State := if s.grn.recovering then recoverStore s else s

/-- `s` with the records of an intake port replaced. -/
def setPort (port : Nat) (p : PortRun) (s : State) : State :=
  { s with grn := { s.grn with ports := tset PortRun.initial s.grn.ports port p } }

/-- Time with the logic domain on, µs (R380). -/
def State.onMicros (s : State) : Nat :=
  s.nd.power.opMicros + (match s.nd.power.onSince with | some a => s.now - a | none => 0)

/-- The wear budget line B (R380). -/
def State.budget (s : State) : Nat := 1073741824 + 8192 * s.onMicros / 1000000

/-- The WEAR record (Table 12.3). -/
def wearRecord (s : State) : State :=
  submit .management 0x004 (le 8 s.grn.charged ++ le 4 s.grn.maxErases ++ le 1 (bit s.grn.restraint) ++ le 3 0) s

/-- Every bucket refilled up to this millisecond, before RESTRAINT changes what a second brings (R368, R380). -/
def settleBuckets (s : State) : State :=
  { s with grn := { s.grn with buckets := s.grn.buckets.map fun x => (x.1, s.bucketAt x.1 (s.node / 1000)) } }

/-- RESTRAINT begun or ended, with its record (R380). -/
def setRestraint (on : Bool) (s : State) : State :=
  let s1 := settleBuckets s
  wearRecord { s1 with grn := { s1.grn with restraint := on } }

/-- RESTRAINT follows the budget (R380). -/
def wearStep (s : State) : State :=
  let excess := s.budget < s.grn.charged
  let under := s.grn.charged + 67108864 ≤ s.budget
  if excess && !s.grn.restraint then setRestraint true s
  else if under && s.grn.restraint then setRestraint false s
  else s

/-- GRANARY_SUBMIT: the oldest record of a port reaches the intake; in the unit that does not assign numbers it goes to the
peer's intake (R446). -/
def execGranarySubmit (t : Nat) (port : Fin 4) (s : State) : Res :=
  let s0 := s.begin t
  let s1 := if s0.alive then wearStep s0 else s0
  let p := tget PortRun.initial s1.grn.ports port.val
  match p.queue with
  | [] => .next s1
  | r :: rest =>
    if !s1.alive then .next s1
    else
      let s2 := setPort port.val { p with queue := rest } s1
      if s1.executes then .next ((intakeRec r s2).getD s1)
      else .next (s2.emit (.peer 6 (recBytes ⟨r.code, 0, r.time, r.payload⟩)))

/-- The LOSS record of a code at a port (R38, Table 12.3). -/
def lossRecord (port code count time : Nat) : Submission :=
  ⟨0x001, time, le 2 code ++ le 1 port ++ le 1 0 ++ le 4 count⟩

/-- LOSS records of every refused code, while the port has space. -/
def lossRecords (port node : Nat) : List (Nat × Nat) → PortRun × Nat → PortRun × Nat
  | [], x => x
  | (code, n) :: rest, (p, lost) =>
    if p.queue.length < 256 then
      lossRecords port node rest
        (⟨p.queue ++ [lossRecord port code n node], tdel code p.refused⟩, lost + n)
    else lossRecords port node rest (p, lost)

/-- LOSS_RECORD (R38). -/
def execLossRecord (t : Nat) (port : Fin 4) (s : State) : Res :=
  let s1 := s.begin t
  let p := tget PortRun.initial s1.grn.ports port.val
  if !s1.alive then .next s1
  else
    let (p1, lost) := lossRecords port.val s1.node p.refused (p, 0)
    let s2 := setPort port.val p1 s1
    .next { s2 with grn := { s2.grn with lost := wrap32 (s2.grn.lost + lost) } }

/-- What one page takes of the staged records: whole records, the rest of staging, and the bytes of its first record that the
page holds (R360, R367). `left` is what the page has left, `room` what the sector has left. -/
def fillPage (room : Nat) : Nat → Nat → List (Micros × GrnRec) → List GrnRec → List GrnRec × List (Micros × GrnRec) × Nat
  | _, carry, [], out => (out, [], carry)
  | left, carry, x :: xs, out =>
    let n := recLen x.2.payload - carry
    if carry = 0 && room < n then (out, x :: xs, 0)
    else if n ≤ left then fillPage (room - n) (left - n) 0 xs (out ++ [x.2])
    else (out, x :: xs, carry + left)

/-- The sector that the next page goes into, opened where the present one has no room for the oldest staged record. -/
def GranarySt.readySector (g : GranarySt) (node now : Micros) : GranarySt :=
  match g.staged with
  | [] => g
  | x :: _ =>
    let c := tget Sector.initial g.sectors g.sector
    if g.carry = 0 && (!c.good || sectorSize < c.used + recLen x.2.payload) then
      g.openSector (if c.good then (g.sector + 1) % 768 else g.sector) x.2.seq node now
    else g

/-- One page programmed (R362, R367): the body pass gives it what fits and closes it. The commit pass then follows for every page
whose last record is whole: a page whose last record goes on in the next waits for that page's body pass, and its records stay
staged until then. -/
def GranarySt.programPage (g0 : GranarySt) (node now : Micros) : GranarySt :=
  let g := g0.readySector node now
  if g.staged.isEmpty then g
  else
    let c := tget Sector.initial g.sectors g.sector
    let (done, _, carry) := fillPage (sectorSize - c.used) (512 - c.used % 512) g.carry (g.staged.drop g.bodies) []
    let whole := g.bodies + done.length
    let commits := if carry = 0 then whole else if g.carry = 0 then 0 else g.bodies + 1
    let g1 := g.modSector g.sector fun x =>
      { x with records := x.records ++ (g.staged.take commits).map (·.2), used := (x.used / 512 + 1) * 512 }
    { g1 with staged := g1.staged.drop commits, bodies := whole - commits, carry := carry, charged := g1.charged + 512 }

/-- Staging holds enough records to fill the next page, or to close the sector. -/
def GranarySt.pageFull (g : GranarySt) : Bool :=
  let c := tget Sector.initial g.sectors g.sector
  let left := if c.good && decide (c.used < sectorSize) then 512 - c.used % 512 else 480
  decide (left + g.carry ≤ recsBytes (g.staged.drop g.bodies))

/-- The drain may program: no freeze, the store recovered, and the reset threshold not confirmed (R101, R373, R376). -/
def State.drains (s : State) : Bool :=
  s.logicOn && !s.held && s.grn.freeze.isNone && !s.grn.recovering && s.nd.power.resetAt.isNone && !s.nd.mgmtStalled

/-- One page programmed by the drain. -/
def drainPage (s : State) : State := wearStep { s with grn := s.grn.programPage s.node s.now }

/-- GRANARY_DRAIN_PAGE (R367). -/
def execGranaryDrainPage (t : Nat) (s : State) : Res :=
  let s1 := s.begin t
  if s1.drains && s1.grn.pageFull then .next (drainPage s1) else .next s1

/-- The flush time of R367, µs. -/
def State.flushTime (s : State) : Nat := if s.grn.restraint then 1000000 else 100000

/-- The drain programs at once: HOLD, after the seat contact opens (R367). -/
def State.drainsAtOnce (s : State) : Bool := s.nd.seatOpen || decide (s.nd.mode = .hold)

/-- GRANARY_FLUSH: a page is programmed partly full. -/
def execGranaryFlush (t : Nat) (s : State) : Res :=
  let s1 := s.begin t
  match s1.grn.staged.drop s1.grn.bodies with
  | [] => .next s1
  | x :: _ =>
    if s1.drains && (s1.drainsAtOnce || decide (x.1 + s1.flushTime ≤ s1.now)) then .next (drainPage s1) else .next s1

/-- Every staged record programmed: before a commanded reset or switch-off (R112, R119). Each page takes at least one record
or a part of one, so `n` pages are enough for n staged 8-byte units. -/
def drainAll : Nat → State → State
  | 0, s => s
  | n + 1, s => if s.grn.staged.isEmpty then s else drainAll n (drainPage s)

/-- Staging written to the store. -/
def writeStaging (s : State) : State := drainAll (s.grn.stagedBytes + s.grn.staged.length) s

/-- SECTOR_ERASE (R378). -/
def execSectorErase (t : Nat) (s : State) : Res :=
  let s1 := s.begin t
  if s1.grn.eraseDue.isSome && s1.drains then
    .next { s1 with grn := { s1.grn.erase ((s1.grn.sector + 1) % 768) with eraseDue := none } }
  else .next s1

/-- The SUMMARY record of a code (R369); with nothing suppressed since the last, its times are free. -/
def summaryRecord (code : Nat) (b : Bucket) (s : State) : State :=
  let (k, s1) := s.draw
  let (f, l) := if b.suppressed = 0 then (Config.freeNat k, Config.freeNat (k + 1)) else (b.tFirst, b.tLast)
  submit .management 0x002 (le 2 code ++ le 2 0 ++ le 4 b.suppressed ++ le 8 f ++ le 8 l)
    (setBucket code { b with suppressed := 0, since := s.now } { s1 with free := s1.free + 1 })

/-- FLOOD_END: the last whole second found the bucket of a code in flood full (R369). -/
def execFloodEnd (t : Nat) (code : Fin 1024) (s : State) : Res :=
  let s1 := s.begin t
  let ms := s1.node / 1000000 * 1000
  match tfind s1.grn.buckets code.val with
  | none => .next s1
  | some b =>
    let full := s1.bucketAt code.val ms
    if s1.alive && b.flood && b.at_ ≤ ms && decide (s1.grnDepth code.val ≤ full.tokens) then
      .next (summaryRecord code.val { full with flood := false } s1)
    else .next s1

/-- FLOOD_SUMMARY: 60 s have passed since the flood began or since its last SUMMARY. -/
def execFloodSummary (t : Nat) (code : Fin 1024) (s : State) : Res :=
  let s1 := s.begin t
  match tfind s1.grn.buckets code.val with
  | none => .next s1
  | some b =>
    if s1.alive && b.flood && b.since + 60000000 ≤ s1.now then .next (summaryRecord code.val b s1) else .next s1

/-- The freeze stands and `p` holds of it: it ends with an EVENT (R374). -/
def freezeEnds (t event : Nat) (p : Freeze → State → Bool) (s : State) : Res :=
  let s1 := s.begin t
  match s1.grn.freeze with
  | none => .next s1
  | some f => if s1.alive && p f s1 then .next (endFreeze event s1) else .next s1

/-- GRN_LEASE_EXPIRE. -/
def execGrnLeaseExpire (t : Nat) (s : State) : Res := freezeEnds t 3 (fun f s => decide (f.lease + 2000000 ≤ s.now)) s

/-- GRN_FREEZE_LIMIT. -/
def execGrnFreezeLimit (t : Nat) (s : State) : Res := freezeEnds t 6 (fun f s => decide (f.began + 60000000 ≤ s.now)) s

/-- WEAR_REPORT (R379). -/
def execWearReport (t : Nat) (s : State) : Res :=
  let s1 := s.begin t
  if s1.alive && s1.grn.wearAt + 86400000000 ≤ s1.now then
    .next (wearStep (wearRecord { s1 with grn := { s1.grn with wearAt := s1.now } }))
  else .next s1

/-- SEQ a lies before SEQ b (R365). -/
def seqBefore (a b : Nat) : Bool := decide (2147483648 ≤ seqDiff a b)

/-- LEASE_LEFT, ms. -/
def State.leaseLeft (s : State) : Nat :=
  match s.grn.freeze with | some f => (f.lease + 2000000 - s.now) / 1000 | none => 0

/-- Codes in flood. -/
def GranarySt.floods (g : GranarySt) : Nat := (g.buckets.filter (·.2.flood)).length

/-- WEAR_PCT (R379). -/
def GranarySt.wearPct (g : GranarySt) : Rat := (g.eraseTotal : Rat) / 768 / 1000

/-- GRN_STATUS's own part (Table 12.8). -/
def grnStatusBody (_tk : Ticket) (pl : List Byte) (s : State) : Nat × List Byte × State :=
  if !pl.isEmpty then (stParam, [], s)
  else
    let ((lo, hi), s1) := (wearStep s).grnRange
    let g := s1.grn
    (stDone, le 4 lo ++ le 4 hi ++ le 4 g.stagedBytes ++ le 4 g.stagedPeak ++ le 1 (bit g.freeze.isSome) ++
      le 1 ((g.freeze.map (·.holder)).getD 255) ++ le 2 s1.leaseLeft ++ le 4 ((g.freeze.map (·.newest)).getD 0) ++
      le 8 g.charged ++ le 8 s1.budget ++ le 4 g.eraseTotal ++ le 4 g.maxErases ++ f32Bytes g.wearPct ++
      le 1 (bit g.restraint) ++ le 1 0 ++ le 2 g.floods ++ le 4 g.suppressed ++ le 4 g.lost ++ le 4 g.torn, s1)

/-- GRN_STATUS. -/
def execGrnStatus (rq : Request) (s : State) : Res := answerNow 0x1201 rq grnStatusBody s

/-- Whole records while they fit in `room` bytes. -/
def takeRecs : Nat → List GrnRec → List GrnRec
  | _, [] => []
  | room, r :: rs => if recLen r.payload ≤ room then r :: takeRecs (room - recLen r.payload) rs else []

/-- The freeze that session k holds. -/
def State.freezeOf (s : State) (k : Nat) : Option Freeze :=
  match s.grn.freeze with | some f => if f.holder = k then some f else none | none => none

/-- GRN_READ's own part (R371 to R374, Table 12.7). FIRST_SEQ of an empty reply is free (log 31). -/
def grnReadBody (tk : Ticket) (pl : List Byte) (s : State) : Nat × List Byte × State :=
  let start := fieldAt pl 0 4
  let room := fieldAt pl 4 2
  let top := if hasBit tk.flags flagAuth then 972 else 1004
  if pl.length ≠ 6 || room < 16 || 1004 < room then (stParam, [], s)
  else
    let fz := s.freezeOf tk.session
    let ((lo0, hi0), s1) := s.grnRange
    let (lo, hi) := match fz with | some f => (f.oldest, f.newest) | none => (lo0, hi0)
    let past := s.grn.range.isNone || seqBefore hi start
    let early := seqBefore start lo
    let recs := if past then [] else
      takeRecs (min room top) (s.grn.all.filter fun r => !seqBefore r.seq start && !seqBefore hi r.seq && !seqBefore r.seq lo)
    let result := if past then 2 else if early then 1 else 0
    let (k, s2) := s1.draw
    let first := match recs with | r :: _ => r.seq | [] => wrap32 (Config.freeNat k)
    let isEnd := match recs.getLast? with | some r => r.seq == hi | none => false
    let gap := result == 0 && !recs.isEmpty && first != start
    let s3 : State := match fz with
      | some f => { s2 with grn := { s2.grn with freeze := some { f with lease := s2.now } } }
      | none => s2
    (stDone, le 1 result ++ le 1 (4 * bit isEnd + 2 * bit gap + bit fz.isSome) ++ le 2 recs.length ++ le 4 first ++ le 4 lo ++
      le 4 hi ++ le 2 (if fz.isSome then s3.leaseLeft else 0) ++ le 2 0 ++ recs.flatMap recBytes, s3)

/-- GRN_READ. -/
def execGrnRead (rq : Request) (s : State) : Res := answerNow 0x1202 rq grnReadBody s

/-- GRN_FREEZE's own part (R373). -/
def grnFreezeBody (tk : Ticket) (pl : List Byte) (s : State) : Nat × List Byte × State :=
  if !pl.isEmpty then (stParam, [], s)
  else
    match s.grn.freeze with
    | some f =>
      if f.holder ≠ tk.session then (stState, [], s)
      else (stDone, le 4 f.oldest ++ le 4 f.newest,
            { s with grn := { s.grn with freeze := some { f with lease := s.now } } })
    | none =>
      let ((lo, hi), s1) := s.grnRange
      let f : Freeze := ⟨tk.session, lo, hi, s1.now, s1.now⟩
      let s2 : State := { s1 with grn := { s1.grn with freeze := some f } }
      (stDone, le 4 lo ++ le 4 hi, submit .management 0x003 (le 1 1 ++ le 1 tk.session ++ le 2 0 ++ le 4 hi) s2)

/-- GRN_FREEZE. -/
def execGrnFreeze (rq : Request) (s : State) : Res := answerNow 0x1203 rq grnFreezeBody s

/-- GRN_RELEASE's own part. -/
def grnReleaseBody (tk : Ticket) (pl : List Byte) (s : State) : Nat × List Byte × State :=
  if !pl.isEmpty then (stParam, [], s)
  else match s.freezeOf tk.session with
    | some _ => (stDone, [], endFreeze 2 s)
    | none => (stState, [], s)

/-- GRN_RELEASE. -/
def execGrnRelease (rq : Request) (s : State) : Res := answerNow 0x1204 rq grnReleaseBody s

end Sys2Proof.Machine
end

