-- ==== Sys2Proof/Machine/TimeSource.lean ====
section
/-! DEFINITION. The TIME port, the loss of a source, steps, the leap hold and the millpond clock (R385, R386, R392, R396 to
R402). -/

namespace Sys2Proof.Machine

/-- Node time of an edge, ns. -/
def State.nodeNs (s : State) : Int := (s.node : Int) * 1000

/-- A hardware timestamp `ns` past the present microsecond, ns: node time to 8 ns (R43, R86). -/
def State.stamp (s : State) (ns : Nat) : Nat := s.node * 1000 + ns / 8 * 8

/-- PPS_EDGE (R86): the on-time edge, rising unless PPS options select the falling one, is stamped `ns` past the present
microsecond; the edge before it, unlabelled, ends a run (R396). -/
def execPpsEdge (t : Nat) (e : PpsEdge) (s : State) : Res :=
  let s1 := s.begin t
  if !s1.logicOn || s1.nd.dataStalled || e.rising == hasBit (s1.param 0x13000004) 0 then .next s1
  else .next (s1.modClk fun c =>
    { c with ppsStamp := some (s1.stamp e.ns.val : Nat), ppsAt := s1.now, ppsLabelled := false,
             labelRun := if c.ppsLabelled then c.labelRun else 0, ppsEdges := wrap32 (c.ppsEdges + 1) })

/-- RMC's two-digit year in its century (R396): within 50 years of the clock, 20yy while untrusted. -/
def rmcYear (yy : Nat) (s : State) : Nat :=
  let now := (Cal.of s.shownTime).year
  if !s.trustedNow then 2000 + yy % 100
  else
    match (List.range 6).find? fun c =>
        let y := 1900 + 100 * c + yy % 100
        decide (y < now + 50) && decide (now ≤ y + 50) with
    | some c => 1900 + 100 * c + yy % 100
    | none => 2000 + yy % 100

/-- The calendar time of a sentence, truncated to the whole second. -/
def sentenceCal (x : Sentence) (s : State) : Cal :=
  ⟨if x.zda then x.year else rmcYear x.year s, x.month, x.day, x.hour, x.minute, if x.second = 60 then 0 else x.second, 0⟩

/-- The label that a sentence gives an edge, and whether it tells of a leap second that no hold accounts for (R402). With a
hold armed or in force, the label is its repeated second (log 34). -/
def sentenceLabel (x : Sentence) (s : State) : Option (Nat × Bool) :=
  let c := sentenceCal x s
  if !c.ok || 60 < x.second then none
  else if x.second = 60 then
    if s.clk.leapAt ≠ 0 then some (s.clk.leapAt - 1000000, false)
    else match s.clk.leapEnd with
      | some e => if s.node < e then some (e - 1000000, false) else some ((c.binary / dayMicros + 1) * dayMicros, true)
      | none => some ((c.binary / dayMicros + 1) * dayMicros, true)
  else some (c.binary, false)

/-- TIME may be locked to (R395). -/
def State.timeWanted (s : State) : Bool := s.param 0x13000002 == 0 || s.param 0x13000002 == 2

/-- RING may be locked to. -/
def State.ringWanted (s : State) : Bool := s.param 0x13000002 == 0 || s.param 0x13000002 == 1

/-- An edge labelled: the offset measured, the lock after three edges a second apart, and node time on its way (R396,
R398). -/
def labelEdge (label : Nat) (stamp : Int) (s : State) : State :=
  let off := (label : Int) * 1000 - stamp - toSigned 4 (s.param 0x13000006)
  let run := if s.clk.labelRun ≠ 0 && label == s.clk.lastLabel + 1000000 then s.clk.labelRun + 1 else 1
  let s1 := s.modClk fun c =>
    { c with ppsLabelled := true, labelRun := run, lastLabel := label, labelAt := s.now, offset := off }
  let s2 := if 3 ≤ run && !s1.clk.timeLock && s1.timeWanted then
      lockTo true (s1.modClk fun c => { c with timeLock := true }) else s1
  if s2.clk.source = .time then moveBy off none s2 else s2

/-- TIME_SENTENCE (R87, R396): nothing is received of a sentence at the other bit rate. -/
def execTimeSentence (t : Nat) (x : Sentence) (s : State) : Res :=
  let s1 := s.begin t
  if !s1.logicOn || !x.known || x.fast != (s1.param 0x13000005 == 38400) then .next s1
  else if !x.checksum then .next (s1.modClk fun c => { c with senBad := wrap32 (c.senBad + 1) })
  else if !x.zda && !x.statusA then .next s1
  else
    let s2 := s1.modClk fun c => { c with senOk := wrap32 (c.senOk + 1) }
    match s2.clk.ppsStamp, sentenceLabel x s2 with
    | some st, some (label, leap) =>
      let age := s2.now - s2.clk.ppsAt
      if age < 50000 || 950000 < age || s2.clk.ppsLabelled then .next s2
      else .next (labelEdge label st (if leap then leapRecord label 4 s2 else s2))
    | _, _ => .next s2

/-- TIME_LOCK_LOSS: 3 s without a labelled edge (R396). -/
def execTimeLockLoss (t : Nat) (s : State) : Res :=
  let s1 := s.begin t
  if s1.clk.timeLock && s1.clk.labelAt + 3000000 ≤ s1.now then
    .next (sourceStep (s1.modClk fun c => { c with timeLock := false, labelRun := 0 }))
  else .next s1

/-- RING_LOCK_LOSS: 1,000 ms without synchronisation (R397). -/
def execRingLockLoss (t : Nat) (s : State) : Res :=
  let s1 := s.begin t
  if s1.clk.ringLock && s1.clk.ringAt + 1000000 ≤ s1.now then
    .next (sourceStep (s1.modClk fun c => { c with ringLock := false }))
  else .next s1

/-- The sweep boundary that stands, its sweep not yet begun, or the next (R398). -/
def atSweepStart (s : State) : State :=
  if s.node % 10000 = 0 && decide (s.alarm.sweepAt < s.node) then s else s.beginAt 10000 (some s.node)

/-- TIME_STEP: the step that waits, at the sweep boundary that stands or at the next (R398). -/
def execTimeStep (t : Nat) (s : State) : Res :=
  let s1 := s.begin t
  .next (if s1.clk.step.isNone then s1 else stepNow (atSweepStart s1))

/-- LEAP_HOLD (R401): at the sweep boundary that stands or at the next (R398). -/
def execLeapHold (t : Nat) (s : State) : Res :=
  let s1 := s.begin t
  .next (if !s1.logicOn || !s1.leapDue then s1 else leapHold (atSweepStart s1))

/-- CLOCK_SLAVE_SECOND: at a whole second of node time the clock is set to agree within one period (R385), a free part of it
behind (log 11). -/
def execClockSlaveSecond (t : Nat) (s : State) : Res :=
  let s1 := s.begin t
  if !s1.logicOn || s1.nd.dataStalled || s1.clk.rangeEnd then .next s1
  else
    let s2 := if s1.node % 1000000 = 0 then s1 else s1.beginAt 1000000 none
    let (k, s3) := s2.draw
    .next (s3.modClk fun c => { c with clock := s3.node - Config.freeNat k % 31 })

/-- OSC_STOP_DETECT (R392). -/
def execOscStopDetect (t : Nat) (s : State) : Res :=
  .next (trustStep 1 ((s.begin t).modClk fun c => { c with oscStop := true }))

/-- CLOCK_RANGE_END (R386): the clock stops at the last instant of its range, unless an accepted apply is about to move it. -/
def execClockRangeEnd (t : Nat) (s : State) : Res :=
  let s1 := s.begin t
  if clockLimit ≤ s1.clk.clock && !s1.clk.rangeEnd && !s1.clk.step.any (·.apply.isSome) then
    .next (trustStep 1 (s1.modClk fun c => { c with clock := clockLimit - 1, rangeEnd := true }))
  else .next s1

/-- What a new configuration means for the clock: TRUST_SEL (R394) and TIME_SRC (R395). -/
def clockConfigured (s : State) : State :=
  trustStep 4 (sourceStep (s.modClk fun c =>
    { c with timeLock := c.timeLock && s.timeWanted, ringLock := c.ringLock && s.ringWanted }))

end Sys2Proof.Machine
end

