-- ==== Sys2Proof/Machine/Ring.lean ====
section
/-! DEFINITION. The Ponor rings: ports, frames, the publisher and the slots (R407 to R421, R423, R424, R427, R430 to R433). -/

namespace Sys2Proof.Machine

/-- This unit passes frames between its rings (R431). -/
def State.bridging (s : State) : Bool := s.bridgeEn && s.paired && s.sourcing

/-- RING_ID of ring k in force. -/
def State.ringId (s : State) (k : Nat) : Nat := if k = 0 then s.ponor.ringIdL else s.ponor.ringIdU

/-- The code of Table 14.13. -/
def RingState.code : RingState → Nat
  | .off => 0 | .opened => 1 | .closed => 2 | .noMaster => 3

/-- A ring's state changed, with its RING_STATE record (R428). -/
def setRingState (k : Nat) (st : RingState) (s : State) : State :=
  let r := s.ring k
  if r.state = st then s
  else
    let s1 := s.modRing k fun x => { x with state := st }
    if st = .off then s1
    else submit .data 0x141 (le 1 k ++ le 1 st.code ++ le 1 r.units ++ le 1 0 ++ le 2 r.master ++ le 2 0) s1

/-- The MASTER record (Table 14.10). -/
def masterRecord (k event node prio : Nat) (s : State) : State :=
  submit .data 0x142 (le 1 k ++ le 1 event ++ le 2 node ++ le 1 prio ++ le 3 0) s

/-- This unit's rank on ring k (R423, R424). -/
def State.rank (s : State) (k : Nat) : Nat :=
  let eligible := s.sourcing &&
    (if k = 0 then s.param 0x13000003 == 1 || s.bridgeEn else s.param 0x14000009 == 1 && s.bridgeEn)
  if !eligible then 0
  else if k = 0 && s.bridgeEn && decide (s.clk.source = .ring) then 4
  else if s.clk.source = .time then 3 else if s.trustedNow then 2 else 1

/-- A candidate ranks above another: the higher rank, then the lower node address (R424). -/
def ranksAbove (pa na pb nb : Nat) : Bool := decide (pb < pa) || (pa == pb && decide (na < nb))

/-- CYCLE (Table 14.1). -/
def State.ringCycle (s : State) : Nat := wrap32 (s.node / 250)

/-- A frame that this unit originates on ring k. -/
def State.newFrame (s : State) (k dest seq : Nat) (pl : List Byte) : Frame where
  good := true
  dir := false
  relayed := false
  more := false
  ringId := s.ringId k
  hops := 0
  prio := s.rank k
  mode := s.nd.mode.code
  src := s.ponor.nodeAddr
  dest := dest
  seq := seq
  cycle := s.ringCycle
  unit := Config.unitAddress
  payload := pl
  etherType := 0x9C4D
  vlan := false
  size := max 64 (38 + pl.length)

/-- Wire bytes of a frame (Table 14.2): preamble and interframe gap make 20. -/
def wireBytes (f : Frame) : Nat := f.size + 20

/-- A frame sent out of port p. -/
def sendOn (kind p : Nat) (f : Frame) (s : State) : State :=
  (s.modPort p fun x => { x with tx := wrap32 (x.tx + 1) }).emit (.frame kind p f)

/-- What the limiter lets this unit originate on a ring in one cycle, by kind (R429); replies and the master's own ACYC, kinds 5 and 6,
count as one. LINK is formed once a cycle alone. -/
def RingRun.limit (r : RingRun) (kind : Nat) : Nat :=
  match kind with
  | 1 => bit r.isMaster
  | 3 => 1
  | 4 => if r.isMaster then r.polls else 0
  | _ => r.polled + bit r.isMaster

/-- The count that a kind has in the limiter. -/
def limitKey (kind : Nat) : Nat := if kind = 6 then 5 else kind

/-- A frame beyond the limit: counted, with a BABBLE record (R429, R434; log 262). -/
def withhold (k : Nat) (f : Frame) (s : State) : State :=
  submit .data 0x143 (le 1 (2 * k) ++ le 1 3 ++ le 2 0 ++ le 4 (wireBytes f)) (s.modRing k fun r => { r with withheld := r.withheld + 1 })

/-- A frame of this unit sent out of both ports of ring k, as far as they work; DIR tells the ports apart. -/
def sendPorts (kind k : Nat) (f : Frame) (s : State) : State :=
  [2 * k, 2 * k + 1].foldl (fun s p =>
    if (s.portState p).works then sendOn kind p { f with dir := p % 2 == 1 } s else s) s

/-- A frame of this unit sent on ring k, within the limits of R429. -/
def sendRing (kind k : Nat) (f : Frame) (s : State) : State :=
  let r := s.ring k
  if r.limit kind ≤ tget 0 r.sent (limitKey kind) then withhold k f s
  else sendPorts kind k f (s.modRing k fun x => { x with sent := tmod 0 x.sent (limitKey kind) (· + 1) })

/-- What a summary tells of a node (Table 14.6), as R433 combines it. -/
structure Summ where
  state : Nat
  prio : Nat
  unackPrio : Nat
  bad : Bool
  frz : Bool
  supp : Bool
  act : Bool
  actCount : Nat
  unackCount : Nat
  deriving DecidableEq, Repr

/-- The worst system alarm of the service region: the highest RANK (R340). -/
def State.worstSysState (s : State) : AlState :=
  s.bell.sysImage.foldl (fun a x => if a.rank < x.2.rank then x.2 else a) .normal

/-- The node's own summary (Table 14.6). -/
def State.ownSumm (s : State) : Summ :=
  let g := tget GrpEntry.initial s.alarm.imgGrps 0
  let w := s.worstSysState
  let top (p : AlState → Bool) : Nat := s.bell.sysImage.foldl (fun a x => if p x.2 then max a (sysPrio x.1) else a) 0
  { state := if g.state.rank < w.rank then w.code else g.state.code
    prio := max g.priority (top fun x => decide (x ≠ .normal))
    unackPrio := max g.unackPrio (top (·.unack))
    bad := g.inputBad
    frz := g.frozen
    supp := g.suppressed
    act := decide (0 < g.activeCount) || s.bell.sysImage.any (·.2.act)
    actCount := g.activeCount
    unackCount := g.unackCount }

/-- A summary received. -/
def Summ.ofBytes (bs : List Byte) : Summ where
  state := byteAt bs 0 % 4
  prio := byteAt bs 0 / 8 % 8
  unackPrio := byteAt bs 1 / 32
  bad := hasBit (byteAt bs 1) 4
  frz := hasBit (byteAt bs 1) 3
  supp := hasBit (byteAt bs 1) 2
  act := hasBit (byteAt bs 1) 1
  actCount := fieldAt bs 2 2
  unackCount := fieldAt bs 4 2

/-- Two summaries combined (R433). -/
def Summ.add (a b : Summ) : Summ where
  state := if (AlState.ofCode a.state).rank < (AlState.ofCode b.state).rank then b.state else a.state
  prio := max a.prio b.prio
  unackPrio := max a.unackPrio b.unackPrio
  bad := a.bad || b.bad
  frz := a.frz || b.frz
  supp := a.supp || b.supp
  act := a.act || b.act
  actCount := min 65535 (a.actCount + b.actCount)
  unackCount := min 65535 (a.unackCount + b.unackCount)

/-- The first 8 bytes of Table 14.6. -/
def Summ.bytes (x : Summ) (flags n : Nat) : List Byte :=
  le 1 (8 * x.prio + x.state) ++
    le 1 (32 * x.unackPrio + 16 * bit x.bad + 8 * bit x.frz + 4 * bit x.supp + 2 * bit x.act) ++ le 2 x.actCount ++
    le 2 x.unackCount ++ le 1 flags ++ le 1 n

/-- The nodes of the Local ring seen in the last 4 cycles (R433). -/
def State.lowerNodes (s : State) : List Summary :=
  s.ponor.summaries.filter fun x => decide (x.age < 4)

/-- The summary of a DATA frame on ring k with n entries (Table 14.6, R433). -/
def State.summary (s : State) (k n : Nat) : List Byte :=
  let pair := 2 * bit s.paired
  if k = 1 && s.bridging then
    let low := s.lowerNodes
    let x := low.foldl (fun a y => a.add (Summ.ofBytes y.bytes)) s.ownSumm
    let seen := low.length + 1
    let missing := s.param 0x14000008 - seen
    let flags := 8 * bit (decide ((s.ring 0).state ≠ .closed)) + 4 * bit (decide (0 < missing)) + pair + 1
    x.bytes flags n ++ le 4 s.cfg.liveEpoch ++ le 2 seen ++ le 2 missing
  else s.ownSumm.bytes pair n ++ le 4 s.cfg.liveEpoch ++ le 2 1 ++ le 2 0

/-- The result of a channel as published: STALE while the control plane, or the Toll core that owns it, is stalled (Table
1.6). -/
def State.publishedStale (s : State) (n : Nat) : Bool := s.nd.ctrlDown || (s.nd.tollStalled && s.tollOwns && decide (n < 64))

/-- The code of quality STALE. -/
def staleCode : Nat := 8

/-- SRC of the slot with key q: remote slot q, output slot q - 1,024 (R419). -/
def State.slotSrc (s : State) (q : Nat) : Nat :=
  if q < 1024 then s.param (0x14020000 + 2 * q) else s.param (0x14030000 + 2 * (q - 1024))

/-- WHAT of the slot with key q. -/
def State.slotWhat (s : State) (q : Nat) : Nat :=
  if q < 1024 then s.param (0x14020001 + 2 * q) else s.param (0x14030001 + 2 * (q - 1024))

/-- One entry of a publish list (R417); a relayed one carries its slot's INDEX, from WHAT (Table 14.8). -/
def State.pubEntry (s : State) (v : Nat) : List Byte :=
  let i := v % 65536
  let e (kind : Nat) (stale relayed : Bool) (index : Nat) (d : List Byte) : List Byte :=
    le 1 kind ++ le 1 (128 * bit relayed + 64 * bit stale) ++ le 2 index ++ fit 12 d
  match v / 16777216 with
  | 1 =>
    let r := s.img i
    let stale := s.publishedStale i
    e 1 stale false i ((resultBytes (if stale then { r with quality := staleCode } else r)).take 12)
  | 2 => e 2 s.nd.ctrlDown false i (ptBytes (tget PtRun.initial s.alarm.imgPts i))
  | 3 => e 3 s.nd.ctrlDown false i ((grpBytes (tget GrpEntry.initial s.alarm.imgGrps i)).take 12)
  | _ =>
    let r := if i < 1024 then tget RemoteSlot.initial s.ponor.slots i else RemoteSlot.initial
    e r.kind r.stale true (s.slotWhat i % 65536) r.data

/-- The publish list of ring k, empty positions left out. -/
def State.pubList (s : State) (k : Nat) : List Nat :=
  ((List.range 32).map fun e => s.param (0x14010000 + 32 * k + e)).filter fun v => decide (16777216 ≤ v)

/-- The DATA payload of ring k (R417). -/
def State.dataPayload (s : State) (k : Nat) : List Byte :=
  let es := s.pubList k
  s.summary k es.length ++ es.flatMap s.pubEntry

/-- The entries of a received DATA payload: kind, STALE, RELAYED, INDEX, DATA; the summary first. -/
def dataEntries (pl : List Byte) : List (Nat × Bool × Bool × Nat × List Byte) :=
  let n := min (byteAt pl 7) ((pl.length - 16) / 16)
  (0, false, false, 0, pl.take 12) ::
    (List.range n).map fun i =>
      let o := 16 + 16 * i
      (byteAt pl o, hasBit (byteAt pl (o + 1)) 6, hasBit (byteAt pl (o + 1)) 7, fieldAt pl (o + 2) 2, slice pl (o + 4) 12)

/-- The entry of a frame that a slot's WHAT matches (R419). A summary's INDEX picks a relayed summary; none such, it is the
frame's own (log 36). -/
def matchEntry (what : Nat) (es : List (Nat × Bool × Bool × Nat × List Byte)) : Option (Nat × Bool × Bool × Nat × List Byte) :=
  let kind := what / 16777216
  let i := what % 65536
  if kind = 0 then
    match es.find? fun e => e.1 == 0 && e.2.2.1 && e.2.2.2.1 == i && i != 0 with
    | some e => some e
    | none => es.find? fun e => e.1 == 0
  else es.find? fun e => e.1 == kind && e.2.2.2.1 == i

/-- The slots that a configuration sets, by key. -/
def slotKeys (c : Cfg) : List Nat :=
  c.filterMap fun x =>
    if x.1 / 65536 = 0x1402 && x.1 % 2 = 0 then some (x.1 % 65536 / 2)
    else if x.1 / 65536 = 0x1403 && x.1 % 2 = 0 then some (1024 + x.1 % 65536 / 2) else none

/-- One slot takes its entry of a DATA frame of ring k (R419, R420). -/
def takeSlot (k : Nat) (f : Frame) (es : List (Nat × Bool × Bool × Nat × List Byte)) (s : State) (q : Nat) : State :=
  let src := s.slotSrc q
  if !hasBit src 31 || (src / 1073741824 % 2 != k) || src % 16384 != f.src then s
  else
    match matchEntry (s.slotWhat q) es with
    | none => s
    | some (kind, stale, rel, i, d) =>
      let r : RemoteSlot :=
        { kind := kind, stale := stale, relayed := rel, index := i, data := fit 12 d, rxCycle := f.cycle, age := 0 }
      { s with ponor := { s.ponor with work := tset RemoteSlot.initial s.ponor.work q r } }

/-- The police's limit for the neighbour of port p, wire bytes (R430). -/
def State.policeLimit (s : State) (p : Nat) : Nat :=
  let x := s.port p
  if x.nUnit == (s.ring (p / 2)).masterUnit && x.nUnit != 0 then 6000 else 4000

/-- The next hold of the babble guard after a trip (R430). -/
def nextHold (x : PortRun2) (now : Micros) : Nat :=
  match x.reopenAt with
  | none => 1000000
  | some t =>
    if now < t + 10000000 then (if x.cutHold = 1000000 then 10000000 else 60000000)
    else if x.cutAt + 60000000 ≤ now then 1000000
    else x.cutHold

/-- The babble guard trips (R430). -/
def tripPort (p : Nat) (s : State) : State :=
  let x := s.port p
  if s.portState p = .cut then s
  else
    let hold := nextHold x s.now
    let s1 := s.modPort p fun y => { y with cutAt := s.now, cutHold := hold, cuts := wrap32 (y.cuts + 1), overPrev := false }
    submit .data 0x143 (le 1 p ++ le 1 1 ++ le 2 (hold / 1000000) ++ le 4 x.bytes) (setPortState p .cut s1)

/-- The state a port takes by LINK frames from its neighbour's port (Table 14.7). -/
def upState (p nPort : Nat) : PortState := if p % 2 = nPort % 2 then .crossed else .up

/-- A unit heard in this cycle. -/
def hearUnit (k unit : Nat) (s : State) : State :=
  s.modRing k fun r =>
    { r with unitsAcc := if r.unitsAcc.contains unit then r.unitsAcc else r.unitsAcc ++ [unit],
             known := if r.known.contains unit then r.known else r.known ++ [unit] }

/-- What ring r remembers of a source. -/
def RingRun.keysOf (r : RingRun) (src : Nat) : SrcKeys := (r.keys.find? (·.src == src)).getD ⟨src, [], [], 0, []⟩

/-- The keys of a source moved to the front of the table of 1,024, replaced by `g` (R413). -/
def RingRun.putKeys (g : SrcKeys) (r : RingRun) : RingRun :=
  { r with keys := (g :: r.keys.filter (·.src != g.src)).take 1024 }

/-- A POLL to `unit` on a port of the E kind or the other: it is new where it comes first on its port's count (R413; log 37). -/
def PollKey.hear (onE : Bool) (x : PollKey) : Bool × PollKey :=
  let y := if onE then { x with onE := x.onE + 1 } else { x with onW := x.onW + 1 }
  if y.taken < (if onE then y.onE else y.onW) then (true, { y with taken := y.taken + 1 }) else (false, y)

/-- A frame's key looked up in what its source has sent, and remembered (R413). -/
def SrcKeys.take (kind p : Nat) (f : Frame) (x : SrcKeys) : Bool × SrcKeys :=
  if kind = 6 then
    if x.seqs.contains f.seq then (false, x) else (true, { x with seqs := (f.seq :: x.seqs).take 64 })
  else if kind = 4 then
    let ps := if x.pollCycle = f.cycle then x.polls else []
    let u := fieldAt f.payload 0 6
    let (new, y) := ((ps.find? (·.unit == u)).getD ⟨u, 0, 0, 0⟩).hear (p % 2 == 0)
    (new, { x with pollCycle := f.cycle, polls := y :: ps.filter (·.unit != u) })
  else if tfind x.cycles kind = some f.cycle then (false, x)
  else (true, { x with cycles := tput kind f.cycle x.cycles })

/-- A frame on port p is passed on to the other port of its ring (R412). -/
def State.forwards (s : State) (p : Nat) (f : Frame) : Bool :=
  f.unit != Config.unitAddress && decide (f.hops < 63) && f.ringId == s.ringId (p / 2) &&
    (s.portState (if p % 2 = 0 then p + 1 else p - 1)).works

/-- Port p counts a frame taken or forwarded (Table 14.14). -/
def countRx (p : Nat) (s : State) : State := s.modPort p fun x => { x with rx := wrap32 (x.rx + 1) }

/-- A frame's key is new, and is remembered (R413): the frame is taken. A duplicate is counted. -/
def firstCopy (kind p : Nat) (f : Frame) (s : State) : Bool × State :=
  let k := p / 2
  let (new, g) := ((s.ring k).keysOf f.src).take kind p f
  if new then
    let s1 := s.modRing k (·.putKeys g)
    (true, if s1.forwards p f then s1 else countRx p s1)
  else (false, s.modRing k fun r => { r.putKeys g with dups := wrap32 (r.dups + 1) })

/-- What a forwarder adds to CORRECTION (R425): the delay of the link and the time the frame spends in it, ps; the latter is
free up to 0.9 µs plus one frame in the way (log 38). -/
def forwardSync (delay : Int) (f : Frame) (s : State) : Frame × State :=
  let (k, s1) := s.draw
  let c := toSigned 8 (fieldAt f.payload 8 8) + delay * 1000 + (Config.freeNat k % 10000000 : Nat)
  ({ f with payload := overlay f.payload 8 (leInt 8 c) }, s1)

/-- LINK_DELAY of a port, ns: the mean of the last 16 measurements (R425). -/
def PortRun2.delay (x : PortRun2) : Int :=
  if x.delays.isEmpty then 0 else x.delays.foldl (· + ·) 0 / x.delays.length

/-- A frame passed to the other port of its ring (R412), and counted. -/
def forward (kind p : Nat) (f : Frame) (s : State) : State :=
  if !s.forwards p f then s
  else
    let (g, s1) := if kind = 1 then forwardSync (s.port p).delay f s else (f, s)
    sendOn kind (if p % 2 = 0 then p + 1 else p - 1) { g with hops := f.hops + 1 } (countRx p s1)

/-- A frame that no port takes or forwards: of another EtherType, tagged, or longer than 1,518 bytes (R410). -/
def foreignFrame (f : Frame) : Bool := f.etherType != 0x9C4D || f.vlan || decide (1518 < f.size)

/-- A received frame at the guard of port p: the bytes of the neighbour's own frames are counted, and a frame longer than 1,522 bytes
trips it (R430). Carrier for more than 20 µs without a valid frame comes as such a frame with a bad FCS (log 263). -/
def police (p : Nat) (f : Frame) (s : State) : State :=
  let s1 := if f.unit == (s.port p).nUnit then s.modPort p fun x => { x with bytes := x.bytes + wireBytes f } else s
  if 1522 < f.size then tripPort p s1 else s1

/-- A received frame other than LINK (R410, R412, R427, R430): the state with the frame counted, policed and passed on, and
whether this unit may take it. -/
def receive (kind p : Nat) (f : Frame) (s : State) : Bool × State :=
  if !s.logicOn || s.nd.dataStalled || !(s.portState p).works then (false, s)
  else if foreignFrame f then (false, police p f (s.count 20 1))
  else
    let s1 := police p f s
    if !f.good then (false, forward kind p f (s1.modPort p fun x => { x with fcsErr := wrap32 (x.fcsErr + 1) }))
    else if f.ringId != s.ringId (p / 2) then (false, s1)
    else (true, forward kind p f (if f.unit = Config.unitAddress then s1 else hearUnit (p / 2) f.unit s1))

/-- The packets waiting for ring k. -/
def State.ringReplies (s : State) (k : Nat) : List Packet :=
  (s.ponor.busy ++ s.host.replyQueue).filter fun q => q.link.port.val / 2 == k

/-- The next packet of the reply queue, taken by the data plane; the management plane's wait moves up (R39). -/
def dropReply (q : Packet) (s : State) : State :=
  if s.ponor.busy.contains q then { s with ponor := { s.ponor with busy := removeFirst (fun x => decide (x = q)) s.ponor.busy } }
  else
    let rq := removeFirst (fun x => decide (x = q)) s.host.replyQueue
    match s.host.replyWait with
    | w :: ws => { s with host := { s.host with replyQueue := rq ++ [w], replyWait := ws } }
    | [] => { s with host := { s.host with replyQueue := rq } }

/-- Frames of the bridge that wait for ring k (R432). -/
def State.bridgeQueue (s : State) (k : Nat) : List BridgeFrame := if k = 0 then s.ponor.down else s.ponor.up

/-- `s` with the bridge queue to ring k replaced. -/
def setBridgeQueue (k : Nat) (q : List BridgeFrame) (s : State) : State :=
  if k = 0 then { s with ponor := { s.ponor with down := q } } else { s with ponor := { s.ponor with up := q } }

/-- Packets waiting at this unit for ring k. -/
def State.waiting (s : State) (k : Nat) : Nat := (s.bridgeQueue k).length + (s.ringReplies k).length

/-- The ACYC frame that ring k's next grant carries: the bridge's frames first, then the oldest packet (R421, R432). -/
def nextAcyc (k : Nat) (s : State) : Option (Frame × State) :=
  let waiting := s.waiting k
  match s.bridgeQueue k, s.ringReplies k with
  | b :: bs, _ =>
    let f := s.newFrame k b.dest b.seq b.payload
    some ({ f with src := b.src, relayed := true, more := decide (1 < waiting) }, setBridgeQueue k bs s)
  | [], q :: _ =>
    let seq := (s.ring k).acycSeq
    let f := s.newFrame k q.target seq (packetBytes q)
    some ({ f with more := decide (1 < waiting) }, (dropReply q s).modRing k fun r => { r with acycSeq := wrap16 (seq + 1) })
  | [], [] => none

/-- Whether this unit may originate ACYC frames: it is the sourcing unit, and no address clash has stopped it (R416, R421). -/
def State.mayAcyc (s : State) : Bool := s.sourcing && !(s.ponor.addrClash && !s.ponor.dataStarted)

/-- COMPAT_128 in a pair (R461). -/
def State.compat (s : State) : Bool := s.paired && s.param 0x15000002 == 1

/-- The standby unit's part in compatibility mode. -/
def State.copying (s : State) : Bool := s.compat && decide (s.nd.mode = .standby)

/-- NIL (R421, Table 14.2): MORE tells of packets that wait (Table 14.1). -/
def State.nilFrame (s : State) (k : Nat) : Frame :=
  { s.newFrame k 0xFFFF 0 (le 6 Config.unitAddress ++ le 1 (min 255 (s.waiting k)) ++ le 1 0) with more := decide (0 < s.waiting k) }

/-- The answer to a POLL (R421, R461). -/
def pollReply (k : Nat) (s0 : State) : State :=
  let s := s0.modRing k fun r => { r with polled := r.polled + 1 }
  let nil := sendRing 5 k (s.nilFrame k) s
  if s.copying then
    match (s.ring k).copies with
    | f :: fs => sendRing 6 k { f with unit := Config.unitAddress, hops := 0, dir := false }
        (s.modRing k fun r => { r with copies := fs })
    | [] => nil
  else if s.mayAcyc then
    match nextAcyc k s with
    | some (f, s1) => sendRing 6 k f s1
    | none => nil
  else nil

end Sys2Proof.Machine
end

