-- ==== Sys2Proof/Machine/RingRows.lean ====
section
/-! DEFINITION. The ring cycle, received frames, port events, SFP cages and the Ponor link commands (chapter 14, R89 to R91). -/

namespace Sys2Proof.Machine

/-- The rings of the unit: the Uplink ring on a bridge alone (R407). -/
def State.ringsInUse (s : State) : List Nat := if s.bridgeEn then [0, 1] else [0]

/-- The end of a ring cycle for the police of port p (R430). -/
def policeEnd (p : Nat) (s : State) : State :=
  let excess := s.policeLimit p < (s.port p).bytes
  let s1 := if excess && (s.port p).overPrev then tripPort p s else s
  s1.modPort p fun x => { x with bytes := 0, overPrev := excess }

/-- This unit was the best candidate in the cycle that ends (R424). -/
def bestCandidate (mine node : Nat) (seen : List Candidate) : Bool :=
  decide (0 < mine) && seen.all fun c => !ranksAbove c.prio c.node mine node

/-- The rank of the master in the cycle that ends, none where it sent no DATA. -/
def masterRank (r : RingRun) : Option Nat := (r.seen.find? (·.node == r.master)).map (·.prio)

/-- What ring k keeps of the cycle that ends: units, L0, the runs of the election (R415, R424). -/
def closeCycle (k : Nat) (s : State) : State :=
  let r := s.ring k
  let mine := s.rank k
  let node := s.ponor.nodeAddr
  let below := match masterRank r with | some p => !r.isMaster && ranksAbove mine node p r.master && decide (0 < mine) | none => false
  s.modRing k fun r =>
    { r with units := r.unitsAcc.length + 1, l0 := 180 + r.l0Acc,
             sinceSync := if r.syncPorts.isEmpty then r.sinceSync + 1 else 0,
             bestRun := if bestCandidate mine node r.seen then r.bestRun + 1 else 0,
             belowRun := if below then r.belowRun + 1 else 0 }

/-- OPEN, CLOSED, without a master, or off (R428). -/
def ringStateOf (k : Nat) (s : State) : RingState :=
  let r := s.ring k
  if !s.portEnabled (2 * k) && !s.portEnabled (2 * k + 1) then .off
  else if !r.isMaster && decide (4 ≤ r.sinceSync) then .noMaster
  else if r.syncPorts.contains (2 * k) && r.syncPorts.contains (2 * k + 1) then .closed else .opened

/-- The ring's mastership at a cycle start (R424). -/
def elect (k : Nat) (s : State) : State :=
  let r := s.ring k
  let mine := s.rank k
  if r.isMaster then
    if r.yielding || mine = 0 then
      masterRecord k 2 r.master mine (s.modRing k fun x => { x with isMaster := false, yielding := false, bestRun := 0 })
    else s
  else if 4 ≤ r.bestRun && (4 ≤ r.sinceSync || 40 ≤ r.belowRun) then
    let node := s.ponor.nodeAddr
    masterRecord k 1 node mine (s.modRing k fun x =>
      { x with isMaster := true, yielding := false, master := node, masterUnit := Config.unitAddress, belowRun := 0 })
  else s

/-- Allowance and POLLS of R415, ns. -/
def pollsFor (tRing l0 : Nat) : Nat × Bool :=
  let n := (238000 - tRing - l0 * 8) / 9552
  if n = 0 then (1, true) else (min 16 n, false)

/-- POLLS fixed by the master from the previous cycle; BUDGET_OVER set is recorded (R415). -/
def fixPolls (k : Nat) (s : State) : State :=
  let r := s.ring k
  let (n, excess) := pollsFor r.tRing r.l0
  let s1 := s.modRing k fun x => { x with polls := n, budgetOver := excess }
  if excess && !r.budgetOver then
    submit .data 0x145 (le 1 k ++ le 1 n ++ le 2 0 ++ le 4 r.l0 ++ le 4 r.tRing) s1
  else s1

/-- The SYNC payload (Table 14.3). -/
def syncPayload (k : Nat) (s : State) : List Byte :=
  let r := s.ring k
  let flags := bit s.trustedNow + 2 * bit (decide (s.clk.source = .time)) + 4 * bit (decide (s.clk.leapAt ≠ 0))
  le 8 (s.node * 1000) ++ le 8 0 ++ le 8 s.clk.leapAt ++ le 1 flags ++ le 1 r.units ++ le 1 r.polls ++ le 1 0 ++ le 4 r.tRing

/-- The master's SYNC (R414 step 1). -/
def sendSync (k : Nat) (s : State) : State :=
  if (s.ring k).isMaster then
    sendRing 1 k (s.newFrame k 0xFFFF 0 (syncPayload k s)) (s.modRing k fun r => { r with syncTx := s.node * 1000 })
  else s

/-- LINK on port p (R414 step 2, Table 14.4). Its departure is free within the cycle (log 38). -/
def sendLink (p : Nat) (s : State) : State :=
  match s.portState p with
  | .disabled => s
  | .down => s
  | st =>
    let x := s.port p
    let prev := match x.sent with | (_, t) :: _ => t | [] => 0
    let pl := le 1 p ++ le 1 st.code ++ le 2 0 ++ le 4 x.rxOf ++ le 8 x.tRx ++ le 8 prev ++ le 8 0
    let (k, s1) := s.draw
    let t := s.node * 1000 + Config.freeNat k % 250000
    let f := s.newFrame (p / 2) 0xFFFF 0 pl
    sendOn 2 p { f with dir := p % 2 == 1 } (s1.modPort p fun y => { y with sent := ((f.cycle, t) :: y.sent).take 4 })

/-- The unit sends DATA (R416). -/
def State.sendsData (s : State) : Bool := s.sourcing && s.ponor.dataStarted

/-- DATA on ring k (R414 step 3); it counts in the own L0. -/
def sendData (k : Nat) (s : State) : State :=
  if s.sendsData then
    let f := s.newFrame k 0xFFFF 0 (s.dataPayload k)
    sendRing 3 k f (s.modRing k fun r => { r with l0Acc := wireBytes f })
  else s

/-- The units polled in a cycle (R414 step 4, R421): at most half of the polls go to units that have more, no unit is polled
more than twice. -/
def pollList (r : RingRun) : List Nat :=
  let extra := r.moreUnits.take (r.polls / 2)
  let rot := r.known.drop (r.turn % max 1 r.known.length) ++ r.known.take (r.turn % max 1 r.known.length)
  extra ++ (rot ++ rot.filter fun u => !extra.contains u).take (r.polls - extra.length)

/-- The master's polls, and its own ACYC in one unpolled grant. -/
def sendPolls (k : Nat) (s : State) : State :=
  let r := s.ring k
  if !r.isMaster then s
  else
    let us := pollList r
    let taken := us.length - (r.moreUnits.take (r.polls / 2)).length
    let s1 := us.foldl (fun s u => sendRing 4 k (s.newFrame k 0xFFFF 0 (le 6 u ++ le 2 0)) s) s
    let s2 := s1.modRing k fun x => { x with turn := (x.turn + taken) % max 1 x.known.length, moreUnits := [] }
    if s2.mayAcyc then
      match nextAcyc k s2 with
      | some (f, s3) => sendRing 6 k f s3
      | none => s2
    else s2

/-- One ring's cycle start (R414). -/
def startCycle (k : Nat) (s0 : State) : State :=
  let s1 := elect k (closeCycle k s0)
  let s2 := setRingState k (ringStateOf k s1) s1
  let s3 := s2.modRing k fun r => { r with l0Acc := 0, unitsAcc := [], seen := [], syncPorts := [], syncBest := none, polled := 0, sent := [] }
  let s4 := if (s3.ring k).isMaster then fixPolls k s3 else s3
  sendPolls k (sendData k (sendLink (2 * k + 1) (sendLink (2 * k) (sendSync k s4))))

/-- The waits that count ring cycles (R416). -/
def countCycles (s : State) : State :=
  let p := s.ponor
  { s with ponor := { p with clashFree := if p.addrClash then p.clashFree + 1 else 0,
                             dataWait := min 8 (p.dataWait + 1),
                             summaries := (p.summaries.map fun x => { x with age := x.age + 1 }).filter fun x => decide (x.age < 4),
                             flipAt := some (s.node + 240) } }

/-- The data plane runs again after a stall: its fault is declared no longer (Tables 1.6, 15.5). -/
def dataRestarted (s : State) : State :=
  let s1 := stallEnds 2 s
  if s.nd.dataStalled && s1.pair.cause = 6 then s1.modPair fun p => { p with declared := false, cause := 0 } else s1

/-- In compatibility mode the copy that a cycle still owes as it ends (R461): no row falls 200 µs after its start on a ring without
polls, so it goes out here at the latest (log 232). -/
def owedCopy (k : Nat) (s : State) : State :=
  let c := wrap32 (s.ringCycle + 4294967295)
  if s.copying && (s.ring k).copiedCycle != c then
    sendRing 3 k { s.newFrame k 0xFFFF 0 (s.dataPayload k) with cycle := c } (s.modRing k fun r => { r with copiedCycle := c })
  else s

/-- Ring k once it is no longer in use: off, without a master here (R428, Table 14.13). -/
def dropRing (k : Nat) (s : State) : State :=
  let r := s.ring k
  if s.ringsInUse.contains k || (decide (r.state = .off) && !r.isMaster) then s
  else
    let s1 := if r.isMaster then masterRecord k 2 r.master (s.rank k) s else s
    (setRingState k .off s1).modRing k fun x =>
    { x with isMaster := false, yielding := false, units := 0, bestRun := 0, belowRun := 0, syncPorts := [], unitsAcc := [], seen := [] }

/-- RING_CYCLE (R414): the cycle that starts at the next multiple of 250 µs of node time. -/
def execRingCycle (s : State) : Res :=
  let s1 := s.beginRing
  if !s1.logicOn then .next s1
  else
    let s2 := [0, 1, 2, 3].foldl (fun s p => policeEnd p s) (dataRestarted (dropRing 1 s1))
    .next (countCycles (s2.ringsInUse.foldl (fun s k => startCycle k (owedCopy k s)) s2))

/-- What SYNC says of a hold is done here too (R425); a hold that has fallen due stands until its sweep boundary. -/
def followLeap (f : Frame) (s : State) : State :=
  let armed := hasBit (byteAt f.payload 24) 2
  let v := fieldAt f.payload 16 8
  if s.leapDue then s
  else if armed then if s.clk.leapAt = v then s else armLeap v s
  else if s.clk.leapAt ≠ 0 then armLeap 0 s else s

/-- The ring whose master this unit takes time from: the Uplink ring on a bridge (R426). -/
def State.timeRing (s : State) : Nat := if s.bridgeEn then 1 else 0

/-- The offset of a SYNC that arrived at `stamp` ns of node time (R425). -/
def syncOffset (p : Nat) (stamp : Int) (f : Frame) (s : State) : Int :=
  (fieldAt f.payload 0 8 : Int) + toSigned 8 (fieldAt f.payload 8 8) / 1000 + (s.port p).delay - stamp

/-- A SYNC as time (R397, R425): the lock, and node time on its way. -/
def ringTime (p : Nat) (stamp : Int) (f : Frame) (s : State) : State :=
  let trusted := hasBit (byteAt f.payload 24) 0
  if !s.ringWanted || (s.trustedNow && !trusted && !s.clk.ringLock) then s
  else
    let off := syncOffset p stamp f s
    let s1 := s.modClk fun c => { c with ringAt := s.now, offset := if s.clk.source = .time then c.offset else off }
    let s2 := if s1.clk.ringLock then s1 else lockTo trusted (s1.modClk fun c => { c with ringLock := true })
    if s2.clk.source ≠ .ring || s2.leapDue then s2 else moveBy off none (followLeap f s2)

/-- A SYNC better for this cycle than the one node time follows: the lower HOPS, the eastward copy on a tie (R425). -/
def betterCopy (f : Frame) (r : RingRun) : Bool :=
  match r.syncBest with
  | none => true
  | some (c, h, d) => c != f.cycle || decide (f.hops < h) || (f.hops == h && d && !f.dir)

/-- The master of ring k is another now (R424). -/
def noteMaster (k : Nat) (f : Frame) (s : State) : State :=
  let r := s.ring k
  if r.master = f.src && r.masterUnit = f.unit then s
  else
    let s1 := s.modRing k fun x => { x with master := f.src, masterUnit := f.unit, belowRun := 0 }
    if r.isMaster then s1 else masterRecord k 3 f.src f.prio s1

/-- A SYNC of another unit on port p. -/
def takeSync (p : Nat) (stamp : Int) (f : Frame) (s : State) : State :=
  let k := p / 2
  let r := s.ring k
  let better := ranksAbove f.prio f.src (s.rank k) s.ponor.nodeAddr
  if r.isMaster && !better then s
  else
    let s1 := if r.isMaster then s.modRing k fun x => { x with yielding := true } else s
    let (_, s2) := firstCopy 1 p f (noteMaster k f s1)
    let s3 := s2.modRing k fun x =>
      { x with syncPorts := if x.syncPorts.contains p then x.syncPorts else x.syncPorts ++ [p],
               polls := byteAt f.payload 26, tRing := fieldAt f.payload 28 4 }
    if betterCopy f (s3.ring k) then
      let s4 := s3.modRing k fun x => { x with syncBest := some (f.cycle, f.hops, f.dir) }
      if k = s4.timeRing then ringTime p stamp f s4 else s4
    else s3

/-- SYNC_FRAME: a SYNC arrives on port p, `ns` past the present microsecond. -/
def execSyncFrame (t : Nat) (ns : Fin 1000) (p : Port) (f : Frame) (s : State) : Res :=
  let s1 := s.begin t
  let stamp : Int := s1.stamp ns.val
  let (ok, s2) := receive 1 p.val f s1
  if !ok then .next s2
  else if f.unit = Config.unitAddress then
    .next (s2.modRing (p.val / 2) fun r =>
      { r with syncPorts := if r.syncPorts.contains p.val then r.syncPorts else r.syncPorts ++ [p.val],
               tRing := (stamp - r.syncTx).toNat })
  else .next (takeSync p.val stamp f s2)

/-- The delay of a link, ns, where the neighbour's LINK answers a known one of this unit (R425). -/
def linkDelay (x : PortRun2) (f : Frame) : Option Int :=
  match x.sent.find? fun y => y.1 == fieldAt f.payload 4 4 with
  | some (_, a) =>
    let b : Int := fieldAt f.payload 8 8
    let c : Int := fieldAt f.payload 16 8
    if x.rxOf + 1 = f.cycle then some (((x.tRx : Int) - a - (c - b)) / 2) else none
  | none => none

/-- What a LINK of the port's own ring tells of the link and the neighbour (R425). -/
def PortRun2.heard (stamp : Nat) (f : Frame) (x : PortRun2) : PortRun2 :=
  let ds := match linkDelay x f with | some d => (d :: x.delays).take 16 | none => x.delays
  { x with rxOf := f.cycle, tRx := stamp, neighbour := f.src, nUnit := f.unit, nPort := byteAt f.payload 0, delays := ds,
           rx := wrap32 (x.rx + 1) }

/-- A valid LINK on port p (R425, R427); of another ring it shows the port MISCABLED and is not taken (R409). -/
def takeLink (p : Nat) (stamp : Nat) (f : Frame) (s : State) : State :=
  let x := s.port p
  let np := byteAt f.payload 0
  let mine := f.ringId == s.ringId (p / 2)
  let right := mine && np / 2 == p / 2
  let run := if right then x.linkRun + 1 else 0
  let s1 := s.modPort p fun y => { (if mine then y.heard stamp f else y) with linkRun := run, linkAt := s.now }
  match s.portState p with
  | .disabled => s
  | .down => s
  | .cut => s1
  | .silent => if !right then setPortState p .miscabled s1 else if 8 ≤ run then setPortState p (upState p np) s1 else s1
  | _ => setPortState p (if right then upState p np else .miscabled) s1

/-- LINK_FRAME: a LINK arrives on port p; a port that is DISABLED or DOWN receives none. -/
def execLinkFrame (t : Nat) (ns : Fin 1000) (p : Port) (f : Frame) (s : State) : Res :=
  let s1 := s.begin t
  let st := s1.portState p.val
  if !s1.logicOn || s1.nd.dataStalled || st = .disabled || st = .down then .next s1
  else
    let s2 := police p.val f (if foreignFrame f then s1.count 20 1 else s1)
    if foreignFrame f then .next s2
    else if !f.good then .next (s2.modPort p.val fun x => { x with linkRun := 0, fcsErr := wrap32 (x.fcsErr + 1) })
    else .next (takeLink p.val (s2.stamp ns.val) f s2)

/-- ADDR_CLASH changed, with its record (R416). -/
def setClash (on : Bool) (k unit : Nat) (s : State) : State :=
  let s1 : State := { s with ponor := { s.ponor with addrClash := on, clashFree := 0 } }
  if s.ponor.addrClash = on then s1
  else
    let s2 : State := { s1 with ponor := { s1.ponor with clashRing := k, clashUnit := unit } }
    submit .data 0x144 (le 1 k ++ le 1 (if on then 1 else 2) ++ le 2 s.ponor.nodeAddr ++ le 4 unit) s2

/-- DATA with the own node address from a stranger (R416). -/
def State.clashes (s : State) (f : Frame) : Bool :=
  f.src == s.ponor.nodeAddr && f.unit != Config.unitAddress && !(s.paired && f.unit == Config.peerUnitAddress)

/-- A summary remembered for R433. -/
def noteSummary (f : Frame) (s : State) : State :=
  let x : Summary := ⟨f.src, 0, f.payload.take 16⟩
  { s with ponor := { s.ponor with summaries := s.ponor.summaries.filter (·.node != f.src) ++ [x] } }

/-- A DATA frame taken on ring k (R415, R419, R424, R433). -/
def takeData (k : Nat) (f : Frame) (s : State) : State :=
  let es := dataEntries f.payload
  let s1 := s.modRing k fun r => { r with l0Acc := r.l0Acc + wireBytes f, seen := r.seen ++ [⟨f.src, f.prio⟩] }
  let s2 := (slotKeys s.cfg.inForce).foldl (takeSlot k f es) s1
  if k = 0 && s2.bridgeEn && f.src != s2.ponor.nodeAddr then noteSummary f s2 else s2

/-- Compatibility mode: the standby unit sends the DATA of its duty unit, once a cycle (R461). -/
def copyData (k : Nat) (pl : List Byte) (s : State) : State :=
  let c := s.ringCycle
  if s.copying && (s.ring k).copiedCycle != c then
    sendRing 3 k (s.newFrame k 0xFFFF 0 pl) (s.modRing k fun r => { r with copiedCycle := c })
  else s

/-- A frame of the peer with this node's address. -/
def State.fromPeer (s : State) (f : Frame) : Bool :=
  s.paired && f.src == s.ponor.nodeAddr && f.unit == Config.peerUnitAddress

/-- DATA_FRAME (R416, R419). -/
def execDataFrame (t : Nat) (p : Port) (f : Frame) (s : State) : Res :=
  let s1 := s.begin t
  let k := p.val / 2
  let (ok, s2) := receive 3 p.val f s1
  if !ok || f.unit = Config.unitAddress then .next s2
  else
    let (new, s3) := firstCopy 3 p.val f s2
    if !new then .next s3
    else
      let s4 := if s3.clashes f then setClash true k f.unit s3 else s3
      let s5 := if s4.fromPeer f then copyData k f.payload s4 else s4
      .next (takeData k f s5)

/-- In compatibility mode a cycle without the duty unit's DATA 200 µs after its start: the standby unit sends its own
(R461). -/
def lateCopy (k : Nat) (s : State) : State := if 200 ≤ s.node % 250 then copyData k (s.dataPayload k) s else s

/-- POLL_FRAME (R421). -/
def execPollFrame (t : Nat) (p : Port) (f : Frame) (s : State) : Res :=
  let s1 := s.begin t
  let k := p.val / 2
  let (ok, s2) := receive 4 p.val f s1
  if !ok || f.unit = Config.unitAddress then .next s2
  else
    let (new, s3) := firstCopy 4 p.val f (lateCopy k s2)
    .next (if new && fieldAt f.payload 0 6 = Config.unitAddress then pollReply k s3 else s3)

/-- The master's note of a reply: whether the unit's last one carried MORE (R421). -/
def noteMore (k : Nat) (f : Frame) (s : State) : State :=
  if (s.ring k).isMaster then
    s.modRing k fun r =>
      let us := r.moreUnits.filter (· != f.unit)
      { r with moreUnits := if f.more then us ++ [f.unit] else us }
  else s

/-- NIL_FRAME. -/
def execNilFrame (t : Nat) (p : Port) (f : Frame) (s : State) : Res :=
  let s1 := s.begin t
  let (ok, s2) := receive 5 p.val f s1
  if !ok || f.unit = Config.unitAddress then .next s2
  else
    let (new, s3) := firstCopy 5 p.val f s2
    .next (if new then noteMore (p.val / 2) f s3 else s3)

/-- The packet in these bytes, that came by a link (R465, Table 16.4 step 1): none where length, MAGIC or CRC fails. -/
def parsePacket (l : Link) (bs : List Byte) : Option Packet :=
  let n := fieldAt bs 20 2
  if bs.length ≠ 28 + n || fieldAt bs 0 4 ≠ 0x31545645 || fieldAt bs (24 + n) 4 ≠ crc32 (bs.take (24 + n)) then none
  else some ⟨l, byteAt bs 4, byteAt bs 5, fieldAt bs 6 2, byteAt bs 8, byteAt bs 9, fieldAt bs 10 2, fieldAt bs 12 4,
    fieldAt bs 16 2, fieldAt bs 18 2, fieldAt bs 22 2, slice bs 24 n⟩

/-- The ticket of a packet. -/
def Packet.ticket (q : Packet) : Ticket := ⟨q.link, q.flags, q.opcode, q.session, q.retry, q.sequence, q.source⟩

/-- The data plane's busy answer, without a MAC, since it holds no key (R39; log 9). -/
def busyAnswer (q : Packet) (s : State) : State :=
  let tk := q.ticket
  let r := replyPacket { tk with flags := setBit tk.flags flagAuth false } stBusy [] s
  let s1 : State := { s with ponor := { s.ponor with busy := s.ponor.busy ++ [r] },
                             host := { s.host with busyReplies := s.host.busyReplies + 1 } }
  s1.count 10 1

/-- A packet for the management plane (R39, R468): into the command queue, discarded, or answered busy. -/
def queuePacket (dest : Nat) (q : Packet) (s : State) : State :=
  if q.source != q.link.src || (dest == 0xFFFF && q.opcode != 0x1604) then discard s
  else if s.nd.mgmtStalled || 64 ≤ s.host.cmdQueue.length then if hasBit q.flags flagReply then discard s else busyAnswer q s
  else
    let s1 : State := { s with host := { s.host with cmdQueue := s.host.cmdQueue ++ [q] } }
    s1.peak 13 s1.host.cmdQueue.length

/-- A frame into a bridge queue of 64 (R432). -/
def bridgeTo (k : Nat) (f : Frame) (s : State) : State :=
  let q := s.bridgeQueue k
  if 64 ≤ q.length then s.count 21 1 else setBridgeQueue k (q ++ [⟨f.src, f.dest, f.seq, f.payload⟩]) s

/-- The address lies in the bridge's range (R431). -/
def State.inRange (s : State) (a : Nat) : Bool := decide (s.param 0x14000006 ≤ a) && decide (a ≤ s.param 0x14000007)

/-- A new ACYC passed over the bridge (R432). -/
def bridgeAcyc (k : Nat) (f : Frame) (s : State) : State :=
  if !s.bridging || f.dest = 0xFFFF then s
  else if k = 0 then if s.inRange f.dest then s else bridgeTo 1 f s
  else if s.inRange f.dest && f.dest != s.ponor.nodeAddr then bridgeTo 0 f s else s

/-- An ACYC addressed to this node: the sourcing unit takes it; in compatibility mode the standby unit passes it to the duty
unit (R422, R461). -/
def deliverAcyc (p : Port) (f : Frame) (s : State) : State :=
  if !(f.dest == s.ponor.nodeAddr || f.dest == 0xFFFF) then s
  else if s.sourcing then
    match parsePacket ⟨false, false, p, f.src, 0⟩ f.payload with
    | some q => queuePacket f.dest q s
    | none => discard s
  else if s.copying then s.emit (.peer 1 f.payload) else s

/-- ACYC_FRAME (R413, R422, R432). -/
def execAcycFrame (t : Nat) (p : Port) (f : Frame) (s : State) : Res :=
  let s1 := s.begin t
  let k := p.val / 2
  let (ok, s2) := receive 6 p.val f s1
  if !ok || f.unit = Config.unitAddress then .next s2
  else
    let (new, s3) := firstCopy 6 p.val f s2
    if !new then .next s3
    else
      let s4 := noteMore k f s3
      let s5 := if s4.copying && s4.fromPeer f then s4.modRing k fun r => { r with copies := lastN 64 (r.copies ++ [f]) } else s4
      .next (deliverAcyc p f (bridgeAcyc k f s5))

/-- BABBLE_REOPEN: the hold of a CUT port has ended (R430). -/
def execBabbleReopen (t : Nat) (p : Port) (s : State) : Res :=
  let s1 := s.begin t
  let x := s1.port p.val
  if s1.portState p.val = .cut && x.cutAt + x.cutHold ≤ s1.now then
    let st := if !x.sync then .down else if 8 ≤ x.linkRun then upState p.val x.nPort else .silent
    let s2 := setPortState p.val st (s1.modPort p.val fun y => { y with reopenAt := some s1.now, bytes := 0 })
    .next (submit .data 0x143 (le 1 p.val ++ le 1 2 ++ le 2 (x.cutHold / 1000000) ++ le 4 x.bytes) s2)
  else .next s1

/-- PORT_SILENT: four cycles without a valid LINK (Table 14.7). -/
def execPortSilent (t : Nat) (p : Port) (s : State) : Res :=
  let s1 := s.begin t
  let st := s1.portState p.val
  if s1.logicOn && (st.works || decide (st = .miscabled)) && (s1.port p.val).linkAt + 1000 ≤ s1.now then
    .next (setPortState p.val .silent (s1.modPort p.val fun x => { x with linkRun := 0 }))
  else .next s1

/-- Synchronisation of port p lost or gained (Table 14.7); the guard goes on to hold a port that is CUT (R430). -/
def setSync (p : Nat) (up : Bool) (s : State) : State :=
  let s1 := s.modPort p fun x => { x with sync := up, linkRun := if x.sync && up then x.linkRun else 0 }
  match s.portState p, up with
  | .disabled, _ => s
  | .cut, _ => s1
  | .down, true => setPortState p .silent s1
  | _, true => s1
  | _, false => setPortState p .down s1

/-- PORT_SYNC_LOSS. -/
def execPortSyncLoss (t : Nat) (p : Port) (up : Bool) (s : State) : Res :=
  let s1 := s.begin t
  .next (if s1.logicOn then setSync p.val up s1 else s1)

/-- DATA_START (R416). -/
def execDataStart (t : Nat) (s : State) : Res :=
  let s1 := s.begin t
  if s1.alive && !s1.ponor.dataStarted && 8 ≤ s1.ponor.dataWait && !s1.ponor.addrClash then
    .next { s1 with ponor := { s1.ponor with dataStarted := true } }
  else .next s1

/-- ADDR_CLASH_CLEAR: 400 cycles without a clashing frame (R416). -/
def execAddrClashClear (t : Nat) (s : State) : Res :=
  let s1 := s.begin t
  .next (if s1.ponor.addrClash && 400 ≤ s1.ponor.clashFree then
    setClash false s1.ponor.clashRing s1.ponor.clashUnit s1 else s1)

/-- `s` with an SFP cage changed. -/
def State.modSfp (s : State) (p : Nat) (f : Sfp → Sfp) : State := s.modNd fun d => { d with sfp := tmod Sfp.none d.sfp p f }

/-- SFP_INSERT (R90): a module is fitted, identified and reported; one that declares no 1000BASE-X is refused, which the FAULT
lamp shows (`State.faultLamp`). -/
def execSfpInsert (t : Nat) (p : Port) (ok : Bool) (vendor part serial : List Byte) (s : State) : Res :=
  let s1 := s.begin t
  let told (s : State) : State :=
    if s.logicOn then s.emit (.report (.sfpIdentity p.val (fit 16 vendor) (fit 16 part) (fit 16 serial))) else s
  let fitted : Sfp := ⟨true, !ok, fit 16 vendor, fit 16 part, fit 16 serial, [], none⟩
  if ok then .next (told (s1.modSfp p.val fun _ => fitted))
  else
    let s3 := told (followPort p.val (s1.portState p.val) (s1.modSfp p.val fun _ => fitted))
    .next (if s3.logicOn then hwEvent 6 s3 else s3)

/-- SFP_REMOVE: a ring break at the port (R91). -/
def execSfpRemove (t : Nat) (p : Port) (s : State) : Res :=
  let s1 := s.begin t
  if !s1.logicOn then .next (s1.modSfp p.val fun _ => Sfp.none)
  else
    let s2 := setSync p.val false s1
    .next (followPort p.val (s2.portState p.val) (s2.modSfp p.val fun _ => Sfp.none))

/-- SFP_DIAG_POLL (R90): the diagnostics of a module that offers them, reported every 1,000 ms. -/
def execSfpDiagPoll (t : Nat) (p : Port) (d : List Rat) (s : State) : Res :=
  let s1 := s.begin t
  let x := tget Sfp.none s1.nd.sfp p.val
  let due := match x.diagAt with | some a => decide (a + 1000000 ≤ s1.now) | none => true
  .next (if s1.logicOn && due && x.fitted && !x.refused && s1.portEnabled p.val && !d.isEmpty then
      (s1.modSfp p.val fun y => { y with diag := d.take 5, diagAt := some s1.now }).emit (.report (.sfpDiag p.val (d.take 5)))
    else s1)

/-- PNR_STATUS (Table 14.13). -/
def pnrStatusBytes (s : State) : List Byte :=
  let flags := bit s.sendsData + 2 * bit s.bridging + 4 * bit s.ponor.addrClash + 8 * bit (s.ring 0).isMaster +
    16 * bit (s.ring 1).isMaster
  let ring (k : Nat) : List Byte :=
    let r := s.ring k
    le 1 r.state.code ++ le 1 r.units ++ le 2 r.master ++ le 4 r.tRing ++ le 4 r.l0 ++ le 1 r.polls ++ le 1 (bit r.budgetOver) ++
      le 2 0 ++ le 4 r.dups
  le 2 s.ponor.nodeAddr ++ le 1 flags ++ le 1 0 ++ ring 0 ++ ring 1

/-- PNR_STATUS. -/
def execPnrStatus (rq : Request) (s : State) : Res := answerNow 0x1401 rq (plainRead pnrStatusBytes) s

/-- PNR_PORT's reply (Table 14.14). -/
def pnrPortBytes (p : Nat) (s : State) : List Byte :=
  let x := s.port p
  le 1 p ++ le 1 (s.portState p).code ++ le 2 x.neighbour ++ le 6 x.nUnit ++ le 1 x.nPort ++ le 1 0 ++ leInt 4 x.delay ++
    le 4 x.fcsErr ++ le 4 x.cuts ++ le 4 x.rx ++ le 4 x.tx

/-- PNR_PORT's own part: CLEAR acts after the reply is built. -/
def pnrPortBody (_tk : Ticket) (pl : List Byte) (s : State) : Nat × List Byte × State :=
  let p := byteAt pl 0
  if pl.length ≠ 2 || 4 ≤ p then (stParam, [], s)
  else
    let s1 := if hasBit (byteAt pl 1) 0 then s.modPort p fun x => { x with fcsErr := 0, cuts := 0, rx := 0, tx := 0 } else s
    (stDone, pnrPortBytes p s, s1)

/-- PNR_PORT. -/
def execPnrPort (rq : Request) (s : State) : Res := answerNow 0x1402 rq pnrPortBody s

/-- PNR_SLOT's own part (Table 14.8). -/
def pnrSlotBody (_tk : Ticket) (pl : List Byte) (s : State) : Nat × List Byte × State :=
  let n := fieldAt pl 0 2
  let out := byteAt pl 2
  if pl.length ≠ 3 || 1 < out || (if out = 1 then 512 else 1024) ≤ n then (stParam, [], s)
  else
    let q := if out = 1 then 1024 + n else n
    (stDone, slotBytes { tget RemoteSlot.initial s.ponor.slots q with index := s.slotWhat q % 65536 }, s)

/-- PNR_SLOT. -/
def execPnrSlot (rq : Request) (s : State) : Res := answerNow 0x1403 rq pnrSlotBody s

end Sys2Proof.Machine
end

