-- ==== Sys2Proof/Machine/Lanes.lean ====
section
/-! DEFINITION. Safety lanes (chapter 9). -/

namespace Sys2Proof.Machine

/-- Lane l is held by a commit from phase 1 to the last phase: LANE_ARM, LANE_RESET and AUTO_ARM are refused (R509). -/
def State.commitHolds (s : State) (l : Nat) : Bool :=
  match s.cfg.commit with
  | some c => decide (0 < s.cfg.phaseDone) && decide (s.cfg.phaseDone < c.phases.length) && c.lanes.contains l
  | none => false

/-- FLAGS of the lane setup (Table 9.6): ENABLE 0, DEMAND_DIR 1, FAULT_ACTION 2, PULSE_TEST 3, AUTO_ARM 4. -/
def State.laneFlag (s : State) (l k : Nat) : Bool := hasBit (s.cf .lane l 0) k

/-- Channel of leg A (1), leg B (2) or the output leg (3). -/
def State.laneChan (s : State) (l k : Nat) : Nat := s.cf .lane l k

/-- Bytes 2 and 3 of LANE_READ (Table 9.8). -/
def LaneRun.flags (r : LaneRun) : Nat :=
  bitsOf [r.legA.proven, r.legB.proven, r.legA.fault, r.legB.fault, r.degraded, r.legDisc, r.stuckHs, r.stuckLs, r.outFault,
    r.driveDisc]

/-- The LANE record of lane l where its STATE, a flag or TRIP_CAUSE differs from `old` (Tables 9.8, 12.3). -/
def laneRecord (l : Nat) (old : LaneRun) (s : State) : State :=
  let new := s.lane l
  if new.state = old.state && new.flags = old.flags && new.tripCause = old.tripCause then s
  else
    submit .control 0x060
      (le 1 l ++ le 1 new.state.code ++ le 2 new.flags ++ le 1 new.tripCause ++ le 3 0 ++ le 4 (s.epochOf (512 + l))) s

/-- Lane l changed, with its record. -/
def setLane (l : Nat) (f : LaneRun → LaneRun) (s : State) : State := laneRecord l (s.lane l) (s.modLane l f)

/-- The lane trips (R294, R297): its first cause stands, and both close bits clear. -/
def LaneRun.tripped (cause : Nat) (node : Micros) (r : LaneRun) : LaneRun :=
  if r.state = .armed then
    { r with state := .tripped, tripCause := cause, tTrip := node, tripCount := wrap16 (r.tripCount + 1) }
  else r

/-- The output leg publishes 1.0 while both switches are closed (R296). -/
def laneResult (l : Nat) (s : State) : State :=
  let n := s.laneChan l 3
  let r := s.lane l
  let v : Rat := bit (r.hs.closed && r.ls.closed)
  if s.fn n != .laneOut || ((s.ch n).given && decide ((s.ch n).latest.value = f32Of v)) then s
  else eventResult n v 0 0 s.node s

/-- Both switches of a lane open at once. -/
def LaneRun.openBoth (r : LaneRun) : LaneRun := { r with hs := { r.hs with closed := false }, ls := { r.ls with closed := false } }

/-- A leg in fault (R293). -/
def legFault (q : Nat) : Bool := [8, 2, 3, 6, 1, 10].contains q

/-- The leg's demand settings (R292): limit, hysteresis, confirmations; fixed for a DI leg. -/
def State.legLimits (s : State) (l n : Nat) : Rat × Rat × Nat :=
  if s.subFn n == .di then (1 / 2, 0, 1) else (s.cr .lane l 4, s.cr .lane l 5, s.cf .lane l 8)

/-- One evaluation of a leg whose record is x (R292, R293, R298). A leg in fault is in no demand, and the result that ends its fault is
new to it. -/
def LegRun.eval (low : Bool) (lim hyst : Rat) (confirm : Nat) (node : Micros) (x : Result) (g : LegRun) : LegRun :=
  let fault := legFault x.quality
  if fault then { g with fault := true, demand := false, count := 0, seen := false, soundSince := none }
  else
    let v := f32Val x.value
    let beyond := if low then decide (v ≤ lim) else decide (lim ≤ v)
    let back := if low then decide (lim + hyst < v) else decide (v < lim - hyst)
    let fresh := !g.seen || x.seq != g.seq
    let count := if !fresh then g.count else if beyond then g.count + 1 else 0
    let demand := if g.demand then !(fresh && back) else decide (confirm ≤ count)
    { g with fault := false, demand := demand, count := count, seq := x.seq, seen := true,
             held := demand, tDemand := if demand && !g.held then node else g.tDemand, proven := g.proven || demand,
             soundSince := some (g.soundSince.getD node) }

/-- The legs of lane l evaluated from the results gathered in this cycle. -/
def evalLegs (l : Nat) (s : State) (r : LaneRun) : LaneRun :=
  let low := s.laneFlag l 1
  let one (k : Nat) (g : LegRun) : LegRun :=
    let n := s.laneChan l k
    let (lim, hyst, confirm) := s.legLimits l n
    g.eval low lim hyst confirm s.node (s.inputRecord n)
  { r with legA := one 1 r.legA, legB := one 2 r.legB }

/-- A leg in demand, out of fault. -/
def LegRun.trips (g : LegRun) : Bool := g.demand && !g.fault

/-- Both legs are out of demand and out of fault (R304). -/
def LaneRun.legsClear (r : LaneRun) : Bool := !r.legA.fault && !r.legB.fault && !r.legA.demand && !r.legB.demand

/-- DEGRADE_LIMIT, µs. -/
def State.degradeLimit (s : State) (l : Nat) : Nat := 3600000000 * s.cf .lane l 9

/-- The start of the fault from which DEGRADE_LIMIT runs (R294): that of the leg in fault, or where neither is, of the later one. -/
def LaneRun.degradeFrom (r : LaneRun) : Option Micros :=
  match r.legA.degradeFrom, r.legB.degradeFrom with
  | some a, some b => some (if r.legA.fault then a else if r.legB.fault then b else max a b)
  | some a, none => some a
  | none, b => b

/-- DEGRADE_LIMIT has run out (R294). -/
def LaneRun.overdue (limit : Nat) (node : Micros) (r : LaneRun) : Bool :=
  r.degraded && (match r.degradeFrom with | some t => decide (t + limit ≤ node) | none => false)

/-- A leg whose fault degrades its lane while `alone` holds, until it has been out of fault for 1,000 ms (R294). -/
def LegRun.degrade (alone : Bool) (node : Micros) (g : LegRun) : LegRun :=
  let sound := match g.soundSince with | some t => decide (t + 1000000 ≤ node) | none => false
  if g.fault then { g with degradeFrom := if alone then some (g.degradeFrom.getD node) else g.degradeFrom }
  else if sound then { g with degradeFrom := none } else g

/-- DEGRADED by R294: a fault on one leg of an ARMED lane with FAULT_ACTION DEGRADE sets it; it clears when the faulted leg has been
out of fault for 1,000 ms. -/
def LaneRun.degrade (action : Bool) (node : Micros) (r : LaneRun) : LaneRun :=
  let alone := decide (r.state = .armed) && action && (r.legA.fault != r.legB.fault)
  let a := r.legA.degrade alone node
  let b := r.legB.degrade alone node
  { r with legA := a, legB := b, degraded := a.degradeFrom.isSome || b.degradeFrom.isSome }

/-- The trip that R294 finds in an ARMED lane, by TRIP_CAUSE. -/
def LaneRun.cause (action : Bool) (limit : Nat) (node : Micros) (r : LaneRun) : Option Nat :=
  if r.state ≠ .armed then none
  else if r.legA.trips then some 1
  else if r.legB.trips then some 2
  else if (r.legA.fault || r.legB.fault) && !action || (r.legA.fault && r.legB.fault) then some 3
  else if r.overdue limit node then some 4
  else none

/-- LEG_DISC by R295 for two analog legs with values; `apart` says whether they differ by more than DISC_LIMIT, none where they
cannot be compared: the flag then stands and both times start again (DESIGN CHOICE, log 258). -/
def LaneRun.disc (apart : Option Bool) (time : Nat) (node : Micros) (r : LaneRun) : LaneRun :=
  match apart with
  | none => { r with differSince := none, agreeSince := none }
  | some true =>
    let t := r.differSince.getD node
    { r with differSince := some t, agreeSince := none, legDisc := r.legDisc || decide (t + time ≤ node) }
  | some false =>
    let t := r.agreeSince.getD node
    { r with agreeSince := some t, differSince := none, legDisc := r.legDisc && decide (node < t + time) }

/-- The legs of lane l compared (R295). -/
def State.legsApart (s : State) (l : Nat) : Option Bool :=
  let a := s.inputRecord (s.laneChan l 1)
  let b := s.inputRecord (s.laneChan l 2)
  let lim := s.cr .lane l 6
  if lim = 0 || !(s.subFn (s.laneChan l 1)).converts || !f32Finite a.value || !f32Finite b.value then none
  else some (decide (lim < rabs (f32Val a.value - f32Val b.value)))

/-- Discrepancy of lane l at this instant. -/
def discStep (l : Nat) (s : State) : State := setLane l (·.disc (s.legsApart l) (1000 * s.cf .lane l 7) s.node) s

/-- Trips of R294 at this instant. -/
def tripStep (l : Nat) (s : State) : State :=
  match (s.lane l).cause (s.laneFlag l 2) (s.degradeLimit l) s.node with
  | none => s
  | some c => setLane l (·.tripped c s.node) s

/-- The arming check (R301): the flag that it sets, none where it passes: 0 STUCK_LS, 1 STUCK_HS, 2 OUT_FAULT. It ends with the first
step that fails (DESIGN CHOICE, log 257). -/
def armFault (vFs : Rat) (a : ArmReading) : Option Nat :=
  if a.limHS then some 2
  else if a.vTB < vFs - 5 then (if 10 ≤ a.iHS then some 0 else some 2)
  else if a.limLS then some 2
  else if 5 < a.vTA then (if 10 ≤ a.iLS then some 1 else some 2)
  else none

/-- A flag of a failed arming check set. -/
def LaneRun.armFlag (k : Nat) (r : LaneRun) : LaneRun :=
  match k with | 0 => { r with stuckLs := true } | 1 => { r with stuckHs := true } | _ => { r with outFault := true }

/-- The reading of lane l's arming check; without one the terminals read as open: 0 V, 0 mA (log 29). -/
def armReading (l : Nat) (arms : List ArmReading) : ArmReading :=
  match arms.find? (fun a => (a.lane : Nat) == l) with
  | some a => a
  | none => ⟨0, 0, 0, false, 0, 0, false⟩

/-- Lane l armed: SHORT and OVERLOAD of its output clear (log 228). -/
def laneArmed (l : Nat) (s : State) : State :=
  let s1 := setDio (s.laneChan l 3) (fun d => { d with status := setBit (setBit d.status 2 false) 3 false }) s
  setLane l (fun r => { r with state := .armed, tripCause := 0, pulseAt := s.node }) s1

/-- The flags that LANE_RESET clears before its arming check (R304). -/
def laneCleared (l : Nat) (s : State) : State :=
  setLane l (fun r => { r with stuckHs := false, stuckLs := false, outFault := false, driveDisc := false }) s

/-- Lane l disarmed (R304). -/
def laneDisarmed (l : Nat) (s : State) : State := setLane l (fun r => { r with state := .ready }) s

/-- Arming after the guards of the legs hold (R301): the check, then ARMED; true where it armed. -/
def armLane (l : Nat) (arms : List ArmReading) (s : State) : Bool × State :=
  match armFault (s.bay (bayOf (s.laneChan l 3))).vFs (armReading l arms) with
  | some k => (false, setLane l (·.armFlag k) s)
  | none => (true, laneArmed l s)

/-- The transitions of Table 9.2 that need no command. -/
def laneMoves (l : Nat) (arms : List ArmReading) (s : State) : State :=
  let r := s.lane l
  let away := decide (s.nd.mode = .commission) || decide (s.nd.mode = .safe)
  match r.state with
  | .armed => if away then setLane l (fun r => { r with state := .ready }) s else s
  | .tripped => if away then setLane l (fun r => { r with state := .ready }) s else s
  | .unproven => if r.legA.proven && r.legB.proven then setLane l (fun r => { r with state := .ready }) s else s
  | .ready =>
    if s.laneFlag l 4 && decide (s.nd.mode = .duty) && r.legsClear && !s.commitHolds l then (armLane l arms s).2 else s
  | .off => s

/-- One lane in the compute phase (R292 to R298): legs, trips, degradation, discrepancy and transitions; one state change a
phase. -/
def laneCompute (l : Nat) (arms : List ArmReading) (s : State) : State :=
  if (s.lane l).state = .off then s
  else
    let s1 := setLane l (evalLegs l s) s
    let was := (s1.lane l).state
    let s2 := discStep l (setLane l (·.degrade (s1.laneFlag l 2) s1.node) s1)
    let s3 := tripStep l s2
    if (s3.lane l).state = was then laneMoves l arms s3 else s3

/-- The close bits the cores send for lane l in this cycle (R299): set while the lane is ARMED. -/
def sendLane (l : Nat) (s : State) : State :=
  let close := decide ((s.lane l).state = .armed)
  s.modLane l fun r => { r with hs := { r.hs with sent := close }, ls := { r.ls with sent := close } }

/-- The bay of lane l's output leg. -/
def State.laneBay (s : State) (l : Nat) : Nat := bayOf (s.laneChan l 3)

/-- A line's closing acts at a boundary (R299): its latest valid word holds the bit, its watchdog has not expired, the gate is
open and no limit holds the switch. An open switch closes in an ARMED lane alone, so that a reset leaves none to close before a
LANE_ARM (R300). -/
def DriveLine.boundary (gate hold armed : Bool) (d : DriveLine) : DriveLine :=
  { d with closed := d.bit && !d.expired && gate && !hold && (d.closed || armed) }

/-- An enabled lane has channel n as its output leg. -/
def State.laneDrives (s : State) (n : Nat) : Bool :=
  (List.range 32).any fun l => decide ((s.lane l).state ≠ .off) && s.laneChan l 3 == n

/-- The switches of lane l at a boundary. -/
def laneBoundary (l : Nat) (s : State) : State :=
  if (s.lane l).state = .off then (if s.laneDrives (s.laneChan l 3) then s else laneResult l s)
  else
    let g := s.gate (s.laneBay l) && s.running (s.laneChan l 3) && !(s.bay (s.laneBay l)).ssRun &&
      !(s.bay (s.laneBay l)).fsLost
    let hold := decide ((s.lane l).state = .tripped)
    let armed := decide ((s.lane l).state = .armed)
    laneResult l (s.modLane l fun r => { r with hs := r.hs.boundary g hold armed, ls := r.ls.boundary g hold armed })

/-- What FS_LOST does to the stages of bay b (R283, R285, Table 8.12): they lock out, lamps commanded on are DARK; they drive again when
it clears, and a running bay makes what an input or lane lost below the latch floor again. -/
def supplyStages (b : Nat) (lost : Bool) (s : State) : State :=
  if lost then
    let s1 := (bayChans b).foldl (fun s n => lampSupply n (lockStage n s)) s
    (List.range 32).foldl (fun s l =>
      if s.laneBay l = b && decide ((s.lane l).state ≠ .off) then laneResult l (s.modLane l LaneRun.openBoth) else s) s1
  else (bayChans b).foldl (fun s n =>
    let s1 := if s.running n && !(s.fn n).output then s.modCh n fun r => r.connect (connIn s.cfg.inForce n) else s
    (unlockStage n s1).modLamp n fun l => { l with run := 0 }) s

/-- FIELD_SUPPLY_THRESHOLD (R284, R285): a threshold of bay b is confirmed or cleared at V_FS v; the bay engine records it, the
lock-out of FS_LOST is field-side hardware. -/
def execFieldSupplyThreshold (t : Nat) (b : Bay) (which : Fin 4) (on : Bool) (v : Rat) (s : State) : Res :=
  let s := s.begin t
  if (s.bay b).fsFlag which == on || !fsCrossed which on v then .next s
  else
    let s1 := changeBay b (fun y => (y.measure v).setFs which on) s
    .next (if (which : Nat) = 3 then supplyStages b on s1 else s1)

/-- The connections that channel n's field-side latches held are lost with them (R136). -/
def latchGone (n : Nat) (s : State) : State :=
  let mask := cOut + cHs + cLs + (if (s.fn n).held then cFg else 0)
  let cut (w : Nat) : Nat := w - (w &&& mask)
  s.modCh n fun r => r.connect [cut r.connA, cut r.connB, cut r.connC, cut r.connD]

/-- LATCH_FLOOR_PASSED (R139, R284, R439): FS+ falls below the latch floor; the claim latch and the output latches of the bay are
lost, and with them what their stages drive. Without a bay engine LATCH_LOST is owed until one runs. -/
def execLatchFloorPassed (at_ : Supplied) (b : Bay) (s : State) : Res :=
  let s := s.begin at_.t
  if 6 ≤ at_.v then .next s
  else
    let run := decide ((s.bay b).state = .running)
    let s1 := changeBay b (fun y => { y.measure at_.v with
      latchLost := y.latchLost || run, latchOwed := y.latchOwed || !run, claim := false }) s
    let s2 := (bayChans b).foldl (fun s n =>
      hartGuard n (lockStage n (latchGone n (s.modOut n fun o => { o with latched := false })))) s1
    .next ((List.range 32).foldl (fun s l =>
      if s.laneBay l = (b : Nat) && decide ((s.lane l).state ≠ .off) then laneResult l (s.modLane l LaneRun.openBoth) else s) s2)

/-- A line after a valid word (R299): an opening acts at once; an expired watchdog's hold ends at the boundary. -/
def DriveLine.word (bit : Bool) (now : Micros) (d : DriveLine) : DriveLine :=
  { d with bit := bit, validAt := now, expired := false, closed := d.closed && bit }

/-- The lane's lines compared after a word of the second core (R299). -/
def compareLines (l : Nat) (s : State) : State :=
  let r := s.lane l
  let n := if r.hs.bit != r.ls.bit then r.disagree + 1 else 0
  let s1 := s.modLane l fun r => { r with disagree := min 2 n }
  if n < 2 then s1
  else setLane l (fun r => ({ r.openBoth with driveDisc := true } : LaneRun).tripped 6 s.node) s1

/-- LANE_WORD_ARRIVAL (R299): a lane word of one line reaches bay b; a word with a wrong count or check counts as missing. -/
def execLaneWordArrival (t : Nat) (b : Bay) (ls valid : Bool) (flip : Nat) (s : State) : Res :=
  let s := s.begin t
  if !valid || !s.cycling then .next s
  else
    .next ((List.range 32).foldl (fun s l =>
      if (s.lane l).state = .off || s.laneBay l ≠ (b : Nat) then s
      else if ls then
        let s1 := s.modLane l fun r => { r with ls := r.ls.word (r.ls.sent != hasBit flip l) s.now }
        laneResult l (compareLines l s1)
      else laneResult l (s.modLane l fun r => { r with hs := r.hs.word (r.hs.sent != hasBit flip l) s.now })) s)

/-- LANE_WD_EXPIRE (R299, Tables 9.3, 9.8): LANE_WD has passed on a line without a valid word: its switch opens, DRIVE_DISC is set, and an
ARMED lane trips. -/
def execLaneWdExpire (t : Nat) (l : Lane) (ls : Bool) (s : State) : Res :=
  let s := s.begin t
  let r := s.lane l
  let d := if ls then r.ls else r.hs
  if (r.state = .off && !d.closed) || d.expired || s.now < d.validAt + 1000 * s.cf .lane l 10 then .next s
  else
    let close (d : DriveLine) : DriveLine := { d with expired := true, closed := false }
    let s1 := laneResult l (s.modLane l fun r => if ls then { r with ls := close r.ls } else { r with hs := close r.hs })
    .next (if r.state = .off then s1 else setLane l (fun r => ({ r with driveDisc := true } : LaneRun).tripped 6 s.node) s1)

/-- A lane output's current is a trip (Tables 8.4, 9.3): current limit (0), overload (1), or output open (2). -/
def laneTrips (x : LaneExcess) : Bool :=
  match (x.kind : Nat) with
  | 0 => decide (1500 ≤ x.mA) && decide (100 ≤ x.held)
  | 1 => decide (650 < x.mA) && decide (10000 ≤ x.held)
  | _ => decide (x.mA < 10) && decide (100000 ≤ x.held)

/-- LANE_OUTPUT_TRIP (R300, Table 9.3): a switch reaches its current limit (0) or overload (1), or carries less than 10 mA for
100 ms with both closed (2): both open and the lane trips, without retry. -/
def execLaneOutputTrip (t : Nat) (l : Lane) (x : LaneExcess) (s : State) : Res :=
  let s := s.begin t
  let r := s.lane l
  let any := r.hs.closed || r.ls.closed
  let both := r.hs.closed && r.ls.closed
  if r.state = .off || !laneTrips x || !(if (x.kind : Nat) = 2 then both else any) then .next s
  else
    let cause := if (x.kind : Nat) = 2 then 5 else 7
    let s1 := setLane l (fun r => ({ r.openBoth with outFault := true } : LaneRun).tripped cause s.node) s
    let n := s1.laneChan l 3
    let s2 := if (x.kind : Nat) = 2 then s1 else tripDio n (fun d => { d with status := setBit d.status (if (x.kind : Nat) = 1 then 3 else 2) true }) s1
    .next (laneResult l s2)

/-- LANE_PULSE_TEST (R302): a pulse test of an ARMED lane ends; v is the voltage across the opened switch. HS and LS take
turns. -/
def execLanePulseTest (t : Nat) (l : Lane) (v : Rat) (s : State) : Res :=
  let s := s.begin t
  let r := s.lane l
  if r.state ≠ .armed || !s.laneFlag l 3 || !(r.hs.closed && r.ls.closed) || s.node < r.pulseAt + 1000000 * s.cf .lane l 11 then
    .next s
  else
    let hs := !r.pulseHs
    let s1 := s.modLane l fun r => { r with pulseAt := s.node, pulseHs := hs }
    if 5 < v then .next (s1.modLane l fun r => { r with pulseCount := wrap16 (r.pulseCount + 1) })
    else
      .next (laneResult l (setLane l (fun r =>
        let r1 : LaneRun := if hs then { r with stuckHs := true, ls := { r.ls with closed := false } }
                            else { r with stuckLs := true, hs := { r.hs with closed := false } }
        r1.tripped 5 s.node) s1))

/-- LANE_DEGRADE_EXPIRE (R294). -/
def execLaneDegradeExpire (t : Nat) (l : Lane) (s : State) : Res :=
  let s := s.begin t
  let r := s.lane l
  .next (if r.state = .armed && r.overdue (s.degradeLimit l) s.node then setLane l (·.tripped 4 s.node) s else s)

/-- LANE_DISC (R295). -/
def execLaneDisc (t : Nat) (l : Lane) (s : State) : Res :=
  let s := s.begin t
  .next (if (s.lane l).state = .off then s else discStep l s)

/-- LANE_CRC of a configuration (R305). -/
def laneCrc (c : Cfg) (l : Nat) : Nat :=
  let a := cfield c .lane l 1
  let b := cfield c .lane l 2
  let o := cfield c .lane l 3
  let di (n : Nat) : Bool := subFnIn c n == .di
  let leg (n : Nat) : List Byte := if di n then setupBytes c .dio n else setupBytes c .meas n
  let curve (n : Nat) : List Byte := if di n then [] else setupBytes c .curve n
  crc32 (setupBytes c .lane l ++ setupBytes c .ch a ++ setupBytes c .ch b ++ setupBytes c .ch o ++ leg a ++ leg b ++ curve a ++
    curve b)

/-- The length and lane number of a lane command, and the mode it needs (R304). -/
def laneCheck (len : Nat) (pl : List Byte) (s : State) : Option Nat :=
  if pl.length ≠ len || 32 ≤ byteAt pl 0 then some stParam
  else if s.nd.mode ≠ .duty then some stState else none

/-- LANE_ARM's check. -/
def laneArmCheck (pl : List Byte) (s : State) : Option Nat := laneCheck 8 pl s

/-- LANE_DISARM's check. -/
def laneDisarmCheck (pl : List Byte) (s : State) : Option Nat := laneCheck 2 pl s

/-- LANE_RESET's check. -/
def laneResetCheck (pl : List Byte) (s : State) : Option Nat := laneCheck 1 pl s

/-- STATE after a lane command. -/
def laneReply (l : Nat) (s : State) : List Byte := le 1 (s.lane l).state.code

/-- LANE_ARM in the compute phase that takes it (R304). -/
def takeLaneArm (arms : List ArmReading) (pl : List Byte) (s : State) : Nat × List Byte × State :=
  let l := byteAt pl 0
  let r := s.lane l
  match laneArmCheck pl s with
  | some st => (st, [], s)
  | none =>
    if r.state ≠ .ready || !r.legsClear || s.commitHolds l || fieldAt pl 4 4 ≠ laneCrc s.liveCfg l then (stState, [], s)
    else match armLane l arms s with
      | (true, s1) => (stDone, laneReply l s1, s1)
      | (false, s1) => (stState, [], s1)

/-- LANE_RESET in the compute phase that takes it (R304). -/
def takeLaneReset (arms : List ArmReading) (pl : List Byte) (s : State) : Nat × List Byte × State :=
  let l := byteAt pl 0
  let r := s.lane l
  match laneResetCheck pl s with
  | some st => (st, [], s)
  | none =>
    if r.state ≠ .tripped || !r.legsClear || s.commitHolds l then (stState, [], s)
    else
      match armLane l arms (laneCleared l s) with
      | (true, s2) => (stDone, laneReply l s2, s2)
      | (false, s2) => (stState, [], s2)

/-- LANE_DISARM in the compute phase that takes it (R304). -/
def takeLaneDisarm (pl : List Byte) (s : State) : Nat × List Byte × State :=
  let l := byteAt pl 0
  let st := (s.lane l).state
  match laneDisarmCheck pl s with
  | some e => (e, [], s)
  | none =>
    if !(st = .armed || st = .tripped) || !hasBit (byteAt pl 1) 0 then (stState, [], s)
    else (stDone, laneReply l (laneDisarmed l s), laneDisarmed l s)

/-- LANE_SET (R311). -/
def execLaneSet (rq : Request) (s : State) : Res := setupCommand .lane 0x0280 rq s

/-- LANE_GET (R311). -/
def execLaneGet (rq : Request) (s : State) : Res := setupRead .lane 0x0281 rq s

/-- LANE_ARM (R304). -/
def execLaneArm (rq : Request) (s : State) : Res := answerMailbox 0x0282 rq laneArmCheck s

/-- LANE_DISARM (R304). -/
def execLaneDisarm (rq : Request) (s : State) : Res := answerMailbox 0x0283 rq laneDisarmCheck s

/-- LANE_RESET (R304). -/
def execLaneReset (rq : Request) (s : State) : Res := answerMailbox 0x0284 rq laneResetCheck s

/-- DEGRADE_LEFT, s (Table 9.8). -/
def degradeLeft (l : Nat) (s : State) : Nat :=
  match (s.lane l).degraded, (s.lane l).degradeFrom with
  | true, some t => (t + s.degradeLimit l - s.node) / 1000000
  | _, _ => 0xFFFFFFFF

/-- The LANE_READ reply (Table 9.8). -/
def laneReadBytes (l : Nat) (s : State) : List Byte :=
  let r := s.lane l
  le 1 l ++ le 1 r.state.code ++ le 2 r.flags ++ le 1 r.tripCause ++ le 1 (bit r.legA.demand + 2 * bit r.legB.demand) ++
    le 2 0 ++ le 4 (laneCrc s.liveCfg l) ++ le 8 r.tTrip ++ le 8 r.legA.tDemand ++ le 8 r.legB.tDemand ++
    le 4 (degradeLeft l s) ++ le 2 r.tripCount ++ le 2 r.pulseCount

/-- LANE_READ (R311). -/
def execLaneRead (rq : Request) (s : State) : Res := answerNow 0x0285 rq (readBody 1 32 laneReadBytes) s

/-- One output takes its programmed safe state at once (R287); what was on its way to its latch is dropped (R288). -/
def safeOutput (n : Nat) (s0 : State) : State :=
  let s := s0.modOut n fun o => { o with xfer := none }
  let f := s.fn n
  let u := s.safeValue n
  if f.analogOut then applyAnalog n .safe u s
  else if f.switched then applySwitched n .safe u s
  else if f == .lamp then applyLamp n .safe u s
  else s

/-- Every output of bay b takes its programmed safe state; in a unit whose gate is shut only the latches take it. -/
def safeBay (b : Nat) (s : State) : State := (bayChans b).foldl (fun s n => if s.inToll n then s else safeOutput n s) s

/-- The timer of bay b ran out together with a peer's claim (R288): within the 2 µs in which the sluice reaches the bays
(Table 2.11; log 227). -/
def BayRun.raced (due : Micros) (y : BayRun) : Bool :=
  match y.yieldedAt with | some t => decide (t ≤ due + 2) && decide (due ≤ t + 2) | none => false

/-- SS_TIMEOUT_EXPIRE (R287, R288): bay b has received no sync pulse for SS_TIMEOUT with its gate open, which it counts and owes the report of; where a peer's claim shuts the
gate at that moment, the safe state reaches the latches and is not driven. -/
def execSsTimeoutExpire (t : Nat) (b : Bay) (s : State) : Res :=
  let s := s.begin t
  let y := s.bay b
  let due := y.syncAt + 1000 * s.cf .bay b 0
  if y.state ≠ .running || y.ssRun || s.now < due then .next s
  else if !s.gate b then .next (if y.raced due then safeBay b (s.modBay b fun y => { y with ssRun := true }) else s)
  else
    let s1 := safeBay b (s.modBay b fun y =>
      { y with ssRun := true, ssOwed := y.ssOwed + 1 })
    .next ((List.range 32).foldl (fun s l =>
      if s.laneBay l = (b : Nat) && decide ((s.lane l).state ≠ .off) then laneResult l (s.modLane l LaneRun.openBoth) else s) s1)

end Sys2Proof.Machine
end

