-- ==== Sys2Proof/Machine/Convert.lean ====
section
/-! DEFINITION. Conversions, terminal protection and the start of bays (chapters 4 to 7). -/

namespace Sys2Proof.Machine

/-- This unit's own readings count: not in STANDBY or RESYNC, where values come with the input snapshot (R139, R445). -/
def State.ownReadings (s : State) : Bool :=
  s.alive && decide (s.baseMode ≠ .standby) && decide (s.baseMode ≠ .resync)

/-- Burst samples that the filter holds: 3 N - 2 (R169, R170). -/
def State.burstLength (s : State) (n : Nat) : Nat := 3 * s.nBurst n - 2

/-- The signal of a reading (R178, R198): under SWAP the mean of its two sub-samples. -/
def State.burstSignal (s : State) (n : Nat) (v v2 : Rat) : Rat :=
  if s.swap n then s.swapped n (s.withinScale n v) (s.withinScale n v2) else s.signalOf n (s.withinScale n v)

/-- The raw values of a conversion taken into the raw checks (R209, R210): a burst sample is its own raw value; those of a
continuous channel end 250 µs apart, the last now. -/
def rawSteps (n : Nat) (x : Rat) (raws : List Rat) (pip : Option Rat) (s : State) : State :=
  if s.burst n then rawCheck n 0 x pip s
  else (raws.foldl (fun (p : Nat × State) v => (p.1 - 250, rawCheck n (p.1 - 250) (p.2.signalOf n v) none p.2))
    (250 * raws.length, s)).2

/-- The burst sample that ends now was discarded by a compliance trip (R208). -/
def State.dropped (s : State) (n : Nat) : Bool :=
  s.burst n && (match (s.sup n).dropTo with | some e => decide (s.node ≤ e) | none => false)

/-- The filtered reading, V, of a conversion that ends now with v volts: the filter's weighting of the burst samples, both
sub-samples apart under SWAP (R170, R178). -/
def State.filteredReading (s : State) (n : Nat) (v v2 : Rat) : Rat × Rat :=
  if s.burst n then
    let ws := sinc3 (s.nBurst n)
    (weighted ws ((s.ch n).samples.map (·.1)), weighted ws ((s.ch n).samples.map (·.2)))
  else (v, v2)

/-- The end of full scale that a filtered reading passes (R198). -/
def State.readingPast (s : State) (n : Nat) (p : Rat × Rat) : Nat :=
  let a := s.pastScale n p.1
  if a ≠ 0 || !s.swap n then a else s.pastScale n p.2

/-- A conversion of an input channel (R168 to R173, R178): raw checks, the filter, and the result whose end has come. -/
def inputConversion (n : Nat) (v v2 : Rat) (raws : List Rat) (pip : Option Rat) (inputs : Inputs) (s : State) : State :=
  if s.dropped n then s
  else
    let s1 := rawSteps n (s.burstSignal n v v2) raws pip s
    let s2 := if s1.burst n then s1.modCh n fun r =>
      { r with samples := ((v, v2) :: r.samples).take (s1.burstLength n), fresh := ((v, v2) :: r.fresh).take (s1.burstLength n) }
      else s1
    let busy := match (s2.sup n).check with | some c => s2.displacesBy n (c.endAt - c.began) | none => false
    if s2.node < (s2.ch n).nextEnd || (s2.ch n).tripped || busy then s2
    else
      let p := s2.filteredReading n v v2
      let x := s2.burstSignal n p.1 p.2
      if !(s2.sup n).faulty then formResult n x (s2.readingPast n p) (s2.cmEnd n inputs) s2
      else if (s2.sup n).rawOpen || (s2.sup n).comp ≠ .none then s2
      else captureOnly n x s2

/-- CONVERSION_END (R172): a burst sample or a filtered reading of channel n ends with v volts (v2: the second sub-sample under
SWAP). `raws` are the raw values since the last of a continuous channel, `pip` the pip reading of the terminal whose turn it is,
`inputs` what its inputs stand at against FG. An output's readback is its current or voltage, a repeater's its measured frequency
or duty. -/
def execConversionEnd (t : Nat) (n : Chan) (v v2 : Rat) (raws : List Rat) (pip : Option Rat) (inputs : Inputs)
    (s : State) : Res :=
  let s0 := s.begin t
  let s := if (s0.subFn n).filtered && (s0.converting n || s0.underWay n) && !s0.dropped n then noteAwake n (s0.sampleTime n) s0 else s0
  let f := s.fn n
  if !s.alive || !(s.converting n || s.underWay n) then .next s
  else if (s.subFn n).converts then
    .next (if s.ownReadings then inputConversion n v v2 raws pip inputs s else s)
  else if f == .iout || f == .vout then
    .next (if s.node < (s.ch n).nextEnd then s else formReadback n (s.calLine n (if f == .iout then 160 else 168) v) s)
  else if f.repeater then .next (formReadback n v s)
  else .next s

/-- PROTECTION_TRIP (R152, R153): terminal k of channel n stands at v volts or carries mA outside the window of a resource
connected to it. -/
def execProtectionTrip (t : Nat) (n : Chan) (k : Fin 4) (v mA : Rat) (s : State) : Res :=
  let s := s.begin t
  let word := s.connWord n k
  if !s.running n || (s.ch n).isOpen k || word = 0 || (insideWindows word v && insideCurrents word mA) then .next s
  else
    let was := s.outStatus n
    let s1 := hartGuard n (tripChannel n k v mA s)
    if (s1.fn n).analogOut && s1.outStatus n ≠ was then
      let st := (s1.outp n).mode.code
      .next (chanEvent 0x043 n st st (s1.outStatus n) (s1.img n).value s1)
    else .next s1

/-- PROTECTION_RECONNECT (R154): the terminals have stood inside every window for the wait; the rail of an output starts at
2.5 V (Table 7.4). -/
def execProtectionReconnect (t : Nat) (n : Chan) (s : State) : Res :=
  let s := s.begin t
  if !s.running n || !(s.ch n).mayReconnect s.now then .next s
  else
    let s1 := restartDigital n (reconnect n s)
    let s2 := if s1.fn n == .iout || s1.fn n == .vout then s1.modOut n fun o => { o with vRail := 5 / 2, railGoal := 5 / 2, railAt := s1.now } else s1
    if (s2.fn n).analogOut then
      let st := (s2.outp n).mode.code
      .next (chanEvent 0x043 n st st (s2.outStatus n) (s2.img n).value s2)
    else .next s2

/-- The connections of channel n made as its setup has them (R140, R162). -/
def connectChan (n : Nat) (s : State) : State := s.modCh n fun r => r.connect (connIn s.cfg.inForce n)

/-- A lane output that starts publishes 0.0: its switches are open (R296). -/
def startLaneOut (n : Nat) (s : State) : State := if s.fn n == .laneOut then eventResult n 0 0 0 s.node s else s

/-- Channel n as its bay domain starts (R157): an input's connections are made, and nothing has been published yet. An output
whose latch holds nothing starts at its safe state, in BOOT with the decision (R237). -/
def startChan (n : Nat) (s : State) : State :=
  if s.fn n == .off then s
  else
    let s1 := if (s.fn n).held then s else connectChan n s
    let s2 := s1.modCh n fun r => { r with hasValue := false, heldValue := f32NaN, deliveredAt := s.now, settling := false, awakeOn := false }
    let s3 := startSup n (restartDigital n (restart n s2.node true 250 s2))
    let s4 := if s3.nd.mode ≠ .boot && (s3.fn n).output && (s3.outp n).mode = .off then startOutput n (connectChan n s3) else s3
    let s5 := if s4.fn n == .lamp && (s3.outp n).mode = .off && s4.nd.mode ≠ .boot then startLamp n s4 else s4
    hartScan n (startLaneOut n s5)

/-- BAY_START (R157): the bay engine reports its bay running, and a LATCH_LOST that its field side has latched (R284). -/
def execBayStart (t : Nat) (b : Bay) (s : State) : Res :=
  let s := s.begin t
  let y := s.bay b
  if (s.bay b).state ≠ .starting || !s.logicOn then .next s
  else
    let s1 := s.modBay b fun y => { y with state := .running, startedAt := s.node, syncAt := s.now, refUser := none,
                                           iHist := [], over8Since := none, shedding := false }
    let s2 := if y.latchOwed then setBay b (fun y => { y with latchLost := true, latchOwed := false }) s1 else s1
    .next ((bayChans b).foldl (fun s n => startChan n s) s2)

end Sys2Proof.Machine
end

