-- ==== Sys2Proof/Machine/Snapshot.lean ====
section
/-! DEFINITION. The shared input snapshot, part I, as a bay engine takes it (R207, R254, R268, R283, R445). -/

namespace Sys2Proof.Machine

/-- A result of part I taken into channel n (R445): its filter holds the duty unit's history. -/
def takeResult (c : ResultCopy) (s : State) : State :=
  let n : Nat := c.n
  let q := if c.quality = 1 || c.quality = 8 || c.quality = 9 || c.quality = 10 then 0 else c.quality
  s.modCh n fun r => { r with
    latest := { r.latest with value := if c.quality = 1 then r.latest.value else c.value, quality := q, detail := c.detail,
                              seq := c.seq, tEnd := c.tEnd }
    heldValue := if c.quality = 1 then c.value else r.heldValue
    settling := decide (c.quality = 1), tNext := c.tNext, nextEnd := c.tEnd + periodOf (s.rate n)
    hasValue := !hasBit c.detail 0, samples := (c.samples ++ r.samples).take (s.burstLength n)
    epochMark := r.epochDue, epochDue := false, deliveredAt := if c.seq = r.latest.seq then r.deliveredAt else s.now }

/-- The raw checks and hard thresholds of a status word taken from the duty unit (R207): trend bits are the unit's own. -/
def SupRun.takeStatus (word : Nat) (ne43 drift : Bool) (u : SupRun) : SupRun :=
  let bad (b : Bool) : RawRun := if b then ⟨2, 0⟩ else ⟨0, 0⟩
  { u with
    status := word % 128 + u.status / 128 * 128
    comp := if !hasBit word 0 then .none else if drift then .drift else .broken
    rawShort := bad (hasBit word 1), rawLoop := bad (ne43 && hasBit word 2), pipB := bad (!ne43 && hasBit word 2), pipC := ⟨0, 0⟩ }

/-- Supervision results of part I (R207): the figures of a new check feed this unit's own baseline and trend, with no record (R222),
and the next check falls due as the snapshot carries it. -/
def takeSup (c : SupCopy) (s : State) : State :=
  let w (k : Nat) : Word32 := c.figures.getD k 0
  let n : Nat := c.n
  let drift := decide ((s.ch n).latest.quality = 6)
  s.modSup n fun u0 =>
    let u := if hasBit c.status 11 && (!u0.noBase || decide (c.count < u0.baseCount)) then u0.capture else u0
    let v := { u.takeStatus c.status (s.ne43On n) drift with due := c.due }
    if c.tCheck = u.tCheck then v
    else v.follow s n (s.supSetup n) c.tCheck ⟨w 0, w 1, w 2, w 3, w 4, w 5, w 6, w 7, w 8, w 9⟩

/-- A HART device state of Table 7.7 by its code. -/
def HartDevState.ofCode : Nat → HartDevState
  | 2 => .missing | 3 => .replaced | 4 => .burst | _ => .found

/-- HART values of part I (R254): with the age of the reply and of the poll, and the device from which polling goes on. -/
def takeHart (now : Micros) (c : HartCopy) (s : State) : State :=
  let w (k : Nat) : Word32 := c.values.getD k 0
  s.modHart c.n fun h =>
    let a : Nat := c.addr
    let known := h.told.filter fun u => u ≠ c.liveUid
    let d : HartDev := ⟨c.addr, HartDevState.ofCode c.state, c.uid, c.liveUid, c.devStatus, w 0, w 1, w 2, w 3, w 4, c.units,
      c.age.map (now - ·), c.polled.map (now - ·)⟩
    { h with devices := h.devices.filter (·.addr < a) ++ [d] ++ h.devices.filter (a < ·.addr),
             lastPolled := if c.last then a else h.lastPolled,
             told := if c.told then known ++ [c.liveUid] else known }

/-- A lamp state of Table 8.8 by its code. -/
def LampState.ofCode : Nat → LampState
  | 1 => .offUnproven | 2 => .offProven | 3 => .offDark | 5 => .lit | 6 => .partialLit | 7 => .dark | 8 => .overCurrent
  | 9 => .tripped | 10 => .extV | 11 => .unlearned | _ => .off

/-- A lamp of part I (R283), in a unit whose gate is shut. -/
def takeLamp (c : LampCopy) (s : State) : State :=
  if s.gate (bayOf c.n) then s
  else s.modLamp c.n fun l => { l with
    state := LampState.ofCode c.state, iLamp := c.iLamp, iCold := c.iCold, tTest := c.tTest, darkCount := c.darkCount,
    tripCount := c.tripCount }

/-- The inputs of part I taken into the bay engines (R445). -/
def takeInputs (m : PartI) (s : State) : State :=
  let s1 := m.results.foldl (fun s c => takeResult c s) s
  let s2 := m.states.foldl (fun s x => s.modDio x.1 fun d => { d with state := some x.2 }) s1
  let s3 := m.counts.foldl (fun s x => s.modDio x.1 (·.takeCount m.cycle x.2)) s2
  let s4 := m.sups.foldl (fun s c => takeSup c s) s3
  let s5 := m.harts.foldl (fun s c => takeHart s.now c s) s4
  m.lamps.foldl (fun s c => takeLamp c s) s5

/-- What is left of part I once its inputs have been taken. -/
def workOnly (m : PartI) : PartI :=
  { m with results := [], states := [], counts := [], sups := [], harts := [], lamps := [] }

end Sys2Proof.Machine
end

