-- ==== Sys2Proof/Machine/Sluice.lean ====
section
/-! DEFINITION. The sluice and the pair decisions (chapter 15): claims, forced release, declared faults, the pair fault word and
the heartbeat. -/

namespace Sys2Proof.Machine

/-- IMAGE_CRC of the running image. -/
def State.imageCrc (s : State) : Nat := (s.fwSlot s.cfg.running).imageCrc

/-- The live configuration counts as invalid (R506). -/
def State.configInvalid (s : State) : Bool := s.live.isNone || s.cfg.slotMismatch || s.cfg.formatBad || s.cfg.calInv

/-- The pair fault word (Table 15.13) takes a value, with a PAIR_FAULT record where it changes (Table 15.11). -/
def setPairFaults (w : Nat) (s : State) : State :=
  let old := s.pair.faults
  if w = old then s
  else
    let s1 := s.modPair fun p => { p with faults := w }
    sysUpdate (submit .control 0x181 (le 2 w ++ le 2 old ++ le 1 s1.pair.named ++ le 3 0 ++ le 2 s1.pair.first ++ le 2 0) s1)

/-- A bit of the pair fault word. -/
def setPairFault (k : Nat) (b : Bool) (s : State) : State := setPairFaults (setBit s.pair.faults k b) s

/-- The mask of the bays that satisfy p. -/
def bayMask (p : Nat → Bool) : Nat := bitsOf ((List.range 16).map p)

/-- The bays that run. -/
def State.baysRunning (s : State) : Nat := bayMask fun b => decide ((s.bay b).state = .running)

/-- This unit's bit in NAMED: position A 1, position B 2. -/
def State.posBit (s : State) : Nat := if s.atB then 2 else 1

/-- The unit meets R452. -/
def State.eligible (s : State) : Bool :=
  s.paired && (decide (s.nd.mode = .standby) || (decide (s.nd.mode = .resync) && decide (4 ≤ s.pair.step))) &&
    !s.pair.shutIn && !s.pair.declared && !s.pair.marked &&
    (s.pair.named &&& s.posBit == 0 || s.param 0x15000001 == 1) && !(s.pair.ownLoop.faulty && s.pair.shutLoop.faulty)

/-- The unit's heartbeat (Table 15.4, R458). -/
def State.beat (s : State) : Heartbeat where
  mode := s.nd.mode.code
  faultDecl := s.pair.declared
  claiming := s.pair.claimReq
  nresetStuck := s.nd.cause.getLsbD 7
  eligible := s.eligible
  handover := s.pair.handover.isSome
  shutOut := s.pair.shutOut
  loopFault := hasBit s.pair.faults 3 || hasBit s.pair.faults 4
  compat := s.param 0x15000002 == 1
  bayOk := s.baysRunning
  cycle := wrap32 (s.node / 1000)
  configCrc := s.liveCrc
  epoch := if s.nd.mode = .boot && s.configInvalid then 0 else s.cfg.liveEpoch
  gateOpen := bayMask s.gate
  faultCause := if s.pair.declared then s.pair.cause else 0
  tTx := s.node * 1000

/-- The 32 bytes of a heartbeat (Table 15.4). -/
def beatBytes (h : Heartbeat) : List Byte :=
  le 1 h.mode ++
    le 1 (bitsOf [h.compat, h.loopFault, h.shutOut, h.handover, h.eligible, h.nresetStuck, h.claiming, h.faultDecl]) ++
    le 2 h.bayOk ++ le 4 h.cycle ++ le 4 h.configCrc ++ le 4 h.epoch ++ le 2 h.gateOpen ++ le 1 h.faultCause ++ le 1 0 ++
    le 8 h.tTx ++ le 4 0

/-- A frame closed by its CRC-32 (R444). -/
def withCrc (bs : List Byte) : List Byte := bs ++ le 4 (crc32 bs)

/-- The heartbeat sent to the peer on the pair lane, in DUTY as part C's, and by the data plane a copy on the packet lane (R444). -/
def sendBeat (s : State) : State :=
  if s.paired && s.alive then
    let b := withCrc (beatBytes s.beat)
    let s1 := s.emit (.beat false b)
    if s.nd.dataStalled then s1 else s1.emit (.beat true b)
  else s

/-- SLUICE_SHUT_OUT asserted or released (R441). -/
def setShutOut (b : Bool) (s : State) : State :=
  if s.pair.shutOut == b then s else setPairFault 11 b (s.modPair fun p => { p with shutOut := b, shutAt := s.now, shutWait := b })

/-- What follows at once when gates shut or open: HART transactions and checks end (R216, R256), lane switches follow
(R299). -/
def gatesMoved (s : State) : State :=
  let s1 := (s.field.hart.map (·.1)).foldl (fun s n => hartGuard n s) s
  let s2 := (s1.field.sup.map (·.1)).foldl (fun s n => if s.gate (bayOf n) then s else abandonCheck n s) s1
  (List.range 32).foldl (fun s l => laneBoundary l s) s2

/-- Every claim latch cleared (R439). -/
def clearClaims (s : State) : State :=
  gatesMoved ((List.range 16).foldl (fun s b =>
    s.modBay b fun y => { y with claim := false, yieldedAt := if y.claim then some s.now else y.yieldedAt }) s)

/-- The loop that R440 asks of a claimant carries its current: its SLUICE_OWN loop, or in its stead an asserted SLUICE_SHUT_OUT; asked
of nobody where the base holds no peer (DESIGN CHOICE, log 248). -/
def State.provenLoop (s : State) : Bool :=
  !s.paired || !s.pair.ownLoop.faulty || (s.pair.shutOut && !s.pair.shutLoop.faulty)

/-- The claim command is sent and reaches every bay: a latch sets where SLUICE_SHUT_IN is released and FS+ stands above the latch
floor (R439, R440, Table 8.11). -/
def setClaims (s : State) : State :=
  if s.pair.shutIn || !s.provenLoop then s
  else (List.range 16).foldl (fun s b =>
    if (6 : Rat) ≤ (s.bay b).vFs then s.modBay b fun y => { y with claim := true } else s) s

/-- SLUICE_OWN released; a SLUICE_SHUT_OUT that stands in its stead goes with it (R440). -/
def releaseOwn (s : State) : State :=
  let s1 := s.modPair fun p => { p with own := false }
  if s1.pair.ownLoop.faulty then setShutOut false s1 else s1

/-- The claim given up, with a release command to the bays. -/
def releaseClaim (s : State) : State := clearClaims (releaseOwn (s.modPair fun p => { p with claimReq := false, claiming := none }))

/-- The unit declares its own fault to the peer (R448); where the peer is not eligible, PEER_INELIGIBLE sets (Table 15.6). -/
def declareFault (cause : Nat) (s : State) : State :=
  if !s.paired then s
  else
    let s1 := sendBeat (s.modPair fun p => { p with declared := true, cause := cause })
    match s1.pair.hb with
    | some h => if h.eligible || !s.onDuty then s1 else setPairFault 9 true s1
    | none => s1

/-- A commit under way ends where a reset or a takeover cuts it off (Table 17.5). -/
def abandonCommit (s : State) : State :=
  match s.cfg.commit with
  | none => s
  | some c =>
    let s1 := configRecord 4 c.session c.phases.length 0 s
    { s1 with cfg := { s1.cfg with commit := none, ahead := [] },
              alarm := { s1.alarm with frozen := [], tree := none, thawAt := none } }

/-- Work of the mailbox that belongs to this unit alone (R518). -/
def MbxWork.ownSet : MbxWork → Bool
  | .calBlock _ => true
  | _ => false

/-- The commit under way and the mailbox of a unit that leaves duty (Table 17.5): abandoned before the peer has written its bank
and before the first phase; after that the other unit continues. What still waits for a boundary is lost. -/
def commitYields (s : State) : State :=
  let s1 : State := { s with host := { s.host with
    mbxWait := s.host.mbxWait.filter MbxWork.ownSet
    mbx := match s.host.mbx with
      | .ready ws => if ws.any MbxWork.ownSet then .ready (ws.filter MbxWork.ownSet) else .empty
      | _ => .empty } }
  match s1.cfg.commit with
  | none => s1
  | some c =>
    if !c.own then s1
    else if !c.peerAcked && s1.cfg.phaseDone = 0 then abandonCommit s1
    else { s1 with cfg := { s1.cfg with commit := some { c with own := false, ticket := none } } }

/-- A unit that takes duty continues the commit whose phases it has followed, from its own banks (Table 17.5). -/
def commitTakes (s : State) : State :=
  match s.cfg.commit with
  | none => s
  | some c =>
    if c.own || !c.bankWritten then s
    else
      let k := s.cfg.phaseDone + 1
      postWork (.phase k (c.phases.getD (k - 1) []))
        { s with cfg := { s.cfg with commit := some { c with own := true, step := 4, peerAcked := true, peerDone := true } } }

/-- The old owner leaves duty (R441, R454 step 7, R457): STANDBY, marked ineligible after a forced release or a declared
fault 0x03 or 0x04. A healthy unit alone does so. -/
def stepDown (mark : Bool) (s : State) : State :=
  if !s.onDuty then s
  else
    let own := s.pair.declared && (s.pair.cause == 3 || s.pair.cause == 4)
    let s1 := (commitYields (endBulks 6 (fun _ => true) s)).modPair fun p => { p with
      claimReq := false, claiming := none, handover := none, marked := p.marked || mark || own, declared := p.declared && !own,
      partsFrom := none, partI := none, partC := none }
    let s2 := if s1.nd.withdraw = .flash2 && !s1.grn.urgent then s1.modNd fun d => { d with withdraw := .steady } else s1
    if s2.nd.mode = .hold then s2.modNd fun d => { d with recorded := .standby } else setMode .standby 0 s2

/-- SLUICE_PEER passes from released to asserted: claim latches clear, and a unit that asserts SLUICE_OWN yields (R438, R439). Two
claims within 2 µs of each other both yield, and each is tried again. -/
def peerRises (s : State) : State :=
  let both := match s.pair.claiming with | some c => decide (s.now ≤ c.began + 2) | none => false
  let own := s.pair.own
  let s1 := clearClaims (s.modPair fun p => { p with peerLine := true })
  if own then
    stepDown false (releaseOwn (s1.modPair fun p =>
      { p with claimReq := false,
               yieldAt := if both then p.claiming.map fun c => { c with began := s.now } else none }))
  else if s1.cycling then stepDown false s1
  else s1

/-- The RESYNC record (Table 15.11). -/
def resyncRecord (step event : Nat) (s : State) : State :=
  submit .management 0x182 (le 1 step ++ le 1 event ++ le 2 0 ++ le 4 s.pair.tailBytes ++ le 4 s.pair.tailDiscarded) s

/-- Raw samples of channel n since the boundary of the last part I, whose frames never came (R456). -/
def State.missedSamples (s : State) (n : Nat) : Nat :=
  let since := s.pair.partAt / 1000 * 1000
  if s.burst n then
    let last := s.node + s.toSample n - (if s.toSample n = 0 then 0 else s.sampleStep n)
    if since < last then (last - since - 1) / s.sampleStep n + 1 else 0
  else (s.node - since) / 250

/-- Channel n lacks more raw samples than its bay engine fills in (R456). -/
def State.lacksSamples (s : State) (n : Nat) : Bool :=
  s.pair.partsFrom.isNone || (if s.burst n then decide (1 < s.missedSamples n) else decide (16 < s.missedSamples n))

/-- A missing burst sample of channel n filled with the last that its filter holds (R456). -/
def fillSample (n : Nat) (s : State) : State :=
  if s.burst n && s.missedSamples n == 1 then
    s.modCh n fun r => { r with samples := (r.samples.take 1 ++ r.samples).take (s.burstLength n) }
  else s

/-- What a new duty unit continues (R456): filters are filled, or restart where they lack more, and no cold test or pulse test starts
within 10 ms. -/
def continueWork (s : State) : State :=
  let s1 := (s.field.chan.map (·.1)).foldl (fun s n =>
    if !((s.subFn n).converts && s.running n) then s
    else if s.lacksSamples n then restart n s.node false 250 s else fillSample n s) s
  let s2 := (s1.field.lamp.map (·.1)).foldl (fun s n =>
    s.modLamp n fun l => { l with testDue := max l.testDue (s.now + 10000) }) s1
  (List.range 32).foldl (fun s l =>
    s.modLane l fun r => if r.state = .off then r
      else { r with pulseAt := max r.pulseAt (s.node + 10000 - 1000000 * s.cf .lane l 11) }) s2

/-- The numbers passed over at a takeover (R456): 4,096 after the highest SEQ received. -/
def skipNumbers (s : State) : State :=
  let a := s.grn.nextSeq
  let b := wrap32 (a + 4096)
  { s with grn := { s.grn with nextSeq := b }, clk := { s.clk with nextSeq := b, seqIntact := true },
           pair := { s.pair with gapFirst := a, gapLast := wrap32 (a + 4095) } }

/-- What was outstanding at a takeover is never executed again (R484). -/
def Session.unknown (ss : Session) : Session :=
  { ss with items := [], authFails := [], marks := ss.marks.map fun m =>
      (m.1, match m.2 with | .outstanding => .complete stOutcomeUnknown [] | d => d) }

/-- The item on source 255 that tells of a takeover (R553). -/
def takeoverItem (now : Micros) (ss : Session) : Session :=
  if hasBit ss.sub 255 then
    { ss with items := [⟨255, 0, 1, true, 0, 0, fit 16 (le 1 1), hasBit ss.hold 255, now⟩] }
  else ss

/-- The sessions at a takeover (R484, R495, R553): carried on from what the old duty unit passed; transfers end. -/
def takeSessions (s : State) : State :=
  let s1 := endBulks 6 (fun _ => true) s
  passTable ((List.range 8).foldl (fun s k =>
    if (s.sess k).state = .free then s
    else sessionRecord k 8 (s.sess k) (s.modSess k fun ss => takeoverItem s.now ss.unknown)) s1)

/-- CLAIM_REQ set and the line driven, counted and timed (R438, R454, Table 15.14). GAP_NS is measured: free. -/
def drive (kind cause : Nat) (s : State) : State :=
  let (k, s1) := s.draw
  s1.modPair fun p => { p with
    claimReq := true, servedAt := s.now, own := !p.shutIn, claiming := some ⟨kind, cause, s.now⟩, offered := none,
    yieldAt := none, decideAt := none, step := 0, disagree := [], readback := [], tSwitch := s.node,
    switches := wrap32 (p.switches + 1), gapNs := Config.freeNat k % 4294967296 }

/-- The PAIR_SWITCH record (Table 15.11); a unit without a peer writes none. -/
def switchRecord (kind cause : Nat) (s : State) : State :=
  if !s.paired then s
  else
    submit .control 0x180
      (le 1 kind ++ le 1 cause ++ le 1 (bit (if kind = 5 then s.atB else !s.atB)) ++ le 1 (bit s.atB) ++
        le 4 s.pair.gapFirst ++ le 4 s.pair.gapLast ++ le 4 s.pair.gapNs) s

/-- The inputs that a part I still to be worked on brings, for bay engines and latches have them (R268, R445, R456); its commands wait
for the first cycle. -/
def pendingInputs (s : State) : State :=
  match s.pair.partI with
  | some m => (takeInputs m s).modPair fun p => { p with partI := some (workOnly m) }
  | none => s

/-- The ring cycles that a first DATA waits for have passed, so that a unit that takes over sends it in the next (R416, R454). -/
def startData (s : State) : State :=
  { s with ponor := { s.ponor with dataStarted := s.ponor.dataStarted || (decide (8 ≤ s.ponor.dataWait) && !s.ponor.addrClash) } }

/-- The unit claims and is the duty unit (R454): KIND and CAUSE of Table 15.11, with forced release where due. -/
def claimDuty (kind cause : Nat) (forced : Bool) (s : State) : State :=
  let s1 := if s.paired && (forced || s.pair.ownLoop.faulty) then setShutOut true s else s
  let s2 := if kind = 5 then s1.modPair fun p => { p with gapFirst := 0, gapLast := 0 } else skipNumbers s1
  let s3 := if s2.nd.mode = .resync then resyncRecord s2.pair.step 4 s2 else s2
  let s4 := commitTakes (gatesMoved (setClaims (setMode .duty cause (drive kind cause (pendingInputs s3)))))
  let s5 := if kind = 5 then s4 else startData (continueWork (advanceBell (takeSessions s4)))
  switchRecord kind cause (s5.modPair fun p => { p with partsFrom := none })

/-- The yield check has failed (R454 step 4): the claim released and made again, with the peer shut out. -/
def reclaim (cause : Nat) (s : State) : State :=
  switchRecord 3 cause (gatesMoved (setClaims (drive 3 cause (setShutOut true (releaseClaim s)))))

/-- The peer drove the field when last heard. -/
def State.peerDrove (s : State) : Bool := match s.pair.hb with | some h => h.claiming || h.mode == 3 | none => false

/-- A takeover where the unit is eligible; PEER_INELIGIBLE where it is not (Table 15.6). -/
def takeover (kind cause : Nat) (forced : Bool) (s : State) : State :=
  if s.eligible then claimDuty kind cause forced s else setPairFault 9 true s

/-- The peer's heartbeat carries NRESET_STUCK, which stands above every event (R115, Table 15.6). -/
def State.peerStuck (s : State) : Bool := match s.pair.hb with | some h => h.nresetStuck && !s.peerLost | none => false

/-- The rows of Table 15.6 that let a standby take over at once: a declared fault, or a lost heartbeat with SLUICE_PEER
released. -/
def judge (s : State) : State :=
  if !s.paired || !(decide (s.nd.mode = .standby) || decide (s.nd.mode = .resync)) || !s.peerDrove then s
  else match s.pair.lostAt, s.pair.hb with
    | some _, _ => if s.pair.peerLine then s else takeover 1 0 false s
    | none, some h => if h.faultDecl && !h.nresetStuck then takeover 2 h.faultCause false s else s
    | none, none => s

/-- How the units differ from the pair reference (R451). -/
structure RefDiff where
  /-- Own configuration and image. -/
  config : Bool
  image : Bool
  /-- The peer's configuration, as its heartbeat shows it, and its image, as it has passed it. -/
  peerConfig : Bool
  peerImage : Bool
  deriving DecidableEq, Repr

/-- The comparison with the pair reference (R451). -/
def State.refDiff (s : State) : RefDiff where
  config := s.pair.refConfig != 0 && s.liveCrc != s.pair.refConfig
  image := s.pair.refImage != 0 && s.imageCrc != s.pair.refImage
  peerConfig := match s.pair.hb with | some h => s.pair.refConfig != 0 && h.configCrc != s.pair.refConfig | none => false
  peerImage := s.pair.refImage != 0 && s.pair.peerImage != 0 && s.pair.peerImage != s.pair.refImage

/-- NAMED: the unit that differs, none where both match or both differ (R451). -/
def RefDiff.named (d : RefDiff) (posBit : Nat) : Nat :=
  let mine := d.config || d.image
  let peer := d.peerConfig || d.peerImage
  if mine && !peer then posBit else if peer && !mine then 3 - posBit else 0

/-- What the comparison sets (R451): NAMED as it finds it, CONFIG_DIFF and IMAGE_DIFF, which stand until PAIR_CLEAR (R463). -/
def compareRefs (s : State) : State :=
  let d := s.refDiff
  let s1 := s.modPair fun x => { x with named := d.named s.posBit }
  let s2 := if d.config || d.peerConfig then setPairFault 6 true s1 else s1
  if d.image || d.peerImage then setPairFault 7 true s2 else s2

end Sys2Proof.Machine
end

