-- ==== Sys2Proof/Machine/Apply.lean ====
section
/-! DEFINITION. The application of changed records to channels, bays, lanes and points at a boundary (R157, R162, R174, R220,
R291, R298, R319, R508, R512). -/

namespace Sys2Proof.Machine

/-- The object whose records a parameter belongs to, in the order of R508: class × 65,536 + number, with the classes 0 channel,
1 bay, 2 lane, 3 remote slot, 4 output slot, 5 point, 6 group; none for a parameter of no object. -/
def objKey (pid : Nat) : Option Nat :=
  match Subj.ofPid pid with
  | some (.bay, k, _) => some (0x10000 + k)
  | some (.lane, k, _) => some (0x20000 + k)
  | some (.pt, k, _) => some (0x50000 + k)
  | some (.grp, k, _) => some (0x60000 + k)
  | some (_, k, _) => some k
  | none =>
    if 0x03001000 ≤ pid ∧ pid < 0x03001200 then some (pid - 0x03001000)
    else if 0x14020000 ≤ pid ∧ pid < 0x14020800 then some (0x30000 + (pid - 0x14020000) / 2)
    else if 0x14030000 ≤ pid ∧ pid < 0x14030400 then some (0x40000 + (pid - 0x14030000) / 2)
    else none

/-- The number under which `epochOf` knows an object. -/
def objEpoch (key : Nat) : Option Nat :=
  match key / 65536 with
  | 0 => some key
  | 2 => some (512 + key % 65536)
  | 5 => some (1024 + key % 65536)
  | 6 => some (66560 + key % 65536)
  | _ => none

/-- The change records that lead from one configuration to another (R508, R514). -/
def cfgDiff (old new : Cfg) : List Change :=
  (unionKeys (old.map (·.1)) (new.map (·.1))).filterMap fun p =>
    if tfind old p = tfind new p then none else some (p, tfind new p)

/-- The objects that change records belong to, in order. -/
def objKeys (chs : List Change) : List Nat := unionKeys (chs.filterMap fun c => objKey c.1) []

/-- A parameter is not applied by the control plane with its object's phase: the data plane's, and those that a sealed partition
holds (Table 17.1, R533). -/
def State.notInPhase (s : State) (pid : Nat) : Bool := decide (pid / 16777216 = 0x14) || (tollHeld pid && s.tollOwns)

/-- Field i of object k differs between two configurations. -/
def differs (old new : Cfg) (j : Subj) (k i : Nat) : Bool := cfield old j k i != cfield new j k i

/-- A field of the setup of object k differs. -/
def anyDiffers (old new : Cfg) (j : Subj) (k : Nat) : Bool := j.fields.any fun f => differs old new j k f.index

/-- FUNCTION, WIRING or sub-function of channel n differs. -/
def fnDiffers (old new : Cfg) (n : Nat) : Bool := differs old new .ch n 0 || differs old new .ch n 1

/-- Channel n keeps the modem it holds under configuration `new` (R160): its function stays and MODEM still asks for it. -/
def State.keepsModem (s : State) (new : Cfg) (n : Nat) : Bool :=
  let k := (s.ch n).modem
  let want := cfield new .ch n 6
  decide (k < 8) && !differs s.cfg.inForce new .ch n 0 && (want == k || want == 0xFE)

/-- The modems of a bay's channels under configuration `new` (R160), given the modems taken so far: those that stay, then the
requests in order of n. `bad` is the first channel that cannot be served. -/
def assignModems (s : State) (new : Cfg) : List Nat → List Nat → List (Nat × Nat) → List (Nat × Nat) × Option Nat
  | [], _, out => (out, none)
  | n :: ns, taken, out =>
    let want := cfield new .ch n 6
    if s.keepsModem new n then assignModems s new ns taken (out ++ [(n, (s.ch n).modem)])
    else if want < 8 then
      if taken.contains want then (out, some n) else assignModems s new ns (want :: taken) (out ++ [(n, want)])
    else if want = 0xFE then
      match (List.range 8).find? fun k => !taken.contains k with
      | some k => assignModems s new ns (k :: taken) (out ++ [(n, k)])
      | none => (out, some n)
    else assignModems s new ns taken out

/-- The modems of bay b under configuration `new`. -/
def State.modemsOf (s : State) (new : Cfg) (b : Nat) : List (Nat × Nat) × Option Nat :=
  let kept := ((bayChans b).filter (s.keepsModem new)).map fun n => (s.ch n).modem
  assignModems s new (bayChans b) kept []

/-- The modem that channel n takes under configuration `new`, 0xFF for none. -/
def State.modemFor (s : State) (new : Cfg) (n : Nat) : Nat :=
  (((s.modemsOf new (bayOf n)).1.find? fun x => x.1 == n).map (·.2)).getD 255

/-- A modem assigned to channel n or taken from it, and the HART work that a change of function, setup or modem ends or begins
(R160, R251, R256). -/
def applyHart (n : Nat) (old : Cfg) (modem : Nat) (s : State) : State :=
  let new := s.cfg.inForce
  let ch := differs old new .ch n 0 || anyDiffers old new .hart n || decide ((s.ch n).modem ≠ modem)
  if !ch then s
  else
    let s1 := (hartReset n s).modCh n fun r => { r with modem := modem }
    if s1.running n then hartScan n s1 else s1

/-- Supervision of channel n after a change (R216, R220, R226): new baselines where FUNCTION, WIRING, RANGE, IEX_STEP, AMP or
GUARD changed. Between supervised functions the raw checks, status bits and trend window go on (log 208). A SUP_CHECK that waits
for a check that can no longer come is refused. -/
def applySup (n : Nat) (old : Cfg) (s : State) : State :=
  let new := s.cfg.inForce
  let fresh := fnDiffers old new n || differs old new .ch n 2 || differs old new .ch n 4 || differs old new .sup n 1 ||
    hasBit (cfield old .sup n 0) 3 != hasBit (cfield new .sup n 0) 3
  let s0 := if s.supervised n then s
    else (s.sup n).waiting.foldl (fun s tk => reply tk stState [] s) (s.modSup n fun u => { u with waiting := [] })
  let s1 := if !fresh then s0
    else if s0.supervised n then setSup n (fun u => u.discard.capture) s0
    else if (s0.subFn n).converts then setSup n SupRun.discard s0
    else setSup n (fun _ => SupRun.initial) s0
  if s1.running n then startSup n s1 else captureSup n s1

/-- A lead capture under way on channel n ends (R205). -/
def dropCapture (n : Nat) (s : State) : State := match (s.ch n).capture with | some c => endCapture n c s | none => s

/-- A function starts on channel n (R162): what the old one left goes, connections are made, outputs stand at their safe
state. -/
def startFunction (n : Nat) (s : State) : State :=
  let s1 := (s.modDio n fun _ => DioRun.initial).modLamp n fun _ => LampRun.initial
  let s2 := connectChan n (s1.modCh n fun r => { r with leadR := none, leadHigh := false, refAccepted := none, refIn := none,
                                                        prevRef := none, overSince := none, samples := [], epochDue := false })
  if s2.fn n == .off then
    ((dropCapture n s2).modOut n fun _ => OutRun.initial).modCh n fun r =>
      { ChanRun.initial with
        tripCount := r.tripCount, terms := tmap TermRun.initial (fun _ t => { t with opened := false, side := .none }) r.terms,
        modem := r.modem, iEx := r.iEx, refTime := r.refTime, refFault := r.refFault, matchFault := r.matchFault, excFault := r.excFault,
        woke := r.woke,
        latest := { Result.initial with seq := r.latest.seq } }
  else
    let s3 := startOutput n s2
    let s4 := if s3.fn n == .lamp then startLamp n s3 else s3
    startLaneOut n (restartDigital n s4)

/-- A reference check of channel n that may have begun is abandoned and due again (R149). -/
def dueAgain (n : Nat) (s : State) : State :=
  s.modCh n fun r => { r with refDue := r.refDue.map fun d => if d ≤ s.node then s.node else d }

/-- Channel n with its changed records (R162, R174, R177, R513), `old` the configuration before. A passed reference check's
currents and a failed one's flags stay until a check passes (R148; log 214). An IEX_STEP changed to a code of the same current adds
nothing to the settling (DESIGN CHOICE, log 252). -/
def applyChan (old : Cfg) (modem : Nat) (n : Nat) (s : State) : State :=
  let new := s.cfg.inForce
  let func := fnDiffers old new n
  let house := func || differs old new .ch n 2 || differs old new .ch n 4
  let filt := house || differs old new .ch n 3 || hasBit (cfield old .ch n 5) 1 != hasBit (cfield new .ch n 5) 1
  let moved := connIn old n != connIn new n || iexStepIn old n != iexStepIn new n
  let s1 := if anyDiffers old new .ch n then abandonCheck n (dueAgain n s) else s
  let s2 := applyHart n old modem s1
  if !s2.running n then
    applySup n old (if func then s2.modOut n fun o => if o.latched then o else OutRun.initial else s2)
  else
    let s3 := if func then startFunction n s2 else if moved then connectChan n s2 else s2
    let s5 := if filt then restart n (s3.node + 200) house (if moved then 250 else 0) s3
      else s3.modCh n fun r => { r with epochDue := true }
    let s6 := if !func && (differs old new .ch n 2 || anyDiffers old new .dio n) then restartDigital n s5 else s5
    let drives := anyDiffers old new .ch n || anyDiffers old new .dio n || anyDiffers old new .lamp n ||
      ((s6.fn n).repeater && anyDiffers old new .out n)
    let s6a := if !func && drives then s6.modDio n fun d => { d with status := d.status &&& 0x173 } else s6
    let s7 := if !func && hasBit (cfield old .lamp n 4) 0 != hasBit (cfield new .lamp n 4) 0 then followColdTest n s6a else s6a
    let due (on : Bool) (d : Option Micros) : Option Micros := if on then some (d.getD s7.node) else none
    applySup n old (s7.modCh n fun r => { r with
      refDue := due (s7.refChecks n) r.refDue, leadDue := due (s7.leadChecks n) r.leadDue })

/-- Bay b after a change of its channels (R157): its domain starts with its first configured channel and stops with its last. A
partition that runs its boot code alone keeps bays 0 and 1 off (R540). -/
def bayFollow (b : Nat) (s : State) : State :=
  let used := !bayUnused s.cfg.inForce b && !(decide (b < 2) && s.tollOwns && !s.toll.fwOk)
  match (s.bay b).state with
  | .off => if used then s.modBay b fun y => { y with state := .starting } else s
  | _ => if used then s else s.modBay b fun y => { y with
      state := .off, ssRun := false, shedding := false, over8Since := none, overload := false, refUser := none, iHist := [] }

/-- A record of group 0x02 that a change concerns names channel n in a configuration: as its own record, as the channel of a reference
or source in use, or as a channel of its lane (R298; DEDUCED, log 254). -/
def namesChan (c : Cfg) (n : Nat) (ch : Change) : Bool :=
  match Subj.ofPid ch.1 with
  | some (.lane, k, _) => [1, 2, 3].any fun i => cfield c .lane k i == n
  | some (.bay, _, _) => false
  | some (.pt, _, _) => false
  | some (.grp, _, _) => false
  | some (.meas, k, _) => k == n || refChan c k == some n
  | some (.out, k, _) => k == n || ((fnIn c k).analogOut && sourceChan c k == some n)
  | some (.dio, k, _) => k == n || ((fnIn c k).switched && sourceChan c k == some n)
  | some (.lamp, k, _) => k == n || (fnIn c k == .lamp && sourceChan c k == some n)
  | some (_, k, _) => k == n
  | none => false

/-- Lane l takes part in a set of changes: its own setup or a record of one of its channels (R291, R509). -/
def laneTouched (c : Cfg) (l : Nat) (chs : List Change) : Bool :=
  chs.any fun ch =>
    match Subj.ofPid ch.1 with
    | some (.lane, k, _) => k == l
    | some (.bay, _, _) => false
    | some (.pt, _, _) => false
    | some (.grp, _, _) => false
    | some (_, k, _) => [1, 2, 3].any fun i => cfield c .lane l i == k
    | none => false

/-- Lane l after a phase (Table 9.2, R298): OFF without ENABLE, UNPROVEN with it from OFF or where a leg lost its proof. -/
def applyLane (old : Cfg) (chs : List Change) (l : Nat) (s : State) : State :=
  let r := s.lane l
  if !s.laneFlag l 0 then
    if r.state = .off then s
    else setLane l (fun r => { LaneRun.initial with
      tTrip := r.tTrip, tripCount := r.tripCount, pulseCount := r.pulseCount,
      legA := { LegRun.initial with tDemand := r.legA.tDemand }, legB := { LegRun.initial with tDemand := r.legB.tDemand } }) s
  else if r.state = .off then
    setLane l (fun r => { r with state := .unproven, legA := { r.legA with seen := true }, legB := { r.legB with seen := true } }) s
  else
    let clear (i : Nat) (g : LegRun) : LegRun :=
      if differs old s.cfg.inForce .lane l i then { LegRun.initial with tDemand := g.tDemand, seen := true }
      else if chs.any fun ch => namesChan old (s.laneChan l i) ch || namesChan s.cfg.inForce (s.laneChan l i) ch then { g with proven := false, count := 0 } else g
    let a := clear 1 r.legA
    let b := clear 2 r.legB
    if a = r.legA && b = r.legB then s
    else setLane l (fun r => { r with
      legA := a, legB := b, state := if a.proven && b.proven then r.state else .unproven }) s

/-- Records applied by the control plane and the fabric in one boundary's compute phase (R162, R508, R512). -/
def applyPhase (chs : List Change) (s : State) : State :=
  let old := s.cfg.inForce
  let live := chs.filter fun c => !s.notInPhase c.1
  let new := applyChanges old live
  let keys := objKeys live
  let target := match s.cfg.commit with | some c => c.target | none => new
  let chans := keys.filter (· < 0x10000)
  let modems := chans.map fun n => (n, s.modemFor target n)
  let s1 : State := { s with cfg := { s.cfg with
    inForce := new, ahead := unionKeys s.cfg.ahead (keys.filterMap objEpoch) } }
  let s2 := modems.foldl (fun s x => applyChan old x.2 x.1 s) s1
  let s3 := (keys.filter fun k => k / 65536 == 5).foldl (fun s k => s.modPt (k % 65536) fun r => { r with restart := true }) s2
  let s4 := (List.range 32).foldl (fun s l => applyLane old live l s) s3
  (List.range 16).foldl (fun s b => bayFollow b s) s4

/-- The slots that a change concerns take no entry of before (R420). -/
def resetSlot (key : Nat) (s : State) : State :=
  let k := if key / 65536 = 3 then key % 65536 else 1024 + key % 65536
  { s with ponor := { s.ponor with work := tdel k s.ponor.work } }

/-- A commit of a code's RATE or DEPTH fills its bucket (R368); a flood of the code goes on to its SUMMARY (R369). -/
def fillBucket (code : Nat) (s : State) : State :=
  match tfind s.grn.buckets code with
  | some b => setBucket code { b with tokens := s.grnDepth code, at_ := s.node / 1000 } s
  | none => s

/-- Records that take effect with the last phase (R500, Table 17.4 step 5): the management plane's, the data plane's and those of
no object; NODE_ADDR and the RING_IDs wait for the next COLD or POR reset. -/
def applyRest (target : Cfg) (s : State) : State :=
  let old := s.cfg.inForce
  let chs := (cfgDiff old target).filter fun c => !(tollHeld c.1 && s.tollOwns)
  let s1 : State := { s with cfg := { s.cfg with inForce := applyChanges old chs } }
  let slots := (objKeys chs).filter fun k => k / 65536 == 3 || k / 65536 == 4
  let s2 := slots.foldl (fun s k => resetSlot k s) s1
  let codes := (chs.filter fun c => c.1 / 65536 == 0x1210).map fun c => c.1 % 65536 / 4
  let s3 := followPorts s (codes.foldl (fun s k => fillBucket k s) s2)
  if chs.any fun c => c.1 / 16777216 == 0x13 then clockConfigured s3 else s3

end Sys2Proof.Machine
end

