-- ==== Sys2Proof/Machine/Reset.lean ====
section
/-! DEFINITION. Resets and retention, the loading of the configuration, SAFE, DORMANT and failed firmware trials (R101, R109 to
R117, R127, R504 to R506, R516, R522, Table 3.12, Table 17.5). -/

namespace Sys2Proof.Machine

/-- The node's configuration with the Toll parameter set in place of its own records for bays 0 and 1 (R533). -/
def tollOverlay (live set : Cfg) : Cfg :=
  (set.filter fun x => tollHeld x.1).foldl (fun c x => tput x.1 x.2 c) (live.filter fun x => !tollHeld x.1)

/-- What the planes apply of configuration `c`: a partition that is SEALED or BROKEN brings its own set, none where it runs its
boot code alone (R540). -/
def State.forced (s : State) (c : Cfg) : Cfg :=
  if s.tollOwns then tollOverlay c (if s.toll.fwOk then s.toll.params else []) else c

/-- The configuration that BOOT loads (R506): the live bank, where its FORMAT is known. -/
def State.baseCfg (s : State) : Cfg := s.forced (if s.cfg.formatBad then [] else s.liveCfg)

/-- RESET_CAUSE as it reads: GOV_ACTIVE and CTRL_WINDOW formed (Table 3.8). -/
def State.causeWord (s : State) : Nat :=
  s.nd.cause.toNat + 4 * bit (!s.nd.gov.steps.isEmpty) + bit s.nd.ctrlWindow.isSome

/-- A bit of RESET_CAUSE set or cleared. -/
def setCause (k : Nat) (b : Bool) (s : State) : State :=
  s.modNd fun d => { d with cause := BitVec.ofNat 32 (setBit d.cause.toNat k b) }

/-- A reset counted, with its source and kind in RESET_CAUSE (R110). -/
def countReset (src : Nat) (kind : ResetKind) (s : State) : State :=
  (s.modNd fun d => { d with
    cause := BitVec.ofNat 32 (d.cause.toNat / 16777216 * 16777216 + src * 65536 + kind.code * 4096 + d.cause.toNat % 4096) }).modPower
    fun p => { p with resetCount := wrap32 (p.resetCount + 1) }

/-- The RESET record (Table 12.3). -/
def resetRecord (s : State) : State := submit .management 0x010 (le 4 s.causeWord) s

/-- A reset counted and recorded. -/
def markReset (src : Nat) (kind : ResetKind) (s : State) : State := resetRecord (countReset src kind s)

/-- The change of mode from the one before a reset to BOOT, recorded (Tables 3.10, 12.3). -/
def enterBoot (s : State) : State :=
  let from_ := s.nd.recorded
  let s1 := s.modNd fun d => { d with mode := from_, recorded := .boot }
  setMode .boot 0 s1

/-- A FIRMWARE record (Table 17.12) about slot k. -/
def firmwareRecord (event k result : Nat) (s : State) : State :=
  let f := s.fwSlot k
  submit .management 0x1C2
    (le 1 event ++ le 1 k ++ le 1 result ++ le 1 0 ++ le 1 f.major ++ le 1 f.minor ++ le 2 f.patch ++ le 4 f.imageCrc) s

/-- A CAL record (Table 17.12). -/
def calRecord (event : Nat) (s : State) : State :=
  let c := s.cal.getD ⟨0, 0, 0, 0, [], []⟩
  submit .management 0x1C1 (le 1 event ++ le 1 c.source ++ le 2 0 ++ le 4 c.overwrites ++ le 8 c.tWritten) s

/-- EXPECT_SLOT of the live bank. -/
def State.expectSlot (s : State) : Nat := cget s.liveCfg 0x17000001

/-- Byte 11 of Table 17.11. -/
def State.invalidByte (s : State) : Nat :=
  bitsOf [s.live.isNone, s.prev.isSome, s.cfg.formatBad, s.cfg.slotMismatch, s.cfg.calInv]

/-- What BOOT finds about the live configuration (R506). -/
def checkLive (s : State) : State :=
  let bad := match s.live with | some (_, b) => b.format != 1 | none => false
  { s with cfg := { s.cfg with
      formatBad := bad, calInv := s.cal.isNone, slotMismatch := s.expectSlot != 255 && s.expectSlot != s.nd.slot } }

/-- A BOOT_CHECK record for each cause (R506). -/
def bootChecks (s : State) : State :=
  let gen := match s.live with | some (_, b) => b.gen | none => 0
  [s.live.isNone, s.cfg.formatBad, s.cfg.slotMismatch, s.cfg.calInv].foldl (fun s b =>
    if b then submit .management 0x1C3
      (le 1 s.invalidByte ++ le 1 s.nd.slot ++ le 1 s.expectSlot ++ le 1 0 ++ le 4 gen) s
    else s) s

/-- The calibration copies compared (R516): the one in use is written over the other where they differ. -/
def calBoot (s : State) : State :=
  match s.cal with
  | none => calRecord 3 s
  | some c =>
    if s.cfg.cal0 = some c && s.cfg.cal1 = some c then s
    else calRecord 2 { s with cfg := { s.cfg with cal0 := some c, cal1 := some c } }

/-- Sessions, transfers, staged changes and waiting packets lost with the management core (Table 3.12). Replies that the data
plane holds go out (R39). In a pair the sessions of a unit that resets go on in its peer; a management restart of the duty unit ends
them (R484): `told`. -/
def loseSessions (told : Bool) (s : State) : State :=
  let s1 := endBulks 6 (fun _ => true) s
  let s2 := (List.range 8).foldl (fun s k => if told then endSession 7 k s else dropSession k s) s1
  { s2 with host := { s2.host with
      cmdQueue := [], replyWait := [], svcQueue := [], bellCmds := [], passed := [], afterHandover := none,
      mbxWait := s2.host.mbxWait.filter fun w => match w with | .command _ _ => false | .panelAck _ _ _ _ => false | _ => true } }

/-- An output as a COLD or POR reset leaves it (R109, R246): the latch, what it drives, its generator and its rail. -/
def OutRun.cold (o : OutRun) : OutRun :=
  if o.latched then
    { OutRun.initial with mode := .latched, latched := true, drive := o.drive, lastU := o.drive, stage := o.stage, pulse := o.pulse,
                          vRail := o.vRail, railAt := o.railAt, railGoal := o.railGoal, vTerm := o.vTerm, iTerm := o.iTerm }
  else OutRun.initial

/-- A channel as a COLD or POR reset leaves it: an output's connections, which its field-side latches hold (R136, R137). -/
def ChanRun.cold (held : Bool) (r : ChanRun) : ChanRun :=
  if held then { ChanRun.initial with connA := r.connA, connB := r.connB, connC := r.connC, connD := r.connD } else ChanRun.initial

/-- A digital channel as a COLD or POR reset leaves it: the switch position that the latch holds. -/
def DioRun.cold (d : DioRun) : DioRun := { DioRun.initial with switch := { SwitchRun.initial with closed := d.switch.closed } }

/-- A bay as a COLD or POR reset leaves it: its domain off, its claim latch and field supply as they stand (R139, R439). -/
def BayRun.cold (y : BayRun) : BayRun :=
  { BayRun.initial with claim := y.claim, vFs := y.vFs, vFsMin := y.vFs, fsOv := y.fsOv, fsWarn := y.fsWarn, fsLow := y.fsLow,
                        fsLost := y.fsLost, iFs := y.iFs, iFsPeak := y.iFs, baySensor := y.baySensor, latchOwed := y.latchOwed }

/-- A lane as a reset leaves it (Tables 3.12, 9.8): unproven where it is in use, after a COLD or POR reset once BOOT has loaded its setup; the field side runs on until its watchdog. -/
def LaneRun.reset (cold : Bool) (r : LaneRun) : LaneRun :=
  let leg (g : LegRun) : LegRun := { LegRun.initial with tDemand := g.tDemand }
  { LaneRun.initial with
    state := if cold || r.state = .off then .off else .unproven, legA := leg r.legA, legB := leg r.legB, tTrip := r.tTrip,
    tripCount := r.tripCount, tripCause := if cold then 0 else r.tripCause, pulseCount := if cold then 0 else r.pulseCount,
    pulseAt := r.pulseAt, pulseHs := r.pulseHs, hs := r.hs, ls := r.ls }

/-- Supervision as a COLD or POR reset leaves it: the baselines (R220). -/
def SupRun.cold (u : SupRun) : SupRun :=
  { SupRun.initial with noBase := u.noBase, baseLL := u.baseLL, baseIns := u.baseIns, baseCap := u.baseCap, baseCount := u.baseCount,
                        baseItems := u.baseItems }

/-- A point as a COLD or POR reset leaves it: shelving, inhibit and its counts. -/
def PtRun.cold (r : PtRun) : PtRun :=
  { PtRun.initial with shelveLeft := r.shelveLeft, inhibited := r.inhibited, raises := r.raises,
                       suppress := if r.inhibited then 3 else if r.shelveLeft ≠ 0 then 2 else 0 }

/-- The field as a COLD or POR reset leaves it. -/
def FieldSt.cold (held : Nat → Bool) (f : FieldSt) : FieldSt :=
  { FieldSt.initial with
    chan := tmap ChanRun.initial (fun n r => r.cold (held n)) f.chan
    sup := tmap SupRun.initial (fun _ u => u.cold) f.sup
    out := tmap OutRun.initial (fun _ o => o.cold) f.out
    dio := tmap DioRun.initial (fun _ d => d.cold) f.dio
    bay := tmap BayRun.initial (fun _ y => y.cold) f.bay
    lane := tmap LaneRun.initial (fun _ r => r.reset true) f.lane }

/-- The clock as a COLD or POR reset leaves it: the millpond keeps its part (Tables 3.12, 13.1, 13.5). -/
def ClockSt.cold (c : ClockSt) : ClockSt :=
  { ClockSt.reset with
    clock := c.clock, rangeEnd := c.rangeEnd, oscStop := c.oscStop, lowBak := c.lowBak, leapEnd := c.leapEnd, trusted := c.trusted,
    brMagic := c.brMagic, seqIntact := c.seqIntact, nextSeq := c.nextSeq, modeReq := c.modeReq, dmSaved := c.dmSaved,
    leapAt := c.leapAt, lastLock := c.lastLock, user := c.user }

/-- The pair as a reset leaves it: its role goes, its references and counts stay (Tables 3.12, 15.14). -/
def PairSt.lost (cold : Bool) (p : PairSt) : PairSt :=
  let q : PairSt := { PairSt.initial with
    refConfig := p.refConfig, refImage := p.refImage, peerImage := p.peerImage, tSwitch := p.tSwitch, switches := p.switches, peerLine := p.peerLine,
    shutIn := p.shutIn, hb := p.hb, hbPairAt := p.hbPairAt, hbPktAt := p.hbPktAt, lostAt := p.lostAt,
    lostAsserted := p.lostAsserted, peerFreeAt := p.peerFreeAt }
  if cold then q
  else { q with ownLoop := p.ownLoop, shutLoop := p.shutLoop, shutOut := p.shutOut, shutAt := p.shutAt, shutWait := p.shutWait, faults := p.faults,
                named := p.named, first := p.first, marked := p.marked, hbMissed := p.hbMissed, gapNs := p.gapNs }

/-- The module's own part as a COLD or POR reset leaves it: in BOOT, the identity pins and straps latched again (R75, R236), the
WITHDRAW lamp off (log 200). Node time starts at `up`. -/
def NodeSt.cold (d : NodeSt) (now up : Micros) : NodeSt :=
  { d with
    mode := .boot, recorded := d.mode, ctrlWindow := none, bootPaused := d.power.warnSet, resetTime := now, mgmtRestarts := [],
    slot := d.slotPins, posB := d.posPin, strapLatched := d.strapTied, regChannel := ⟨0, 0⟩, regAlarm := ⟨0, 0⟩,
    regRemote := ⟨0, 0⟩, regService := ⟨0, 0⟩, regToll := ⟨0, 0⟩, ctrlStalled := false, fabricStalled := false,
    dataStalled := false, mgmtStalled := false, tollStalled := false, ctrlStopped := false, overrunRun := 0,
    sweepDropRun := 0, cycleAt := none, woken := false, nodeFault := false, gov := GovSt.reset, wake := none, hasRun := d.hasRun || !d.seatOpen,
    withdraw := .off, runFrom := up, upFrom := up }

/-- The bay engines stop with the node: the generators of outputs go on (R246). -/
def stopPulses (s : State) : State :=
  (s.field.out.map (·.1)).foldl (fun s n => if s.running n then stopPulse n s else s) s

/-- Everything that a COLD or POR reset loses (Table 3.12). Node time starts at the millpond clock. -/
def loseAll (s0 : State) : State :=
  let s := stopPulses s0
  let c := s.clk.cold
  { s with
    node := c.clock
    clk := c
    nd := s.nd.cold s.now c.clock
    host := HostSt.reset
    cfg := { s.cfg with inForce := [], ahead := [], stageOwner := none, staged := [], commit := none, phases := 0, phaseDone := 0,
                        freezeMs := 0 }
    field := s.field.cold fun n => (s.fn n).held || decide ((s.bay (bayOf n)).state = .off)
    alarm := { AlarmSt.initial with
      pts := tmap PtRun.initial (fun _ r => r.cold) s.alarm.pts, imgPts := tmap PtRun.initial (fun _ r => r.cold) s.alarm.pts,
      sweepAt := c.clock }
    bell := { BellSt.initial with unmanned := s.bell.unmanned, tickAt := c.clock,
                                  dm := if c.dmSaved = .off then .off else .expired }
    grn := s.grn.cold s.recoverNext
    ponor := PonorSt.initial
    pair := s.pair.lost true
    toll := { s.toll with fwOk := false, pts := checkedPoints s.toll, results := [] }
    trace := TraceSt.initial }

/-- The figures of a SUP_CHECK record as the trend window holds them. -/
def trendItem (r : GrnRec) : TrendItem :=
  let w (k : Nat) : Word32 := BitVec.ofNat 32 (fieldAt r.payload k 4)
  ⟨r.time, w 44, w 36, w 32⟩

/-- A record's figures taken into a rebuilt window: the runs of checks with trend conditions go with them, so that the first check
that follows sets the bits where R221 holds (Table 6.12). -/
def SupRun.rebuild (s : State) (n : Nat) (it : TrendItem) (u : SupRun) : SupRun :=
  let setup := s.supSetup n
  let v := { u with window := (it :: u.window).take (setup.getD 3 0) }
  if v.noBase then v else v.takeTrends (trendsOf s n setup v v.window)

/-- Trend windows rebuilt from the SUP_CHECK records of the store (R222). -/
def rebuildTrends (s : State) : State :=
  (s.grn.stored.filter fun r => r.code == 0x041).foldl (fun s r =>
    let n := fieldAt r.payload 0 2
    s.modSup n fun u => u.rebuild s n (trendItem r)) s

/-- The live configuration loaded in BOOT after a COLD or POR reset (R157, R435, R505, R506): parameters in force, bays started,
lanes in use unproven, HART modems assigned afresh in order of n (log 205). -/
def bootLoad (s : State) : State :=
  let s1 := bootChecks (calBoot (checkLive s))
  let c := s1.baseCfg
  let s2 : State := { s1 with
    cfg := { s1.cfg with inForce := c, liveEpoch := s1.bankEpoch } }
  let s3 := (List.range 32).foldl (fun s l =>
    setLane l (fun r => { r with state := if s.laneFlag l 0 then .unproven else .off }) s) s2
  let s4 := if s3.configInvalid then s3 else
    (List.range 16).foldl (fun s b => bayFollow b s)
      (allChans.foldl (fun s n => if s.fn n == .off then s else s.modCh n fun r => { r with modem := s.modemFor c n }) s3)
  trustStep 1 (rebuildTrends s4)

/-- The intake port with a code. -/
def GrnPort.ofCode : Nat → GrnPort
  | 0 => .control | 1 => .data | 2 => .management | _ => .toll

/-- The records that a held node owed, submitted at its release (R116). -/
def payOwed (s : State) : State :=
  s.grn.owed.foldl (fun s x => submitAt (GrnPort.ofCode x.1) x.2.code x.2.time x.2.payload s)
    { s with grn := { s.grn with owed := [] } }

/-- BOOT after a COLD or POR reset, once nothing holds the node in it (R58, R113, R116): the records, and the configuration. -/
def bootEntry (s : State) : State := bootLoad (enterBoot (payOwed (s.modNd fun d => { d with hasRun := true })))

/-- What the ring switch and the time unit take of the live bank as they restart, so that a node in BOOT, or held in cold reset,
forwards and answers polls under its own address (R30, R116; log 195). -/
def ringLoad (s : State) : State :=
  let s1 := checkLive s
  let c := s1.baseCfg
  { s1 with
    cfg := { s1.cfg with inForce := c.filter fun x => x.1 / 16777216 = 0x14 || x.1 / 16777216 = 0x13 }
    ponor := { s1.ponor with nodeAddr := cget c 0x14000001, ringIdL := cget c 0x14000002, ringIdU := cget c 0x14000003 } }

/-- The DIP record (R106, Table 12.3), counted, with HOLD_SEEN. -/
def dipRecord (exit_ : Nat) (s : State) : State :=
  match s.nd.power.dip with
  | none => s
  | some d =>
    let s1 := (setCause 6 true s).modPower fun p => { p with dip := none, dipCount := wrap32 (p.dipCount + 1) }
    submit .management 0x011
      (le 8 d.entry ++ le 8 exit_ ++ le 8 d.minAt ++ f32Bytes d.minV ++ f32Bytes d.minA ++ f32Bytes d.minB ++
        le 1 d.mode.code ++ le 3 0) s1

/-- HOLD ends other than at its boundary: a dip whose warning has cleared is recorded with this exit; one that lasts goes on in BOOT
or SAFE (R106). -/
def closeDip (exit_ : Nat) (s : State) : State := if s.nd.power.warnSet then s else dipRecord exit_ s

/-- A COLD or POR reset (Table 3.6): everything of Table 3.12 is lost, the reset is recorded (R110), and the node runs BOOT unless
it is held. -/
def coldReset (src : Nat) (kind : ResetKind) (s : State) : State :=
  let s1 := countReset src kind ((loseAll s).modNd fun d => { d with resetKind := kind, resetSource := src })
  let s2 := closeDip s.node (resetRecord (ringLoad s1))
  if s2.held then s2 else bootEntry s2

/-- REF_CONFIG and REF_IMAGE of both units (R455). -/
def setRefs (config image : Nat) (s : State) : State :=
  let s1 := s.modPair fun p => { p with refConfig := config, refImage := image }
  if s1.paired && (config != s.pair.refConfig || image != s.pair.refImage) then s1.emit (.peer 12 (le 4 config ++ le 4 image)) else s1

/-- The running image is on trial. -/
def State.onTrial (s : State) : Bool := decide ((s.fwSlot s.cfg.running).state = .trial)

/-- The trial has failed (R522): the image is rejected, the other slot becomes ACTIVE, the reference follows (R523), and the
node takes a COLD reset. -/
def failTrial (s : State) : State :=
  let k := s.cfg.running
  let s1 := (s.modFw k fun f => { f with state := .rejected }).modFw (1 - k) fun f => { f with state := .active }
  let s2 := firmwareRecord 5 (1 - k) 0 { s1 with cfg := { s1.cfg with trialFrom := none } }
  coldReset 0x0D .cold (setRefs s2.pair.refConfig (s2.fwSlot (1 - k)).imageCrc s2)

/-- An output as a WARM reset leaves it: nothing is on its way to the latch, and STATE reads 0x00 until the next transfer
(Table 7.11; log 222). -/
def OutRun.warm (o : OutRun) : OutRun := { o with xfer := none, forgot := true }

/-- The flags of Table 4.13 that no event keeps read 0 (R21; log 222). EXC_FAULT stays (Table 5.10). -/
def ChanRun.unkept (r : ChanRun) : ChanRun := { r with protTrip := false, refFault := false, matchFault := false }

/-- A channel as a WARM reset leaves it: the filter and connections go on. -/
def ChanRun.warm (r : ChanRun) : ChanRun :=
  { r.unkept with calOld := none, epochDue := r.epochDue || r.calOld.isSome }

/-- The fields of the clock window that no event keeps: the freeze count, the staging and its results (Table 13.1). -/
def ClockSt.unkept (c : ClockSt) : ClockSt := { c with snap := 0, staging := [], lapsed := [], wResult := [] }

/-- What a WARM reset restarts and empties (Table 3.12). -/
def warmState (src : Nat) (s1 : State) : State :=
  { s1 with
    host := { s1.host with mbx := .empty, mbxWait := [], sweepCmds := [] }
    nd := { s1.nd with
      mode := .boot, recorded := s1.nd.mode, bootPaused := s1.nd.power.warnSet, resetKind := .warm, resetSource := src,
      mgmtStalled := false, ctrlStopped := false, overrunRun := 0, sweepDropRun := 0, gov := GovSt.reset }
    field := { s1.field with
      chan := tmap ChanRun.initial (fun _ r => r.warm) s1.field.chan
      out := tmap OutRun.initial (fun _ o => o.warm) s1.field.out
      hart := tmap HartRun.initial (fun _ h => h.warm) s1.field.hart
      lane := tmap LaneRun.initial (fun _ r => r.reset false) s1.field.lane
      imageNext := none }
    clk := s1.clk.unkept
    alarm := { s1.alarm with next := none, waiting := [], panelAcks := [], frozen := [], tree := none, thawAt := none }
    pair := s1.pair.lost false }

/-- What the sweep that a WARM reset cuts short has changed in the points stays, and its records are submitted (R322). -/
def keepSweep (s : State) : State :=
  match s.alarm.next with | some nx => submitAll .control nx.recs s | none => s

/-- What a governor step moves on its channel at once, `old` the state before: a check is spaced from the last (R124, R215). -/
def govSpace (g : GovStep) (old s : State) : State :=
  match g with | .space n => respaceCheck n (old.toneInterval n) s | _ => s

/-- A WARM reset (Tables 3.6, 3.12, 17.5): control plane, fabric and management core start again; the old bank is in force. -/
def warmReset (src : Nat) (s : State) : State :=
  let s2 := warmState src (keepSweep (loseSessions (!s.paired) (abandonCommit s)))
  let s2b := (List.range 32).foldl (fun x l => laneRecord l (s.lane l) x) s2
  let s3 := closeDip s.node (markReset src .warm (enterBoot s2b))
  let s4 := bootChecks (checkLive s3)
  let s5 := applyRest s4.baseCfg (applyPhase ((cfgDiff s4.cfg.inForce s4.baseCfg).filter fun c => (objKey c.1).isSome) s4)
  let s6 : State := { s5 with cfg := { s5.cfg with ahead := [], liveEpoch := s5.bankEpoch } }
  let s7 := s.nd.gov.steps.foldl (fun x g => govSpace g s x) s6
  (s.nd.gov.inForce.map (·.1)).foldl (fun x n => restart n (x.node + 200) false 0 x) s7

/-- A WARM reset source acts (R117, R522): in SAFE it causes a COLD reset, and a trial fails of a reset that no NODE_RESET
commanded. -/
def warmSource (src : Nat) (commanded : Bool) (s : State) : State :=
  if s.nd.mode = .safe then coldReset src .cold s
  else if !commanded && s.onTrial then failTrial s
  else warmReset src s

/-- Lanes in SAFE or COMMISSION hold no output (R306, Table 9.2). -/
def lanesOut (s : State) : State :=
  (List.range 32).foldl (fun s l => sendLane l (laneMoves l [] s)) s

/-- Every output of a running bay at its programmed safe state. -/
def outputsSafe (s : State) : State :=
  (s.field.out.map (·.1)).foldl (fun s n =>
    if s.running n && !s.inToll n then (safeOutput n s).modOut n fun o => { o with xfer := none, keepLatched := false } else s) s

/-- The control plane runs on after a fault that led to no reset. -/
def clearControlFault (s : State) : State :=
  s.modNd fun d => { d with ctrlStopped := false, overrunRun := 0, sweepDropRun := 0 }

/-- The node goes to SAFE (Table 3.10): its fault declared, its outputs at their safe state. A trial image fails its trial. -/
def enterSafe (cause : Nat) (s : State) : State :=
  if s.nd.mode = .safe || s.nd.mode = .dormant then s
  else if s.onTrial then failTrial s
  else lanesOut (outputsSafe (declareFault cause (setMode .safe 0 (clearControlFault (closeDip s.node s)))))

/-- A control plane fault (R111): the first arms the window of 600 s and causes a WARM reset, the next within it leads to SAFE, or
leaves the node there.
The fault is declared before (Table 15.5). -/
def controlFault (s : State) : State :=
  if !s.alive then s
  else
    let s1 := if s.onDuty || s.nd.ctrlStopped then declareFault 1 s else s
    let armed := match s.nd.ctrlWindow with | some t => decide (s.now < t) | none => false
    if !armed then warmSource 7 false (s1.modNd fun d => { d with ctrlWindow := some (s.now + 600000000) })
    else if s.nd.mode = .safe then clearControlFault s1
    else enterSafe 1 s1

/-- A management restart (R110, Table 3.12): the third within 3,600 s is a COLD reset; a trial fails of it (R522). -/
def mgmtRestart (s : State) : State :=
  let recent := s.nd.mgmtRestarts.filter fun t => s.now < t + 3600000000
  if 2 ≤ recent.length then coldReset 0x0B .cold s
  else if s.onTrial then failTrial s
  else
    markReset 0x0A .mgmt (loseSessions (!s.paired || s.onDuty) (s.modNd fun d => { d with mgmtStalled := true, mgmtRestarts := s.now :: recent }))

/-- The logic domain goes off (R46, R101, R119): what it held is lost, the latches stay. -/
def powerOff (s : State) : State :=
  let s1 := loseAll s
  { s1 with
    nd := { s1.nd with
      mode := .dormant, recorded := .dormant, hasRun := s.nd.hasRun, bootPaused := false, slot := 0, posB := false,
      nresetHold := false
      power := { s1.nd.power with
        opMicros := s.onMicros, onSince := none, resetAt := none, dip := none, resetSet := true, fell := false } }
    grn := { s1.grn with owed := [] }
    toll := { s1.toll with downAt := some s1.clk.clock } }

/-- The module in cage p as the node finds it: its identity reported, one that was refused recorded (R90). -/
def readSfp (p : Nat) (s : State) : State :=
  let x := tget Sfp.none s.nd.sfp p
  if !x.fitted then s
  else
    let s1 := s.emit (.report (.sfpIdentity p x.vendor x.partNo x.serial))
    if x.refused then hwEvent 6 s1 else s1

/-- The logic domain comes on with a power-on reset (R101, R110); the SFP cages are read (R90). -/
def powerUp (src : Nat) (s : State) : State :=
  [0, 1, 2, 3].foldl (fun s p => readSfp p s)
    (coldReset src .por (s.modPower fun p => { p with onSince := some s.now, resetSet := false, fell := false }))

end Sys2Proof.Machine
end

