-- ==== Sys2Proof/Machine/Power.lean ====
section
/-! DEFINITION. Supply supervision, HOLD, resets, nRESET, the seat contact, modes, BOOT, the governor and the stalls of parts
(chapters 1 to 3, R236, R237, R458). -/

namespace Sys2Proof.Machine

/-- BUDGET (R122), W. -/
def State.budgetNow (s : State) : Rat :=
  let b := s.paramReal 0x03000002
  let t := s.nd.power.tF
  if 85 < t then b - 4 * (t - 85) else b

/-- The highest governor step held (Table 3.11), 0 for none. -/
def State.govStep (s : State) : Nat :=
  s.nd.gov.steps.foldl (fun a g => max a (match g with | .rate _ => 1 | .space _ => 2 | .poll _ => 3 | .alarm => 4)) 0

/-- The PWR_STATUS reply (Table 3.14). -/
def pwrStatusBytes (s : State) : List Byte :=
  let p := s.nd.power
  le 4 s.causeWord ++ f32Bytes p.supply.vMod ++ f32Bytes p.supply.vA ++ f32Bytes p.supply.vB ++ f32Bytes p.vRes ++
    f32Bytes p.vCell ++ f32Bytes p.pD ++ f32Bytes p.tF ++ f32Bytes s.budgetNow ++ le 4 p.dipCount ++ le 4 p.resetCount ++
    le 4 (s.onMicros / 3600000000) ++ le 1 s.nd.mode.code ++ le 1 s.govStep ++
    le 2 (allChans.filter fun n => decide (0 < s.rateSteps n)).length ++ le 4 0

/-- PWR_STATUS (R128). -/
def execPwrStatus (rq : Request) (s : State) : Res := answerNow 0x0301 rq (plainRead pwrStatusBytes) s

/-- PWR_CLEAR (Table 3.13): the mask over the W1C bits of RESET_CAUSE. -/
def pwrClearBody (_tk : Ticket) (pl : List Byte) (s : State) : Nat × List Byte × State :=
  if pl.length ≠ 4 then (stParam, [], s)
  else
    let mask := BitVec.ofNat 32 (fieldAt pl 0 4) &&& 0x7A#32
    let s1 := s.modNd fun d => { d with cause := d.cause &&& ~~~mask }
    (stDone, le 4 s1.causeWord, s1)

/-- PWR_CLEAR (R128). -/
def execPwrClear (rq : Request) (s : State) : Res := answerNow 0x0305 rq pwrClearBody s

/-- The oldest records of a port taken into the intake, or passed to the peer's. -/
def settlePort (port : Nat) : Nat → State → State
  | 0, s => s
  | k + 1, s =>
    let p := tget PortRun.initial s.grn.ports port
    match p.queue with
    | [] => s
    | r :: rest =>
      let s2 := setPort port { p with queue := rest } s
      if s.executes then match intakeRec r s2 with | some s3 => settlePort port k s3 | none => s
      else settlePort port k (s2.emit (.peer 6 (recBytes ⟨r.code, 0, r.time, r.payload⟩)))

/-- Granary staging written before a commanded reset or switch-off (R112, R119), with the records that wait at the ports. -/
def settleHistory (s : State) : State :=
  if s.nd.power.resetAt.isSome then s
  else
    let s1 := recovered (endFreeze 5 s)
    writeStaging ([0, 1, 2, 3].foldl (fun s k => settlePort k 256 s) s1)

/-- Replies still waiting go out before a reset or switch-off that a command announces (R129). -/
def flushReplies (s : State) : State :=
  let ps := s.host.replyQueue ++ s.host.replyWait
  ps.foldl (fun s p => s.emit (.packet p)) { s with host := { s.host with replyQueue := [], replyWait := [] } }

/-- NODE_RESET after its reply: WARM 0x01, COLD 0x02. -/
def commandedReset (kind : Nat) (s : State) : State :=
  let s1 := flushReplies (settleHistory s)
  if kind = 1 then warmSource 5 true s1 else coldReset 6 .cold s1

/-- NODE_RESET's own part (R129). -/
def nodeResetBody (cls : Rights) (tk : Ticket) (pl : List Byte) (s : State) : State :=
  let kind := byteAt pl 0
  if pl.length ≠ 2 || !(kind == 1 || kind == 2) then finish cls tk stParam [] s
  else if s.paired && s.onDuty && s.peerMode ≠ 4 && !hasBit (byteAt pl 1) 0 then finish cls tk stState [] s
  else commandedReset kind (finish cls tk stDone [] s)

/-- NODE_RESET (R129). -/
def execNodeReset (rq : Request) (s : State) : Res := .next (runPacket 0x0302 rq nodeResetBody s)

/-- Where the BOOT decision, or MODE_SET to DUTY, leads a unit (Tables 3.10, 15.9). -/
inductive BootRow where
  | stay | duty | resync | commission
  deriving DecidableEq, Repr

/-- The first row of Table 15.9 that applies; `req`: a commission request stands. -/
def State.bootRow (s : State) (req : Bool) : BootRow :=
  let heard := !s.peerLost
  if s.pair.shutIn then .resync
  else if req then .commission
  else if s.peerMode = 3 || (s.pair.peerLine && heard) then .resync
  else if s.pair.peerLine then .stay
  else if s.configInvalid then .commission
  else
    match (if heard then s.pair.hb else none) with
    | none => .duty
    | some h =>
      if h.mode = 1 then
        if h.epoch < s.cfg.liveEpoch || (h.epoch == s.cfg.liveEpoch && !s.atB) then .duty else .resync
      else if h.claiming then .stay else .duty

/-- An output's latch as the BOOT decision sets it after a COLD or POR reset (R137, R237): IOUT and VOUT, and latches that hold
OUT connections, at the failure level that the strap selects; other outputs at their programmed safe state. -/
def bootOutput (n : Nat) (s : State) : State :=
  let f := s.fn n
  let out := f == .iout || f == .vout
  if out || hasBit (s.ch n).connA 3 then
    let s1 := if out then connectChan n s else s
    applyAnalog n .strap (s.strapLevel n) s1
  else if f.output then
    let s1 := if (s.outp n).latched then connectChan n s else startOutput n (connectChan n s)
    let s2 := safeOutput n s1
    if f == .lamp then startLamp n s2 else s2
  else if (s.outp n).latched then connectChan n (s.modOut n fun _ => OutRun.initial)
  else s

/-- BOOT sets the outputs (R237, R442). After a WARM reset the bay engines keep them. -/
def bootOutputs (s : State) : State :=
  if s.nd.resetKind = .warm then s else allChans.foldl (fun s n => bootOutput n s) s

/-- RESYNC begins (R459). -/
def enterResync (s : State) : State :=
  let s1 := releaseClaim (s.modPair fun p => { p with
    step := 1, tailBytes := 0, tailDiscarded := 0, partsFrom := none, decideAt := none, handover := none })
  resyncRecord 1 1 (setMode .resync 0 s1)

/-- Every lane in use Unproven, as a unit that leaves BOOT for DUTY has them; Table 3.10 gives COMMISSION to DUTY the same, Table 9.2
no transition (DEDUCED, log 159). -/
def unproveLanes (s : State) : State :=
  let leg (g : LegRun) : LegRun := { LegRun.initial with tDemand := g.tDemand }
  (List.range 32).foldl (fun s l =>
    if (s.lane l).state = .off then s
    else setLane l (fun r => { r with state := .unproven, legA := leg r.legA, legB := leg r.legB }) s) s

/-- The node leaves BOOT or COMMISSION on a row of Table 15.9. A unit held in BOOT decides again after 1 s. -/
def leaveFor (row : BootRow) (s : State) : State :=
  match row with
  | .duty => claimDuty 5 0 false (if s.nd.mode = .boot then bootOutputs s else unproveLanes s)
  | .resync => enterResync s
  | .commission => setMode .commission 0 (s.modPair fun p => { p with decideAt := none })
  | .stay =>
    setPairFault 2 true (setPairFault 1 true (s.modPair fun p => { p with decideAt := some (s.now + 1000000) }))

/-- MODE_SET to COMMISSION writes the commission request (R129). -/
def askCommission (s : State) : State := s.modClk fun c => { c with modeReq := true }

/-- MODE_SET from COMMISSION to DUTY (Table 3.10), none where its guard does not hold. -/
def leaveCommission (s : State) : Option State :=
  let s1 := s.modClk fun c => { c with modeReq := false }
  if s.configInvalid then none
  else if !s.paired then some (leaveFor .duty s1)
  else match s.bootRow false with
    | .duty => some (leaveFor .duty s1)
    | .resync => some (leaveFor .resync s1)
    | _ => none

/-- The peer can take duty by a handover (R457). -/
def State.peerReady (s : State) : Bool :=
  !s.peerLost && (match s.pair.hb with | some h => h.mode == 4 && h.eligible | none => false)

/-- A handover begins (R457): the commands that end with it wait for the claim. `what`: 0 MODE_SET, 1 FW_ACTIVATE, 2
FW_ROLLBACK. -/
def beginHandover (tk : Ticket) (what : Nat) (s : State) : State :=
  let s1 := s.modPair fun p => { p with handover := some s.now }
  { s1 with host := { s1.host with afterHandover := some (tk, s.now + 10000, what) } }

/-- MODE_SET's effect (R129, Table 3.10): the state after it, none for the state refusal. -/
def modeSet (target : Nat) (confirm : Bool) (s : State) : Option State :=
  match s.nd.mode, target with
  | .boot, 2 => some (askCommission s)
  | .duty, 2 => if s.paired || !confirm then none else some (setMode .commission 0 (askCommission s))
  | .standby, 2 =>
    if confirm then some (setMode .commission 0 (askCommission (s.modPair fun p => { p with partI := none, partC := none })))
    else none
  | .commission, 3 => leaveCommission s
  | .standby, 5 => some (enterResync s)
  | _, _ => none

/-- MODE_SET's own part. -/
def modeSetBody (cls : Rights) (tk : Ticket) (pl : List Byte) (s : State) : State :=
  let target := byteAt pl 0
  if pl.length ≠ 2 || 8 ≤ target then finish cls tk stParam [] s
  else if s.nd.mode = .duty && target = 4 then
    if s.paired && s.peerReady && s.host.afterHandover.isNone then beginHandover tk 0 (inProgress tk s)
    else finish cls tk stState [] s
  else match modeSet target (hasBit (byteAt pl 1) 0) (inProgress tk s) with
    | some s1 => finish cls tk stDone (le 1 s1.nd.mode.code) s1
    | none => finish cls tk stState [] s

/-- MODE_SET (R129). -/
def execModeSet (rq : Request) (s : State) : Res := .next (runPacket 0x0303 rq modeSetBody s)

/-- The node goes to commanded DORMANT (R119) with its wake time. -/
def goDormant (wake : Nat) (s : State) : State :=
  let s1 := tollPowerDown s.nd.power.supply.vMod (setMode .dormant 0 (dipRecord s.node s))
  (powerOff (flushReplies (settleHistory s1))).modNd fun d => { d with wake := some wake }

/-- NODE_DORMANT's own part (R119). -/
def nodeDormantBody (cls : Rights) (tk : Ticket) (pl : List Byte) (s : State) : State :=
  if pl.length ≠ 9 then finish cls tk stParam [] s
  else if if s.paired then s.onDuty else !hasBit (byteAt pl 8) 0 then finish cls tk stState [] s
  else goDormant (fieldAt pl 0 8) (finish cls tk stDone [] s)

/-- NODE_DORMANT (R119). -/
def execNodeDormant (rq : Request) (s : State) : Res := .next (runPacket 0x0304 rq nodeDormantBody s)

/-- SUPPLY_OVERVOLTAGE (R99, Table 3.1): confirmed or cleared. -/
def execSupplyOvervoltage (t : Nat) (on : Bool) (sup : Supply) (s : State) : Res :=
  let s := s.begin t
  if !s.logicOn then .next s
  else
    let s1 := s.modPower fun p => { p with supply := sup }
    if on && !s.nd.power.ovSet && 33 ≤ sup.vMod then
      .next (hwEvent 8 (setCause 3 true (s1.modPower fun p => { p with ovSet := true })))
    else if !on && sup.vMod < 65 / 2 then .next (s1.modPower fun p => { p with ovSet := false })
    else .next s1

/-- The lowest readings of a dip under way, V_MOD's `ago` µs back (R106). -/
def noteDip (low : Supply) (ago : Nat) (s : State) : State :=
  s.modPower fun p => { p with dip := p.dip.map fun d =>
    { d with minV := min d.minV low.vMod, minAt := if low.vMod < d.minV then s.node - ago else d.minAt,
             minA := min d.minA low.vA, minB := min d.minB low.vB } }

/-- A dip begins (R104, R106), unless one is under way: a warning confirmed again before the boundary that would have ended HOLD
lengthens the dip, whose readings go on. -/
def beginDip (sup : Supply) (s : State) : State :=
  match s.nd.power.dip with
  | some _ => noteDip sup 0 s
  | none => s.modPower fun p => { p with dip := some ⟨s.node, s.now, s.nd.mode, sup.vMod, s.node, sup.vA, sup.vB⟩ }

/-- The latch of output n freezes as HOLD begins (Table 3.3); a lamp's drive goes on. -/
def freezeOutput (s : State) (n : Nat) : State :=
  let o := s.outp n
  if !(s.fn n).output || s.fn n == .lamp || s.inToll n || o.mode = .off then s
  else s.modOut n fun o => { o with mode := .latched, xfer := none, keepLatched := s.of n (·.src) != 0 }

/-- HOLD begins (R104): the mode recorded, outputs frozen, checks and HART transactions ended, the freeze of a reader ended. -/
def enterHold (s : State) : State :=
  let s1 := endFreeze 5 (setMode .hold 0 (s.modNd fun d => { d with recorded := d.mode }))
  let s2 := (s1.field.out.map (·.1)).foldl freezeOutput s1
  let s3 := (s2.field.chan.map (·.1)).foldl (fun s n => if s.essential n then s else failCapture n s)
    ((s2.field.sup.map (·.1)).foldl (fun s n => abandonCheck n s) s2)
  (s3.field.hart.map (·.1)).foldl (fun s n => hartGuard n s) s3

/-- The modes that a warning turns into HOLD (R104). -/
def Mode.dips : Mode → Bool
  | .commission => true | .duty => true | .standby => true | .resync => true | _ => false

/-- SUPPLY_WARNING_CONFIRMED (R102, R104, R106): HOLD from a running mode, a pause in BOOT; a dip begins. The Toll core writes its
checkpoint (R536). -/
def execSupplyWarningConfirmed (t : Nat) (sup : Supply) (s : State) : Res :=
  let s := s.begin t
  if !s.logicOn || s.nd.power.warnSet || 35 / 2 ≤ sup.vMod then .next s
  else
    let s1 := beginDip sup (s.modPower fun p => { p with supply := sup, warnSet := true })
    let s2 := if s.toll.fwOk then checkpoint s1 else s1
    .next (if s.nd.mode.dips then enterHold s2
      else if s.nd.mode = .boot then s2.modNd fun d => { d with bootPaused := true } else s2)

/-- SUPPLY_WARNING_CLEARED (R105, R106): BOOT resumes, a dip outside HOLD is recorded; HOLD ends at the next boundary. -/
def execSupplyWarningCleared (t : Nat) (sup low : Supply) (ago : Nat) (s : State) : Res :=
  let s := s.begin t
  if !s.logicOn || !s.nd.power.warnSet || sup.vMod < 18 then .next s
  else
    let s1 := noteDip low ago (s.modPower fun p => { p with supply := sup, warnSet := false })
    .next (if s.nd.mode = .hold then s1 else dipRecord s1.node (s1.modNd fun d => { d with bootPaused := false }))

/-- Channel n after HOLD (R105, R216, R264): a filter starts again, other channels go on from what they held; a check waits for the
first valid result. -/
def resumeChan (n : Nat) (s : State) : State :=
  if !s.running n then s
  else
    let s1 := if (s.subFn n).converts then s.modSup n fun u => { u with afterHold := true } else s
    if s1.essential n then s1 else restart n s1.node false 0 (s1.modCh n fun r => { r with deliveredAt := s1.now, awakeOn := false })

/-- What a brownout ridden through does not keep (R21; log 222). -/
def dropUnkept (s : State) : State :=
  { s with clk := s.clk.unkept, field := { s.field with chan := tmap ChanRun.initial (fun _ r => r.unkept) s.field.chan } }

/-- HOLD ends at a boundary (R105): the recorded mode returns, work resumes, the dip is recorded. Time in HOLD does not count for a
phased change or for an idle transfer. -/
def leaveHold (s : State) : State :=
  let spent := match s.nd.power.dip with | some d => s.now - d.since | none => 0
  let s1 := dropUnkept (dipRecord s.node s)
  let s2 := if s.nd.recorded = .resync then enterResync s1 else setMode s.nd.recorded 0 s1
  let s3 := (s2.field.chan.map (·.1)).foldl (fun s n => resumeChan n s) s2
  judge { s3 with
    alarm := { s3.alarm with frozenAt := s3.alarm.frozenAt + spent }
    host := { s3.host with bulk := tmap none (fun _ (b : Option Bulk) =>
      b.map fun x => { x with lastCmd := x.lastCmd + spent }) s3.host.bulk } }

/-- The node stays in HOLD and the warning has cleared. -/
def State.holdOver (s : State) : Bool := decide (s.nd.mode = .hold) && !s.nd.power.warnSet

/-- HOLD_LIMIT_EXPIRE (R107). -/
def execHoldLimitExpire (t : Nat) (s : State) : Res :=
  let s := s.begin t
  match s.nd.power.dip with
  | none => .next s
  | some d =>
    if s.nd.mode = .hold && d.since + 1000 * s.param 0x03000001 ≤ s.now then .next (enterSafe 2 s) else .next s

/-- RESET_THRESHOLD_CONFIRMED (R101, R106): no new page program starts; a dip under way ends here, and a fall too fast for the
warning to be confirmed is a dip of its own. In commanded DORMANT it lets the return of V_MOD wake the node (R120). -/
def execResetThresholdConfirmed (t : Nat) (sup low : Supply) (ago : Nat) (s : State) : Res :=
  let s := s.begin t
  if 15 ≤ sup.vMod || (s.logicOn && s.nd.power.resetSet) then .next s
  else if s.logicOn then
    let s1 := s.modPower fun p => { p with supply := sup, resetSet := true, resetAt := some s.now }
    let s2 := if s.nd.power.warnSet then s1 else beginDip sup s1
    .next (tollPowerDown sup.vMod (dipRecord s2.node (noteDip low ago s2)))
  else .next (s.modPower fun p => { p with supply := sup, resetSet := true, fell := true })

/-- LOGIC_DOMAIN_OFF (R101): 2 ms after the confirmation. -/
def execLogicDomainOff (t : Nat) (s : State) : Res :=
  let s := s.begin t
  match s.nd.power.resetAt with
  | none => .next s
  | some r => if s.logicOn && r + 2000 ≤ s.now then .next ((powerOff s).modNd fun d => { d with wake := none }) else .next s

/-- A lane's times that the millpond kept (Table 9.8). -/
def LaneRun.millpondLost (r : LaneRun) : LaneRun :=
  { r with tTrip := 0, legA := { r.legA with tDemand := 0 }, legB := { r.legB with tDemand := 0 } }

/-- What a first power-up with millpond content lost finds (Tables 3.8, 3.12, 9.8, 15.14): clock, backup RAM, RESET_CAUSE and the
times of lanes and claims at their Reset values. -/
def millpondLost (s : State) : State :=
  { s with
    clk := { ClockSt.reset with frac := s.clk.frac }
    nd := { s.nd with cause := 0x00013000#32 }
    field := { s.field with lane := tmap LaneRun.initial (fun _ r => r.millpondLost) s.field.lane }
    pair := { s.pair with tSwitch := 0 } }

/-- The pins and straps as the base shows them. -/
def usePins (p : Pins) (s : State) : State :=
  s.modNd fun d => { d with
    slotPins := p.slot, posPin := p.posB, peerPres := p.peerPres, pairBase := p.pairBase,
    strapTied := (List.range 16).foldl (fun x b => tset false x b (hasBit p.straps b)) [] }

/-- A power-on reset with nRESET low holds the node, unless nRESET counts as stuck (R113, R114). -/
def powerOn (src : Nat) (s : State) : State :=
  powerUp src (s.modNd fun d => { d with nresetHold := d.nresetLow && !d.cause.getLsbD 7, nresetAt := if d.nresetLow then s.now else d.nresetAt })

/-- RESET_THRESHOLD_CLEARED (R101, R120): V_MOD has stood at 18.0 V for 20 ms; `lost`: the millpond content was lost meanwhile.
A node in commanded DORMANT starts only where V_MOD had fallen below the threshold or a wake event waits for it. -/
def execResetThresholdCleared (t : Nat) (sup : Supply) (pins : Pins) (lost : Bool) (s : State) : Res :=
  let s := s.begin t
  if s.logicOn || !s.nd.power.resetSet || sup.vMod < 18 then .next s
  else
    let s1 := s.modPower fun p => { p with supply := sup, resetSet := false, warnSet := false }
    if s.nd.power.fell || s.nd.wake.isNone then
      let s2 := usePins pins (s1.modNd fun d => { d with hasRun := false })
      .next (powerOn (if lost then 1 else 2) (if lost then millpondLost s2 else s2))
    else if s.nd.woken then .next (powerOn 3 s1)
    else .next s1

/-- A wake event of commanded DORMANT with V_MOD at `v` (R101, R120): the node starts, or waits for V_MOD to clear the reset
threshold. -/
def wakeUp (v : Rat) (s : State) : State :=
  if s.nd.power.resetSet || v < 18 then s.modNd fun d => { d with woken := true, power := { d.power with resetSet := true } }
  else powerOn 3 s

/-- INPUT_LOST (R99): PWR_A, or PWR_B, falls below 12.0 V or recovers. -/
def execInputLost (t : Nat) (inB lost : Bool) (v : Rat) (s : State) : Res :=
  let s := s.begin t
  let was := if inB then s.nd.power.lostB else s.nd.power.lostA
  if !s.logicOn || was == lost || !(if lost then decide (v < 12) else decide (14 ≤ v)) then .next s
  else
    let s1 := s.modPower fun p =>
      if inB then { p with lostB := lost, supply := { p.supply with vB := v } }
      else { p with lostA := lost, supply := { p.supply with vA := v } }
    .next (sysUpdate (if lost then hwEvent 7 (setCause (if inB then 4 else 5) true s1) else s1))

/-- CELL_TEST (R103): at each power-on reset and every 24 h, the cell at v under load and the reservoir at vRes (when V_RES is
measured: log 201). -/
def execCellTest (t : Nat) (v vRes : Rat) (s : State) : Res :=
  let s := s.begin t
  let p := s.nd.power
  let first := decide (s.nd.resetKind = .por) && decide (p.cellTestAt ≤ s.nd.resetTime)
  if !s.alive || !(first || decide (p.cellTestAt + 86400000000 ≤ s.now)) then .next s
  else
    let low := decide (v ≤ 16 / 5)
    let absent := decide (v ≤ 1)
    let s1 := s.modPower fun p => { p with vCell := v, vRes := vRes, cellLow := low, cellAbsent := absent, cellTestAt := s.now }
    let s2 := if low && !p.cellLow then hwEvent 9 s1 else s1
    .next (if absent && !p.cellAbsent then hwEvent 10 s2 else s2)

/-- BACKUP_LOW (R103, R392): V_BAK enters or leaves the backup-low state; entering it latches LOW_BAK. -/
def execBackupLow (t : Nat) (low : Bool) (v : Rat) (s : State) : Res :=
  let s := s.begin t
  if s.nd.power.backupLow == low || !(if low then decide (v < 14 / 5) else decide (3 ≤ v)) then .next s
  else
    let s1 := s.modPower fun p => { p with backupLow := low }
    .next (if low then trustStep 1 (s1.modClk fun c => { c with lowBak := true }) else s1)

/-- nRESET is classed as stuck (R114). -/
def State.nresetStuck (s : State) : Bool := s.nd.cause.getLsbD 7

/-- NRESET_ASSERT (R76, R113, R120): 64 samples in a row have read low, with V_MOD at `v`. -/
def execNresetAssert (at_ : Supplied) (s : State) : Res :=
  let s := s.begin at_.t
  if s.nd.nresetLow then .next s
  else
    let s1 := s.modNd fun d => { d with nresetLow := true, nresetAt := s.now - 64 }
    if s.nresetStuck then .next s1
    else if s.logicOn then .next (coldReset 4 .cold (s1.modNd fun d => { d with nresetHold := true }))
    else if s.nd.wake.isSome then .next (wakeUp at_.v s1)
    else .next s1

/-- NRESET_SHORT (R76): ignored and counted; a low reading starts the time of R114 again. -/
def execNresetShort (t : Nat) (s : State) : Res :=
  let s := s.begin t
  if !s.logicOn || s.nd.nresetLow then .next s
  else .next ((s.modNd fun d => { d with nresetAt := s.now }).count 7 1)

/-- The hold of nRESET ends: BOOT, unless the seat contact still holds the node (R113, R116). -/
def releaseHold (s : State) : State :=
  let s1 := s.modNd fun d => { d with nresetHold := false }
  if s.held && !s1.held && s.logicOn then bootEntry s1 else s1

/-- NRESET_RELEASE (R113). -/
def execNresetRelease (t : Nat) (s : State) : Res :=
  let s := s.begin t
  if !s.nd.nresetLow then .next s
  else .next (releaseHold (s.modNd fun d => { d with nresetLow := false, nresetAt := s.now }))

/-- NRESET_STUCK (R114): low for 5,000 ms. -/
def execNresetStuck (t : Nat) (s : State) : Res :=
  let s := s.begin t
  if !s.logicOn || !s.nd.nresetLow || s.nresetStuck || s.now < s.nd.nresetAt + 5000000 then .next s
  else .next (hwEvent 2 (releaseHold (setCause 7 true s)))

/-- NRESET_STUCK_CLEAR (R114): high for 1,000 ms. -/
def execNresetStuckClear (t : Nat) (s : State) : Res :=
  let s := s.begin t
  if !s.logicOn || s.nd.nresetLow || !s.nresetStuck || s.now < s.nd.nresetAt + 1000000 then .next s
  else .next (hwEvent 3 (setCause 7 false s))

/-- The control plane writes nothing further to the point image: neither the image write nor the sweep under way ends. -/
def stopWrites (s : State) : State :=
  { s with field := { s.field with imageNext := none }, alarm := { s.alarm with next := none } }

/-- LOCKSTEP_MISMATCH (R25): the control plane stops, and declares the fault on the pair lane. -/
def execLockstepMismatch (t : Nat) (s : State) : Res :=
  let s := s.begin t
  if !s.alive || s.nd.ctrlStopped then .next s
  else
    .next (declareFault 1 (stopWrites (s.modNd fun d => { d with ctrlStopped := true })))

/-- A control plane fault stands (R25, R27, R29, R111), or its watchdog finds it stalled (Table 3.7). -/
def State.controlFaulty (s : State) : Bool :=
  s.nd.ctrlStopped || s.nd.ctrlStalled || s.nd.fabricStalled || decide (3 ≤ s.nd.overrunRun) || decide (3 ≤ s.nd.sweepDropRun)

/-- CONTROL_PLANE_FAULT (R111). -/
def execControlPlaneFault (t : Nat) (s : State) : Res :=
  let s := s.begin t
  if s.alive && s.controlFaulty then .next (controlFault s) else .next s

/-- CTRL_WINDOW_EXPIRE (R111). -/
def execCtrlWindowExpire (t : Nat) (s : State) : Res :=
  let s := s.begin t
  match s.nd.ctrlWindow with
  | some w => if w ≤ s.now then .next (s.modNd fun d => { d with ctrlWindow := none }) else .next s
  | none => .next s

/-- LOGIC_CLOCK_FAIL (Table 3.7). -/
def execLogicClockFail (t : Nat) (s : State) : Res :=
  let s := s.begin t
  if s.logicOn then .next (coldReset 8 .cold s) else .next s

/-- LOGIC_RAIL_FAIL (Table 3.7): V_MOD is good. -/
def execLogicRailFail (t : Nat) (s : State) : Res :=
  let s := s.begin t
  if s.logicOn && !s.nd.power.resetSet then .next (coldReset 9 .cold s) else .next s

/-- DORMANT_WAKE (R120): the wake time has come, with V_MOD at `v`. -/
def execDormantWake (at_ : Supplied) (s : State) : Res :=
  let s := s.begin at_.t
  match s.nd.wake with
  | some w => if !s.logicOn && w ≠ 0 && w ≤ s.clk.clock then .next (wakeUp at_.v s) else .next s
  | none => .next s

/-- The peer is healthy, so that a running node may hand over as its seat contact opens (Table 2.4; what healthy means is log 198). -/
def State.peerHealthy (s : State) : Bool := s.paired && !s.peerLost && (match s.pair.hb with | some h => h.eligible | none => false)

/-- SEAT_CONTACT_OPEN (R60, Table 2.4): the record, the declared fault, and staging on its way to the store. -/
def execSeatContactOpen (t : Nat) (s : State) : Res :=
  let s := s.begin t
  if s.nd.seatOpen then .next s
  else
    let s1 := s.modNd fun d => { d with seatOpen := true }
    if !s.alive then .next s1
    else
      let s2 := endFreeze 5 (hwEvent 1 (s1.modNd fun d => { d with withdraw := .flash2, seatOpenedAt := s.now }))
      let s3 : State := { s2 with grn := { s2.grn with urgent := true } }
      .next (if s.onDuty && s.peerHealthy then declareFault 5 s3 else s3)

/-- WITHDRAW_STAGING_DONE (R60, R61): staging is written; the lamp shows what the node still drives. -/
def execWithdrawStagingDone (t : Nat) (s : State) : Res :=
  let s := s.begin t
  if s.nd.withdraw ≠ .flash2 || !s.grn.urgent || !s.drains then .next s
  else
    let s1 := writeStaging s
    let s2 : State := { s1 with grn := { s1.grn with urgent := false } }
    .next (s2.modNd fun d => { d with withdraw :=
      if !s.paired then .flash8 else if !s.onDuty then .steady else if s.pair.declared && s.peerHealthy then .flash2 else .flash8 })

/-- SEAT_CONTACT_CLOSE (R58, R60): a module that has not run starts; a running one undoes nothing; its urgent drain ends (log 199). -/
def execSeatContactClose (t : Nat) (pins : Pins) (s : State) : Res :=
  let s := s.begin t
  if !s.nd.seatOpen then .next s
  else
    let s1 := s.modNd fun d => { d with seatOpen := false, withdraw := .off }
    let s2 : State := { s1 with grn := { s1.grn with urgent := false } }
    if s.logicOn && !s.nd.hasRun then
      let s3 := (usePins pins s2).modNd fun d => { d with hasRun := true }
      let s4 := s3.modNd fun d => { d with slot := d.slotPins, posB := d.posPin, strapLatched := d.strapTied }
      .next (if s.held && !s4.held then bootEntry s4 else s4)
    else .next s2

/-- The slot that BOOT tries first (R522): TRIAL, else ACTIVE. -/
def State.bootSlot (s : State) : Nat :=
  if s.cfg.fw0.state = .trial then 0 else if s.cfg.fw1.state = .trial then 1 else if s.cfg.fw1.state = .active then 1 else 0

/-- A slot that may hold an image to run. -/
def FwSlot.runs (f : FwSlot) : Bool := decide (f.state ≠ .empty) && decide (f.state ≠ .rejected)

/-- Slot k's image fails verification (R522). -/
def rejectImage (k : Nat) (s : State) : State :=
  if !(s.fwSlot k).runs then s
  else firmwareRecord 6 k 0 (s.modFw k fun f => { f with state := .rejected })

/-- Slot k runs (R522): ACTIVE unless on trial; a trial's time starts at its first BOOT, and again at each POR. -/
def runImage (k : Nat) (s : State) : State :=
  let s1 := s.modFw k fun f => if f.state = .trial then f else { f with state := .active }
  let trial := decide ((s1.fwSlot k).state = .trial)
  let from_ := if !trial then none else if s.nd.resetKind = .por then some s.now else some (s.cfg.trialFrom.getD s.now)
  firmwareRecord 7 k 0 { s1 with cfg := { s1.cfg with running := k, trialFrom := from_ } }

/-- BOOT verifies the images (R522); `ok k`: slot k's image passes. None where no slot has a valid image. -/
def bootImage (ok : Nat → Bool) (s : State) : Bool × State :=
  let k := s.bootSlot
  if (s.fwSlot k).runs && ok k then (true, runImage k s)
  else
    let s1 := rejectImage k s
    if (s1.fwSlot (1 - k)).runs && ok (1 - k) then (true, runImage (1 - k) s1) else (false, rejectImage (1 - k) s1)

/-- The BOOT decision of a unit without a peer (Table 3.10): on a solo base BOOT sets outputs and claim latches first (R139,
R237), on a pair base a unit that leaves for DUTY does (R442). -/
def soloDecision (s : State) : State :=
  let s1 := if s.nd.pairBase then s else setClaims (bootOutputs s)
  if s.clk.modeReq || s.configInvalid then setMode .commission 0 s1
  else claimDuty 5 0 false (if s.nd.pairBase then bootOutputs s1 else s1)

/-- After a COLD or POR reset the Toll core runs again, and bays 0 and 1 follow what it brings (R533, R540). -/
def bootToll (ok : Bool) (s : State) : State :=
  if s.nd.resetKind = .warm then s else [0, 1].foldl (fun s b => bayFollow b s) (tollRestart s.nd.resetKind.code ok s)

/-- What BOOT found leads to SAFE (Table 3.10). -/
def bootFails (s : State) : State := enterSafe 2 (if s.nd.pairBase then s else setClaims (bootOutputs s))

/-- BOOT_DECISION (R237, R376, R458, R522): the store is recovered; self-test, verification and loading are done. After a WARM reset the images are not verified
again (Table 3.6) and those in RAM are taken as sound (log 202). On a pair base with a peer the unit now listens for 300 ms. -/
def execBootDecision (t : Nat) (selfTest img0 img1 toll : Bool) (s : State) : Res :=
  let s := s.begin t
  if !s.alive || s.nd.mode ≠ .boot || s.nd.ctrlStopped || s.nd.bootPaused || s.pair.decideAt.isSome then .next s
  else
    let s := recovered s
    let warm := decide (s.nd.resetKind = .warm)
    let (ok, s1) := if warm then (true, s) else bootImage (fun k => if k = 0 then img0 else img1) s
    let s2 := bootToll toll s1
    if !warm && !(selfTest && ok) then .next (bootFails s2)
    else if s2.paired then .next (sendBeat (s2.modPair fun p => { p with decideAt := some (s2.now + 300000) }))
    else .next (soloDecision s2)

/-- The decision of Table 15.9 where it has fallen due. -/
def pairDecision (s : State) : State :=
  match s.pair.decideAt with
  | none => s
  | some d =>
    if !s.alive || s.nd.mode ≠ .boot || s.nd.ctrlStopped || s.nd.bootPaused || s.now < d then s
    else if !s.paired then soloDecision (s.modPair fun p => { p with decideAt := none })
    else leaveFor (s.bootRow s.clk.modeReq) s

/-- BOOT_PAIR_DECISION (R458). -/
def execBootPairDecision (t : Nat) (s : State) : Res := .next (pairDecision (s.begin t))

/-- BOOT_REDECIDE (Table 15.9): every 1 s while the peer claims without a heartbeat. -/
def execBootRedecide (t : Nat) (s : State) : Res := .next (pairDecision (s.begin t))

/-- THERMAL_TRIP (R126): T_F has exceeded 100 °C for 1 s. -/
def execThermalTrip (t : Nat) (tF : Rat) (s : State) : Res :=
  let s := s.begin t
  if !s.alive || s.nd.mode = .safe || tF ≤ 100 then .next s
  else .next (enterSafe 2 (hwEvent 11 (setCause 1 true (s.modPower fun p => { p with tF := tF }))))

/-- Point p reads channel n (Table 10.1). -/
def State.ptReads (s : State) (p n : Nat) : Bool :=
  let k := s.cf .pt p 0
  s.cf .pt p 2 == n && (k == 1 || k == 2 || k == 4 || (k == 3 && s.cf .pt p 5 != 5))

/-- The governor may slow channel n (R123). -/
def State.slowable (s : State) (n : Nat) : Bool :=
  (s.fn n).input && !(s.fn n).lane && !s.inToll n &&
    !(usedPoints s.cfg.inForce).any fun p => s.ptReads p n && decide ((s.pt p).state ≠ .normal)

/-- The GOVERNOR record (Table 12.3). -/
def govRecord (g : GovStep) (released : Bool) (s : State) : State :=
  let (step, n) := match g with | .rate n => (1, n) | .space n => (2, n) | .poll n => (3, n) | .alarm => (4, 0xFFFF)
  submit .control 0x014
    (le 1 step ++ le 1 (if released then 2 else 1) ++ le 2 n ++ le 1 (if n < 512 then s.rateGoal n else 0) ++ le 3 0) s

/-- The channel whose rate the governor lowers next (Table 3.11 step 1): the highest rate, among equals the highest n, above its
floor. -/
def State.rateCandidate (s : State) : Option Nat :=
  allChans.foldl (fun best n =>
    let low := lowerRate (s.rateGoal n)
    if (s.fn n).converts && low ≠ 0 && s.paramReal (0x03001000 + n) ≤ ratePerSecond low && s.slowable n then
      match best with
      | some m => if ratePerSecond (s.rateGoal m) ≤ ratePerSecond (s.rateGoal n) then some n else best
      | none => some n
    else best) none

/-- The next step of Table 3.11, none where step 4 is held. Steps 2 and 3 take the highest channel first (log 154); an
interval whose double would pass 10 s is not doubled (log 204). -/
def State.nextStep (s : State) : Option GovStep :=
  if s.nd.gov.steps.contains .alarm then none
  else match s.rateCandidate with
    | some n => some (.rate n)
    | none =>
      match allChans.reverse.find? fun n => s.supervised n && !s.nd.gov.steps.contains (.space n) && s.slowable n with
      | some n => some (.space n)
      | none =>
        match allChans.reverse.find? fun n =>
          s.cf .hart n 0 != 0 && decide ((s.ch n).modem < 8) && decide (2 * s.pollInterval n ≤ 10000000) && s.slowable n with
        | some n => some (.poll n)
        | none => some .alarm

/-- Channel n takes at a boundary the rate that the governor's steps lead to: its filter restarts 200 µs on (Table 5.3). -/
def followRate (n : Nat) (s : State) : State :=
  if s.govSteps n = s.rateSteps n then s
  else restart n (s.node + 200) false 0 (s.modNd fun d => { d with gov := { d.gov with
    inForce := if s.rateSteps n = 0 then tdel n d.gov.inForce else tput n (s.rateSteps n) d.gov.inForce } })

/-- Every channel follows the governor. -/
def followGovernor (s : State) : State :=
  let held := s.nd.gov.steps.filterMap fun g => match g with | .rate n => some n | _ => none
  (unionKeys held (s.nd.gov.inForce.map (·.1))).foldl (fun s n => followRate n s) s

/-- The governor takes a step. -/
def takeStep (s : State) : State :=
  match s.nextStep with
  | none => s
  | some g =>
    let s1 := s.modNd fun d => { d with gov := { d.gov with steps := g :: d.gov.steps } }
    sysUpdate (govRecord g false (govSpace g s s1))

/-- The governor gives the newest step back; a rate step waits until 1,000 ms after the last that its channel was given back
(R125). -/
def giveStep (s : State) : State :=
  let free (g : GovStep) : Bool :=
    match g with
    | .rate n => match tfind s.nd.gov.released n with | some t => decide (t + 1000000 ≤ s.now) | none => true
    | _ => true
  match s.nd.gov.steps with
  | [] => s
  | g :: _ => if !free g then s else
    let s1 := s.modNd fun d => { d with gov := { d.gov with
      steps := removeFirst (fun x => decide (x = g)) d.gov.steps,
      released := match g with | .rate n => tput n s.now d.gov.released | _ => d.gov.released } }
    sysUpdate (govRecord g true (govSpace g s s1))

/-- Every step that the governor holds on a channel no longer eligible, given back at a boundary (R123). -/
def freeIneligible (s : State) : State :=
  let gone := s.nd.gov.steps.filter fun g =>
    match g with | .rate n => !s.slowable n | .space n => !s.slowable n | .poll n => !s.slowable n | .alarm => false
  followGovernor (gone.foldl (fun s g =>
    govRecord g true (govSpace g s (s.modNd fun d => { d with gov := { d.gov with
      steps := removeFirst (fun x => decide (x = g)) d.gov.steps } }))) s)

/-- The draws of the node and of each bay as the governor's tick finds them. -/
def noteDraw (pD tF : Rat) (pBay : List Rat) (s : State) : State :=
  (List.range 16).foldl (fun s b => s.modBay b fun y =>
    { y with pBay := if y.state = .off then 0 else pBay.getD b 0 }) (s.modPower fun p => { p with pD := pD, tF := tF })

/-- GOVERNOR_TICK (R121 to R125): the power drawn, T_F, and per bay the output-stage loss and the converter's input power; not
in BOOT (log 203). -/
def execGovernorTick (t : Nat) (drawn tF : Rat) (loss pBay : List Rat) (s : State) : Res :=
  let s := s.begin t
  if loss.length ≠ 16 || pBay.length ≠ 16 then .fault .illFormed
  else if !s.alive || s.nd.mode = .boot || s.now < s.nd.gov.tickAt + 100000 then .next s
  else
    let pD := loss.foldl (· + ·) drawn
    let s1 := noteDraw pD tF pBay s
    let low := decide (pD + 10 ≤ s1.budgetNow)
    let since := if low then some (s.nd.gov.lowSince.getD s.now) else none
    let s2 := s1.modNd fun d => { d with gov := { d.gov with tickAt := s.now, lowSince := since } }
    if s1.budgetNow < pD then .next (takeStep s2)
    else match since with
      | some f => if f + 10000000 ≤ s.now then .next (giveStep s2) else .next s2
      | none => .next s2

/-- PEER_PRES as it reads now (R74, R441): a peer that has gone is taken for lost, and forced release ends. -/
def setPeerPres (b : Bool) (s : State) : State :=
  if s.nd.peerPres == b then s
  else if b then
    (s.modNd fun d => { d with peerPres := true }).modToll fun t =>
      { t with peerSince := if s.nd.pairBase then some s.now else none }
  else
    let s1 := judge (s.modPair fun p => { p with peerLine := false, shutIn := false, lostAt := some (p.lostAt.getD s.now) })
    let s2 := setShutOut false (s1.modNd fun d => { d with peerPres := false })
    (s2.modPair fun p => { p with hb := none, lostAt := none }).modToll fun t => { t with peerSince := none }

/-- IDENTITY_SCAN (R75): the identity pins, and PEER_PRES, as they read now. -/
def execIdentityScan (t : Nat) (slot : Fin 64) (posB peerPres : Bool) (s : State) : Res :=
  let s := s.begin t
  if !s.alive then .next s
  else
    let d := s.nd
    let s1 := s.modNd fun d => { d with slotPins := slot, posPin := posB }
    let s2 := if d.slotPins = slot && d.posPin == posB then s1 else hwEvent 4 s1
    .next (setPeerPres peerPres s2)

/-- STRAP_CHANGE (R70): recorded; no output changes. -/
def execStrapChange (t : Nat) (b : Bay) (tied : Bool) (s : State) : Res :=
  let s := s.begin t
  if tget false s.nd.strapTied b == tied then .next s
  else
    let s1 := s.modNd fun d => { d with strapTied := tset false d.strapTied b tied }
    .next (if s.alive then hwEvent 5 s1 else s1)

/-- CTRL_STALL (R41, R42): the channel region unchanged for 3,000 µs. -/
def execCtrlStall (t : Nat) (s : State) : Res :=
  let s := s.begin t
  if !s.alive || s.nd.mode = .boot || s.nd.ctrlStalled || s.node < max s.nd.regChannel.flip s.nd.runFrom + 3000 then .next s
  else .next (flipService (setStall 0 true s))

/-- FABRIC_STALL (R41): the alarm region unchanged for 30,000 µs while the fabric has points to sweep. -/
def execFabricStall (t : Nat) (s : State) : Res :=
  let s := s.begin t
  if !s.sweeps || s.nd.fabricStalled || (usedPoints s.cfg.inForce).isEmpty ||
      s.node < max s.alarm.offAt (max s.nd.regAlarm.flip s.nd.runFrom) + 30000 then .next s
  else .next (flipService (setStall 1 true s))

/-- A ring restart (Table 3.6): every enabled port looks for its neighbour again. -/
def ringRestart (s : State) : State :=
  [0, 1, 2, 3].foldl (fun s p =>
    if s.portState p = .disabled then s
    else (setPortState p .down s).modPort p fun x => { x with sync := false, linkRun := 0, delays := [] }) s

/-- DATA_STALL (R41, R42): the remote region unchanged, or the time bus not advancing (`bus`), for 1,000 µs; the ring switch
supervisor restarts the data plane. -/
def execDataStall (seen : DataStill) (s : State) : Res :=
  let s := s.begin seen.t
  let still := decide (max s.nd.regRemote.flip s.nd.upFrom + 1000 ≤ s.node)
  if !s.logicOn || s.nd.dataStalled || !(seen.bus || still) then .next s
  else
    let s1 := markReset 0x0C .ring (setStall 2 true s)
    .next (ringRestart (if s.onDuty then declareFault 6 s1 else s1))

/-- MGMT_STALL (R41, R42): the service region unchanged for 2,000 ms; the management watchdog acts (Table 3.7). -/
def execMgmtStall (t : Nat) (s : State) : Res :=
  let s := s.begin t
  if !s.mgmtUp || s.node < max s.nd.regService.flip s.nd.upFrom + 2000000 then .next s else .next (mgmtRestart s)

/-- What channel n keeps connected without its bay engine (R136): OUT, HS and LS, and FG of an output function. -/
def engineLost (n : Nat) (s : State) : State :=
  let mask := cOut + cHs + cLs + (if (s.fn n).held then cFg else 0)
  s.modCh n fun r => r.connect [r.connA &&& mask, r.connB &&& mask, r.connC &&& mask, r.connD &&& mask]

/-- BAY_FAULT (R158): the bay's converter or engine fails; a unit in DUTY whose peer runs the bay declares it (Table 15.5). -/
def execBayFault (t : Nat) (b : Bay) (s : State) : Res :=
  let s := s.begin t
  let st := (s.bay b).state
  if !s.alive || !(st = .running || st = .starting) then .next s
  else
    let s1 := (bayChans b).foldl (fun s n => hartGuard n (engineLost n (abandonCheck n s)))
      (((bayChans b).foldl (fun s n => stopPulse n s) s).modBay b fun y => { y with state := .fault })
    let peerRuns := match s.pair.hb with | some h => hasBit h.bayOk b && !s.peerLost | none => false
    .next (if s.onDuty && s.paired && peerRuns then declareFault 4 s1 else s1)

end Sys2Proof.Machine
end

