-- ==== Sys2Proof/Machine/Commit.lean ====
section
/-! DEFINITION. Commit: the checks of every chapter (R130, R160, R161, R191, R231, R250, R287, R291, R336, R352, R419, R431, R461,
R475), the phase plan, freezing, epochs, the mailbox and the end of a commit (R507 to R513, R518). -/

namespace Sys2Proof.Machine

/-- What a refused commit answers: a status and the figures it names. -/
abbrev Refused := Nat × List Nat

/-- The reply payload of a refusal that names figures; none where it names nothing. -/
def namesPayload (names : List Nat) : List Byte := if names.isEmpty then [] else (Config.refusalNames names).take 992

/-- The first x for which f finds a refusal. -/
def firstRefused {α : Type} (xs : List α) (f : α → Option Refused) : Option Refused := xs.findSome? f

/-- A refusal where b holds. -/
def refuseIf (b : Bool) (st : Nat) (names : List Nat) : Option Refused := if b then some (st, names) else none

/-- Floor rates (R130): no floor above the rate that RATE selects. -/
def checkFloors (c : Cfg) : Option Refused :=
  firstRefused allChans fun n =>
    refuseIf ((fnIn c n).converts && decide (ratePerSecond (rateOf c n) < f32Val (BitVec.ofNat 32 (cget c (0x03001000 + n)))))
      stParam [0x03001000 + n]

/-- HART modems (R160): the bay and the first channel that cannot be served. -/
def checkModems (s : State) (c : Cfg) : Option Refused :=
  firstRefused (List.range 16) fun b => (s.modemsOf c b).2.map fun n => (stResource, [b, n])

/-- The declared currents of a bay, mA (R161). -/
def baySum (c : Cfg) (b : Nat) : Nat :=
  (bayChans b).foldl (fun a n => if fnIn c n == .off then a else a + declared c n) 0

/-- Field current (R161): the bay and its sum. -/
def checkCurrents (c : Cfg) : Option Refused :=
  firstRefused (List.range 16) fun b => refuseIf (4000 < baySum c b) stResource [b, baySum c b]

/-- Reference channels (R191): REF_CH of channel n names another configured channel with a PT or CUSTOM curve whose own REF_SRC is
not CHANNEL. -/
def checkRefCh (c : Cfg) : Option Refused :=
  firstRefused allChans fun n =>
    let m := cfield c .meas n 2
    let k := curveUsed (subFnIn c m) (cfield c .meas m 0)
    refuseIf (fnIn c n != .off && cfield c .meas n 1 == 1 &&
      (m == n || fnIn c m == .off || !(k == 2 || k == 0x20) || cfield c .meas m 1 == 1)) stParam [n]

/-- Source channels (R231, R272): another channel with an input function. -/
def checkSrcCh (c : Cfg) : Option Refused :=
  firstRefused allChans fun n =>
    match sourceChan c n with
    | some m => refuseIf (m == n || !(fnIn c m).input) stParam [n]
    | none => none

/-- HART_MODE without a modem, and MULTI on a function other than IIN and IIN_LOOP (R250). -/
def checkHart (c : Cfg) : Option Refused :=
  firstRefused allChans fun n =>
    let m := cfield c .hart n 0
    let f := fnIn c n
    refuseIf ((m != 0 && cfield c .ch n 6 == 255) || (m == 2 && !(f == .iin || f == .iinLoop))) stParam [n]

/-- SS_TIMEOUT with a peer present (R287). -/
def checkSyncTimeout (s : State) (c : Cfg) : Option Refused :=
  firstRefused (List.range 16) fun b => refuseIf (s.nd.peerPres && decide (cfield c .bay b 0 < 20)) stParam [b]

/-- Lane l is enabled in a configuration. -/
def laneOn (c : Cfg) (l : Nat) : Bool := hasBit (cfield c .lane l 0) 0

/-- The three channels of lane l. -/
def laneChans (c : Cfg) (l : Nat) : List Nat := [cfield c .lane l 1, cfield c .lane l 2, cfield c .lane l 3]

/-- Lane l breaks a rule of R291. -/
def laneBad (s : State) (c : Cfg) (l : Nat) : Bool :=
  let a := cfield c .lane l 1
  let b := cfield c .lane l 2
  let o := cfield c .lane l 3
  let shared := (List.range 32).any fun m => m != l && laneOn c m && (laneChans c l).any fun n => (laneChans c m).contains n
  bayOf a == bayOf b || cfield c .ch a 1 != cfield c .ch b 1 || cfield c .ch a 2 != cfield c .ch b 2 ||
    fnIn c a != .laneIn || fnIn c b != .laneIn || fnIn c o != .laneOut || shared ||
    (s.nd.peerPres && decide (cfield c .lane l 10 < 10)) || (subFnIn c a == .di && cfield c .lane l 8 != 1)

/-- Lane setups (R291). -/
def checkLanes (s : State) (c : Cfg) : Option Refused :=
  firstRefused (List.range 32) fun l => refuseIf (laneOn c l && laneBad s c l) stParam [l]

/-- Lanes of `ls` that are ARMED or TRIPPED. -/
def State.lanesHold (s : State) (ls : List Nat) : Bool :=
  ls.any fun l => decide ((s.lane l).state = .armed) || decide ((s.lane l).state = .tripped)

/-- The lanes that change records touch (R291, R509), by the setups before and after. -/
def lanesTouched (old new : Cfg) (chs : List Change) : List Nat :=
  (List.range 32).filter fun l => laneTouched old l chs || laneTouched new l chs

/-- The parents of group g lead back to it (R336). -/
def parentsLoop (c : Cfg) (gs : List Nat) (g : Nat) : Nat → Nat → Bool
  | 0, _ => false
  | fuel + 1, x => if x = 0 || !gs.contains x then false else if x = g then true else parentsLoop c gs g fuel (parentOf c x)

/-- The groups at fault (R336). -/
def groupsBad (old new : Cfg) : List Nat :=
  let gs := groupsOf new
  let own := gs.filter fun g => g != 0
  let orphans := own.filter fun g => !gs.contains (parentOf new g) || parentsLoop new gs g gs.length (parentOf new g)
  let parents := (usedPoints new).map (fun p => cfield new .pt p 3)
  let cleared := (groupsOf old).filter fun g => !gs.contains g && (own.any fun x => parentOf new x == g)
  orphans ++ cleared ++ parents.filter fun g => !gs.contains g

/-- The group tree (R336): the lowest-numbered group at fault. -/
def checkGroups (old new : Cfg) : Option Refused :=
  match unionKeys (groupsBad old new) [] with
  | [] => none
  | g :: _ => some (stParam, [g])

/-- Panel slot k uses bus j at an address. -/
def slotUses (c : Cfg) (k j : Nat) : Bool := cget c (0x11030000 + 4 * k) != 0 && hasBit (cget c (0x11030001 + 4 * k)) j

/-- The Hopper Bell's setup (R352, Table 11.14). -/
def checkBell (c : Cfg) : Option Refused :=
  let clash := (List.range 64).any fun k => (List.range k).any fun m =>
    (slotUses c k 0 && slotUses c m 0 || slotUses c k 1 && slotUses c m 1) &&
      cget c (0x11030002 + 4 * k) == cget c (0x11030002 + 4 * m)
  refuseIf (clash || !(groupsOf c).contains (cget c 0x11000002) || decide (cget c 0x11000007 ≤ cget c 0x11000008)) stParam []

/-- KIND of WHAT of a remote slot. -/
def slotKind (c : Cfg) (r : Nat) : Nat := cget c (0x14020001 + 2 * r) / 16777216

/-- Slots of the rings (R419). -/
def checkSlots (c : Cfg) : Option Refused :=
  let bridge := cget c 0x14000005 == 1
  let bad (src : Nat) : Bool := hasBit src 31 && hasBit src 30 && !bridge
  let remote := (List.range 1024).any fun r => bad (cget c (0x14020000 + 2 * r))
  let output := allChans.any fun n =>
    let src := cget c (0x14030000 + 2 * n)
    bad src || (hasBit src 31 && cget c (0x14030001 + 2 * n) / 16777216 != 1)
  let point := (usedPoints c).any fun p =>
    let k := cfield c .pt p 0
    (k == 6 && slotKind c (cfield c .pt p 2) != 1) || (k == 7 && slotKind c (cfield c .pt p 2) == 1)
  refuseIf (remote || output || point) stParam []

/-- The bridge (R431) and the Uplink ports (Table 14.12). -/
def checkBridge (s : State) (c : Cfg) : Option Refused :=
  let lo := cget c 0x14000006
  let hi := cget c 0x14000007
  let a := cget c 0x14000001
  if cget c 0x14000005 = 1 then refuseIf (!s.nd.peerPres || decide (hi < lo) || decide (a < lo) || decide (hi < a)) stParam []
  else refuseIf (decide (4 ≤ cget c 0x14000004)) stParam []

/-- COMPAT_128 (R461): the other unit takes it with the commit, or holds it already. -/
def checkCompat (s : State) (c : Cfg) : Option Refused :=
  let peer := s.paired && (!s.peerLost || (match s.pair.hb with | some h => h.compat | none => false))
  refuseIf (cget c 0x15000002 == 1 && !peer) stParam []

/-- A slot with SERVICE rights remains (R475). -/
def checkKeys (c : Cfg) : Option Refused :=
  refuseIf (!(List.range 8).any fun k => cget c (0x16010008 + 16 * k) == 4) stParam []

/-- Step 1 of Table 17.4: the first check that fails, in the order of the chapters. A sealed partition brings its own records for
bays 0 and 1. -/
def commitCheck (s : State) (target : Cfg) : Option Refused :=
  let c := s.forced target
  let old := s.cfg.inForce
  (checkFloors c).orElse fun _ => (checkModems s c).orElse fun _ => (checkCurrents c).orElse fun _ =>
    (checkRefCh c).orElse fun _ => (checkSrcCh c).orElse fun _ => (checkHart c).orElse fun _ =>
    (checkSyncTimeout s c).orElse fun _ => (checkLanes s c).orElse fun _ =>
    (refuseIf (s.lanesHold (lanesTouched old c (cfgDiff old c))) stState []).orElse fun _ =>
    (checkGroups old c).orElse fun _ => (checkBell c).orElse fun _ => (checkSlots c).orElse fun _ =>
    (checkBridge s c).orElse fun _ => (checkCompat s c).orElse fun _ => checkKeys c

/-- Objects packed into phases of at most 4,096 bytes, no object parted (R508). -/
def packPhases : List (List Change) → List Change → List (List Change)
  | [], cur => [cur]
  | o :: os, cur =>
    if !cur.isEmpty && 4096 < changesSize (cur ++ o) then cur :: packPhases os o else packPhases os (cur ++ o)

/-- The phase plan (R508): the records that the control plane applies, object by object in order. -/
def planPhases (old new : Cfg) : List (List Change) :=
  let chs := (cfgDiff old new).filter fun c => (objKey c.1).isSome
  packPhases ((objKeys chs).map fun k => chs.filter fun c => objKey c.1 == some k) []

/-- The configuration that the live bank brings: nothing where its FORMAT is not known (R506). -/
def State.liveRecords (s : State) : Cfg := if s.cfg.formatBad then [] else s.liveCfg

/-- The object that point p's input names (R510). -/
def inputKey (c : Cfg) (p : Nat) : Option Nat :=
  let src := cfield c .pt p 2
  match cfield c .pt p 0 with
  | 1 => some src
  | 2 => some src
  | 3 => some (if cfield c .pt p 5 = 5 then 0x20000 + src else src)
  | 4 => some src
  | 6 => some (0x30000 + src)
  | 7 => some (0x30000 + src)
  | _ => none

/-- The points that point p's block and operands name. -/
def pointLinks (c : Cfg) (p : Nat) : List Nat :=
  (if hasBit (cfield c .pt p 4) 7 then [cfield c .pt p 8] else []) ++
    (if cfield c .pt p 0 = 5 then (List.range (min 4 (cfield c .pt p 5 % 16))).map fun i => cfield c .pt p (15 + i) else [])

/-- Points added to the affected ones until none more links to one of them. -/
def growAffected (c : Cfg) (ps : List Nat) : Nat → List Nat → List Nat
  | 0, hit => hit
  | fuel + 1, hit =>
    let more := ps.filter fun p => !hit.contains p && (pointLinks c p).any hit.contains
    if more.isEmpty then hit else growAffected c ps fuel (hit ++ more)

/-- The points affected by a commit from `old` to `new` (R510). -/
def affectedPoints (old new : Cfg) : List Nat :=
  let keys := objKeys (cfgDiff old new)
  let ps := unionKeys (usedPoints old) (usedPoints new)
  let own := (keys.filter fun k => k / 65536 == 5).map (· % 65536)
  let hit := ps.filter fun p => match inputKey new p with | some k => keys.contains k | none => false
  unionKeys (growAffected new ps ps.length (unionKeys own hit)) []

/-- The bank that a commit writes: the one that is not live. -/
def State.spareBank (s : State) : Nat := match s.live with | some (k, _) => 1 - k | none => 0

/-- The change list that a commit passes to the peer. -/
def commitMessage (epoch : Nat) (chs : List Change) : List Byte := le 4 epoch ++ chs.flatMap changeBytes

/-- Step 3 (R507): the commit takes the staging, the bank is written, the peer has the change list. -/
def beginWrite (tk : Ticket) (revert : Bool) (changes : List Change) (target : Cfg) (phases : List (List Change)) (s : State) :
    State :=
  let k := s.spareBank
  let old := s.liveRecords
  let c : Commit :=
    { step := 3, session := tk.session, ticket := some tk, own := true, revert := revert, changes := changes, phases := phases,
      target := target, bank := k, bankWritten := false, peerAcked := false, peerDone := !s.paired, began := s.now,
      lanes := lanesTouched old target (cfgDiff old target) }
  let bank : Bank := ⟨false, false, 1, wrap32 ((s.bank (1 - k)).gen + 1), wrap32 (s.cfg.liveEpoch + 1), target, s.node⟩
  let s1 := (({ s with cfg := { s.cfg with
    staged := [], stageOwner := none, commit := some c, phases := phases.length, phaseDone := 0 } } : State).modBank k fun _ => bank)
  let s2 := configRecord 1 tk.session phases.length 0 s1
  let s3 := if s.paired then s2.emit (.peer 7 (commitMessage bank.epoch changes)) else s2
  inProgress tk s3

/-- Steps 1 and 2 of Table 17.4, then step 3; a refusal keeps the staging (R507, R508). -/
def startCommit (cls : Rights) (tk : Ticket) (revert : Bool) (changes : List Change) (target : Cfg) (s : State) : State :=
  match commitCheck s target with
  | some (st, names) => finish cls tk st (namesPayload names) (configRecord 3 tk.session 0 st s)
  | none =>
    let phases := planPhases s.liveRecords target
    if s.nd.mode = .duty && 160 < phases.length then
      finish cls tk stResource (namesPayload [phases.length]) (configRecord 3 tk.session phases.length stResource s)
    else beginWrite tk revert changes target phases s

/-- A commit may begin (R507). -/
def State.mayCommit (s : State) : Bool :=
  s.cfg.commit.isNone && (decide (s.nd.mode = .commission) || decide (s.nd.mode = .duty)) && s.executes

/-- Step 4 begins once the bank is written and the wait for the peer is over: the first phase is marked ready. -/
def beginPhases (s : State) : State :=
  match s.cfg.commit with
  | none => s
  | some c =>
    if c.own && c.step == 3 && c.bankWritten && c.peerDone then
      postWork (.phase 1 (c.phases.getD 0 [])) { s with cfg := { s.cfg with commit := some { c with step := 4 } } }
    else s

/-- The bank of a commit fully programmed, COMMITTED apart. -/
def programBank (s : State) : State :=
  match s.cfg.commit with
  | none => s
  | some c =>
    ({ s with cfg := { s.cfg with commit := some { c with bankWritten := true } } } : State).modBank c.bank
      fun b => { b with sound := true }

/-- COMMIT_BANK_WRITTEN (R507 step 3). -/
def execCommitBankWritten (t : Nat) (s : State) : Res :=
  let s1 := s.begin t
  match s1.cfg.commit with
  | some c => .next (if s1.alive && !s1.nd.mgmtStalled && c.own && c.step == 3 && !c.bankWritten then beginPhases (programBank s1) else s1)
  | none => .next s1

/-- The wait for the peer ends, by its acknowledgement or without it. -/
def peerSettled (acked : Bool) (s : State) : State :=
  match s.cfg.commit with
  | none => s
  | some c => beginPhases { s with cfg := { s.cfg with commit := some { c with peerAcked := c.peerAcked || acked, peerDone := true } } }

/-- COMMIT_PEER_ACK (R507 step 3). -/
def execCommitPeerAck (t : Nat) (s : State) : Res :=
  let s1 := s.begin t
  match s1.cfg.commit with
  | some c => .next (if s1.alive && c.own && s1.paired then peerSettled true s1 else s1)
  | none => .next s1

/-- COMMIT_PEER_TIMEOUT (R507 step 3): 5,000 ms without an acknowledgement. -/
def execCommitPeerTimeout (t : Nat) (s : State) : Res :=
  let s1 := s.begin t
  match s1.cfg.commit with
  | some c => .next (if s1.alive && c.own && !c.peerDone && decide (c.began + 5000000 ≤ s1.now) then peerSettled false s1 else s1)
  | none => .next s1

/-- The first sweep that starts at or after this node time. -/
def nextSweep (node : Micros) : Micros := (node + 9999) / 10000 * 10000

/-- The freeze of a phased change begins with the first sweep from here, and the old group tree stays (R510, R511). A freeze
whose unfreezing sweep is that same sweep ends in it. -/
def beginFreezing (c : Commit) (s : State) : State :=
  let at_ := nextSweep s.node
  let excess := match s.alarm.thawAt with | some t => decide (t ≤ at_) | none => false
  let before := if excess then [] else s.alarm.frozen
  let tree := if excess then some s.cfg.inForce else some s.treeCfg
  { s with alarm := { s.alarm with
      frozen := unionKeys before (affectedPoints s.liveRecords c.target), tree := tree, thawAt := none,
      frozenAt := s.now + (at_ - s.node) } }

/-- The last phase (Table 17.4 step 5, R512): what no phase carries takes effect, every object takes the new epoch, and the
freeze ends with the first sweep from 1,000 µs on. -/
def lastPhase (target : Cfg) (s : State) : State :=
  let s1 := applyRest (s.forced target) s
  let s2 : State := { s1 with cfg := { s1.cfg with ahead := [], liveEpoch := wrap32 (s1.cfg.liveEpoch + 1) } }
  if s2.alarm.tree.isNone then s2
  else
    let stop := nextSweep (s2.node + 1000)
    let ms := if s2.alarm.frozen.isEmpty then s2.cfg.freezeMs else min 65535 ((s2.now + (stop - s2.node) - s2.alarm.frozenAt) / 1000)
    { s2 with alarm := { s2.alarm with thawAt := some (s2.node + 1000) }, cfg := { s2.cfg with freezeMs := ms } }

/-- A phase applied (R508). -/
def applyStep (k : Nat) (chs : List Change) (c : Commit) (s : State) : State :=
  let s1 := if k = 1 && 1 < c.phases.length then beginFreezing c s else s
  let s2 := applyPhase chs s1
  let s3 : State := { s2 with cfg := { s2.cfg with phaseDone := k } }
  if c.phases.length ≤ k then lastPhase c.target s3 else s3

/-- Phase k taken at a boundary (R509): its status. Phase 1 is refused where a lane that the commit touches is ARMED or TRIPPED. -/
def takePhase (k : Nat) (chs : List Change) (s : State) : Nat × State :=
  match s.cfg.commit with
  | none => (stState, s)
  | some c => if k = 1 && s.lanesHold c.lanes then (stState, s) else (stDone, applyStep k chs c s)

/-- The changes of a refused commit return to staging (R509): changes staged since go before them; staging of another session
keeps them out. -/
def returnStaging (c : Commit) (s : State) : State :=
  let open_ := decide ((s.sess c.session).state ≠ .free)
  let mine := match s.cfg.stageOwner with | some o => o == c.session | none => open_
  if !mine then s
  else stageSet c.session ((c.changes.filter fun x => !(s.cfg.staged.any fun y => y.1 == x.1)) ++ s.cfg.staged) s

/-- The commit ends refused (R509): the bank stays uncommitted. -/
def refuseCommit (st : Nat) (c : Commit) (s : State) : State :=
  let s1 := returnStaging c { s with cfg := { s.cfg with commit := none } }
  let s2 := configRecord 3 c.session c.phases.length st s1
  match c.ticket with
  | some tk => reply tk st [] s2
  | none => s2

/-- Step 6 (R507): COMMITTED programmed; the bank is live. -/
def commitBank (c : Commit) (s : State) : State :=
  checkLive (({ s with cfg := { s.cfg with commit := none } } : State).modBank c.bank fun b => { b with committed := true })

/-- Steps 6 and 7 (R507, R455): the bank live, the pair reference set, the CONFIG record, the reply with the epoch that the
acknowledgement brought. -/
def endCommit (c : Commit) (epoch : List Byte) (s : State) : State :=
  let s1 := commitBank c s
  let image := if s1.pair.refImage = 0 then s1.imageCrc else s1.pair.refImage
  let s2 := setRefs s1.liveCrc image s1
  let s3 := configRecord (if c.revert then 5 else 2) c.session c.phases.length 0 s2
  match c.ticket with
  | some tk => reply tk stDone epoch s3
  | none => s3

/-- A command that the fabric applies at a sweep (reply kind W, R323): its reply comes from there. -/
def sweepOp (op : Nat) : Bool := op == 0x1010 || op == 0x1011 || op == 0x1012 || op == 0x1033

/-- The management plane reads the acknowledgement of one piece of work (R36): the next phase, the end of the commit, or the
command's final reply. -/
def readAck (x : MbxWork × Nat × List Byte) (s : State) : State :=
  match x with
  | (.calBlock _, _, _) => s
  | (.panelAck _ _ _ _, _, _) => s
  | (.command tk _, st, bs) => if sweepOp tk.opcode then s else reply tk st bs s
  | (.phase k _, st, bs) =>
    match s.cfg.commit with
    | none => s
    | some c =>
      if !c.own then s
      else if st ≠ stDone then refuseCommit st c s
      else if c.phases.length ≤ k then endCommit c bs s
      else postWork (.phase (k + 1) (c.phases.getD k [])) s

/-- The work is a phase. -/
def MbxWork.isPhase : MbxWork → Bool
  | .phase _ _ => true
  | _ => false

/-- The work is a command. -/
def MbxWork.isCommand : MbxWork → Bool
  | .command _ _ => true
  | .panelAck _ _ _ _ => true
  | _ => false

/-- The next request written into the empty slot (R36, R508): a phase with every command that waits, else the oldest work. -/
def nextRequest (s : State) : State :=
  let ws := s.host.mbxWait
  if ws.any MbxWork.isPhase then
    { s with host := { s.host with
        mbx := .ready (ws.filter MbxWork.isPhase ++ ws.filter MbxWork.isCommand), mbxWait := ws.filter MbxWork.ownSet } }
  else match ws with
    | [] => { s with host := { s.host with mbx := .empty } }
    | w :: rest => { s with host := { s.host with mbx := .ready [w], mbxWait := rest } }

/-- This acknowledgement ends the commit under way: COMMITTED is to be programmed. -/
def State.endsCommit (s : State) (x : MbxWork × Nat × List Byte) : Bool :=
  match x.1, s.cfg.commit with
  | .phase k _, some c => c.own && decide (x.2.1 = stDone) && decide (c.phases.length ≤ k)
  | _, _ => false

/-- MAILBOX_ACK (R36): the management plane reads the acknowledgement and writes the next request. HOLD starts no configuration
write (Table 3.3), so one that ends a commit waits for its end. -/
def execMailboxAck (t : Nat) (s : State) : Res :=
  let s1 := s.begin t
  match s1.host.mbx with
  | .acked xs => .next (if s1.alive && !s1.nd.mgmtStalled && !(decide (s1.nd.mode = .hold) && xs.any s1.endsCommit) then nextRequest (xs.foldl (fun s x => readAck x s) s1) else s1)
  | _ => .next s1

/-- FREEZE_LIMIT (R510): 200 ms after the freeze began, counted outside HOLD, every point is unfrozen; not in COMMISSION. -/
def execFreezeLimit (t : Nat) (s : State) : Res :=
  let s1 := s.begin t
  let due := s1.alive && decide (s1.nd.mode ≠ .hold) && decide (s1.nd.mode ≠ .commission) && !s1.alarm.frozen.isEmpty &&
    decide (s1.alarm.frozenAt + 200000 ≤ s1.now)
  if !due then .next s1
  else
    let s2 : State := { s1 with alarm := { s1.alarm with frozen := [] }, cfg := { s1.cfg with freezeMs := 200 } }
    let (k, n) := match s2.cfg.commit with | some c => (c.session, c.phases.length) | none => (255, s2.cfg.phases)
    .next (configRecord 7 k n 0 s2)

/-- PEER_COMMIT_RX (R507 step 3): the change list written into this unit's own spare bank, and acknowledged. HOLD starts no
configuration write (Table 3.3). -/
def execPeerCommitRx (t epoch : Nat) (chs : List (Nat × Option Nat)) (s : State) : Res :=
  let s1 := s.begin t
  if !(s1.alive && s1.paired && !s1.executes) || decide (s1.nd.mode = .hold) then .next s1
  else
    let k := s1.spareBank
    let old := s1.liveRecords
    let target := applyChanges old chs
    let phases := planPhases old target
    let c : Commit :=
      { step := 4, session := 255, ticket := none, own := false, revert := false, changes := chs, phases := phases, target := target,
        bank := k, bankWritten := true, peerAcked := true, peerDone := true, began := s1.now,
        lanes := lanesTouched old target (cfgDiff old target) }
    let bank : Bank := ⟨true, false, 1, wrap32 ((s1.bank (1 - k)).gen + 1), epoch, target, s1.node⟩
    let s2 := ({ s1 with cfg := { s1.cfg with commit := some c, phases := phases.length, phaseDone := 0 } } : State).modBank k
      fun _ => bank
    .next (s2.emit (.peer 8 (le 4 epoch)))

/-- The bank of a commit whose phases this unit has all followed is live, unless HOLD keeps its write back (Table 3.3). -/
def followedCommit (s : State) : State :=
  match s.cfg.commit with
  | none => s
  | some c =>
    if c.own || c.step ≠ 6 || s.nd.mode = .hold then s
    else
      let s1 := commitBank c s
      s1.modPair fun p => { p with refConfig := s1.liveCrc }

/-- A phase that part I carries, applied by the other unit (R445, Table 17.5); with the last, its bank is live. -/
def followPhase (chs : List Change) (last : Bool) (s : State) : State :=
  match s.cfg.commit with
  | none => applyPhase chs s
  | some c =>
    let s1 := applyStep (if last then c.phases.length else s.cfg.phaseDone + 1) chs c s
    if last then followedCommit { s1 with cfg := { s1.cfg with commit := s1.cfg.commit.map fun x => { x with step := 6 } } }
    else s1

end Sys2Proof.Machine
end

