-- ==== Sys2Proof/Machine/Shadow.lean ====
section
/-! DEFINITION. What the control plane takes at a boundary: mailbox work of its own (R36, R234, R304, R323, R518), and in STANDBY
the duty unit's parts I and C (R307, R445, R450). -/

namespace Sys2Proof.Machine

/-- A lane has carried no heartbeat for 2,800 µs (R447). -/
def laneOld (last : Option Micros) (now : Micros) : Bool :=
  match last with | some a => decide (a + 2800 ≤ now) | none => true

/-- The causes of the pair fault word that hold now (Table 15.13). -/
def State.pairCauses (s : State) : Nat :=
  let p := s.pair
  let d := s.refDiff
  let peer (f : Heartbeat → Bool) : Bool :=
    if s.peerLost then false else match p.hb with | some h => f h | none => false
  let mine := s.baysRunning
  bitsOf [s.paired && s.peerLost, s.paired && laneOld p.hbPairAt s.now, s.paired && laneOld p.hbPktAt s.now, p.ownLoop.faulty, p.shutLoop.faulty,
    p.disagree.any fun x => decide (s.param 0x15000004 ≤ x.2), d.config || d.peerConfig,
    d.image || d.peerImage,
    peer fun h => (List.range 16).any fun b => hasBit mine b && !hasBit h.bayOk b,
    s.onDuty && peer fun h => h.faultDecl || (h.mode == 4 && !h.eligible),
    p.shutIn, p.shutOut, decide (s.nd.mode = .resync) && s.cal.isNone]

/-- PAIR_CLEAR's effect (R463): what no longer holds is cleared, and the marks; a named standby whose difference is cleared goes to
RESYNC. The duty unit passes it on to its peer with the next part I (log 231). -/
def pairClear (s : State) : State :=
  let old := s.pair.faults
  let w := old &&& s.pairCauses
  let diff := decide (old &&& 0xE0 ≠ w &&& 0xE0)
  let s1 := setPairFaults w (s.modPair fun p => { p with
    marked := false, declared := p.declared && decide (s.nd.mode ≠ .standby),
    first := if hasBit w 5 then p.first else 0xFFFF, disagree := if hasBit w 5 then p.disagree else [] })
  let named := s1.pair.named &&& s1.posBit != 0
  let s2 := if diff && named && decide (s1.nd.mode = .standby) then enterResync s1 else s1
  let s3 := if w &&& 0xE0 = 0 then s2.modPair fun p => { p with named := 0 } else s2
  if s3.paired && s3.onDuty then s3.modPair fun p => { p with clearing := true } else s3

/-- A command that the mailbox brings, applied before the compute phase: its status and reply payload. A point command waits
for the sweep from `at_` on (R323). -/
def applyCommand (at_ : Micros) (tk : Ticket) (pl : List Byte) (s : State) : Nat × List Byte × State :=
  match tk.opcode with
  | 0x0232 => takeOutWrite pl s
  | 0x0252 => takeDoWrite pl s
  | 0x0254 => takeCntPreset pl s
  | 0x0262 => takeLampWrite pl s
  | _ =>
    if sweepOp tk.opcode then
      (stDone, [], { s with host := { s.host with sweepCmds := s.host.sweepCmds ++ [(at_, tk, pl)] } })
    else (stDone, [], s)

/-- A lane command, judged in the compute phase after the lanes (R304). -/
def applyLaneCommand (arms : List ArmReading) (tk : Ticket) (pl : List Byte) (s : State) : Nat × List Byte × State :=
  if tk.opcode = 0x0282 then takeLaneArm arms pl s
  else if tk.opcode = 0x0284 then takeLaneReset arms pl s
  else takeLaneDisarm pl s

/-- A lane command's opcode. -/
def laneOp (op : Nat) : Bool := op == 0x0282 || op == 0x0283 || op == 0x0284

/-- Channel n computes with its new calibration from its first result on (R513, R518). -/
def applyCal (n : Nat) (s : State) : State := s.modCh n fun r => { r with calOld := none, epochDue := true }

/-- The epoch of the content that a commit under way brings (R507). -/
def State.commitEpoch (s : State) : Nat :=
  match s.cfg.commit with | some c => (s.bank c.bank).epoch | none => s.cfg.liveEpoch

/-- The ACK of panel slot k waits for the sweep from now on (R341, R356). -/
def notePanelAck (g seen k : Nat) (s : State) : State :=
  { s with alarm := { s.alarm with panelAcks := s.alarm.panelAcks ++ [(s.node, g, seen, k)] } }

/-- Work taken before the compute phase. The acknowledgement of a phase carries the new epoch (R36). -/
def takeWork (w : MbxWork) (s : State) : (MbxWork × Nat × List Byte) × State :=
  match w with
  | .phase k chs => let (st, s1) := takePhase k chs s; ((w, st, if st = stDone then le 4 s.commitEpoch else []), s1)
  | .calBlock n => ((w, stDone, []), applyCal n s)
  | .panelAck _ g seen k => ((w, stDone, []), notePanelAck g seen k s)
  | .command tk pl => let (st, bs, s1) := applyCommand s.node tk pl s; ((w, st, bs), s1)

/-- A lane command, which waits for the lanes. -/
def MbxWork.isLane : MbxWork → Bool
  | .command tk _ => laneOp tk.opcode
  | _ => false

/-- Lane work taken after the lanes were computed. -/
def takeLaneWork (arms : List ArmReading) (w : MbxWork) (s : State) : (MbxWork × Nat × List Byte) × State :=
  match w with
  | .command tk pl => let (st, bs, s1) := applyLaneCommand arms tk pl s; ((w, st, bs), s1)
  | _ => ((w, stDone, []), s)

/-- Pieces of work taken in order, with what each answers. -/
def takeAll (f : MbxWork → State → (MbxWork × Nat × List Byte) × State) (ws : List MbxWork) (s : State) :
    List (MbxWork × Nat × List Byte) × State :=
  ws.foldl (fun (xs, s) w => let (x, s1) := f w s; (xs ++ [x], s1)) ([], s)

/-- The work was marked ready before node time t: that of a tick is not, at the boundary where the tick falls (R36). -/
def MbxWork.readyAt (t : Micros) (w : MbxWork) : Bool := match w with | .panelAck a _ _ _ => decide (a < t) | _ => true

/-- The request that the boundary takes (R36); in HOLD the mailbox is not sampled (Table 3.3). -/
def State.request (s : State) : List MbxWork :=
  match s.host.mbx with
  | .ready ws => if s.nd.mode = .hold || !ws.all (·.readyAt s.node) then [] else ws
  | _ => []

/-- A sender that no session has: the ticket of a command that part I carries draws no reply. -/
def shadowTicket (c : CmdCopy) : Ticket := ⟨⟨true, false, 0, 0, 0⟩, 0, c.opcode, c.session % 8, 0, 0, 0⟩

/-- A command of part I applied as the duty unit applied it (R445). The standby takes no command of its own, so what a command
needs of the mode holds by the duty unit's acceptance. -/
def takeShadowCommand (c : CmdCopy) (s : State) : State :=
  let pl := c.payload
  let n := fieldAt pl 0 2
  match c.opcode with
  | 0x0232 => takeWrite n (f32Val (BitVec.ofNat 32 (fieldAt pl 2 4))) s
  | 0x0252 => takeWrite n (byteAt pl 2) s
  | 0x0262 => takeWrite n (byteAt pl 2) s
  | 0x0254 => s.modDio n (·.preset (fieldAt pl 2 6))
  | 0x1502 => pairClear s
  | 0x1033 =>
    if 0x40 ≤ c.session then (notePanelAck n (fieldAt pl 4 8) (c.session - 0x40) s) else
      (applyCommand (s.node - 1000) (shadowTicket c) pl s).2.2
  | _ => (applyCommand (s.node - 1000) (shadowTicket c) pl s).2.2

/-- A lane command of part I, which the duty unit's arming check has passed, applied after the lanes were computed (R304, R445). -/
def takeShadowLane (c : CmdCopy) (s : State) : State :=
  let l := byteAt c.payload 0
  if c.opcode = 0x0282 then laneArmed l s
  else if c.opcode = 0x0283 then laneDisarmed l s
  else if c.opcode = 0x0284 then laneArmed l (laneCleared l s)
  else s

/-- The duty unit's alarm entries that changed (R444). -/
def takeEntry (c : PtCopy) (s : State) : State :=
  s.modPair fun p => { p with peerPts := tput c.p (c.state, c.suppress, c.active) p.peerPts }

/-- Part I of the duty unit's last cycle, taken before the standby computes that cycle (R444, R445). -/
def takePartI (m : PartI) (s : State) : State :=
  let s1 := takeInputs m s
  let s2 := match m.phase with | some (chs, last) => followPhase chs last s1 | none => s1
  let s3 := m.commands.foldl (fun s c => takeShadowCommand c s) s2
  m.entries.foldl (fun s c => takeEntry c s) s3

/-- A count of disagreements in a row (R450). -/
def countDiffer (k : Nat) (b : Bool) (s : State) : State :=
  s.modPair fun p => { p with disagree := if b then tmod 0 p.disagree k (fun x => min 65535 (x + 1)) else tdel k p.disagree }

/-- The standby's value for output n differs from the duty unit's (R450). -/
def State.outDiffers (s : State) (c : OutCopy) : Bool :=
  let n : Nat := c.n
  match (s.outp n).xfer with
  | none => false
  | some (_, u) =>
    if (s.fn n).analogOut then
      decide (s.paramReal 0x15000003 / 100 * rabs (s.cr .out n 10 - s.cr .out n 9) < rabs (u - c.value))
    else decide (u ≠ c.value)

/-- Point p's entry differs from the duty unit's (R450). -/
def State.entryDiffers (s : State) (p : Nat) (e : Nat × Nat × Bool) : Bool :=
  let r := tget PtRun.initial s.alarm.imgPts p
  r.state.code != e.1 || r.suppress != e.2.1 || r.active != e.2.2

/-- What the standby has computed compared with part C of the same cycle (R450); not while the duty unit is in HOLD (R108,
Table 15.6). Channels count under their number, points under 1,024 more. -/
def compareParts (c : PartC) (s : State) : State :=
  if s.peerMode = 6 then s
  else
    let s1 := c.outs.foldl (fun s o => countDiffer o.n (s.outDiffers o) s) s
    let s2 := c.lanes.foldl (fun s l => countDiffer (s.laneChan l.lane 3) ((s.lane l.lane).hs.sent != (l.state == 3)) s) s1
      let ps := unionKeys (s2.pair.peerPts.map (·.1)) (s2.alarm.imgPts.map (·.1))
    ps.foldl (fun s p => countDiffer (1024 + p) (s.entryDiffers p (tget (0, 0, false) s.pair.peerPts p)) s) s2

/-- An output state of Table 7.11 by its code. -/
def OutMode.ofCode : Nat → OutMode
  | 1 => .following | 2 => .holding | 3 => .safe | 4 => .strap | 5 => .latched | _ => .off

/-- A lane state of Table 9.1 by its code. -/
def LaneState.ofCode : Nat → LaneState
  | 1 => .unproven | 2 => .ready | 3 => .armed | 4 => .tripped | _ => .off

/-- A value given to output n at a boundary (R28). -/
def applyOutput (n : Nat) (m : OutMode) (u : Rat) (s : State) : State :=
  let f := s.fn n
  if s.inToll n || !s.running n then s
  else if f.analogOut then applyAnalog n m u s
  else if f.switched then applySwitched n m u s
  else if f == .lamp then applyLamp n m u s
  else s

/-- Part C applied to the standby's latches and lanes (R307, R445). -/
def takePartC (c : PartC) (s : State) : State :=
  let s1 := c.outs.foldl (fun s o => applyOutput o.n (OutMode.ofCode o.mode) o.value s) s
  c.lanes.foldl (fun s l =>
    sendLane l.lane (setLane l.lane (fun r => { r with
      state := LaneState.ofCode l.state, legA := { r.legA with proven := l.provenA }, legB := { r.legB with proven := l.provenB },
      tripCause := l.tripCause }) s)) s1

end Sys2Proof.Machine
end

