-- ==== Sys2Proof/Machine/Cycle.lean ====
section
/-! DEFINITION. The control cycle (R26 to R28, R36, R105, R200, R444, Table 1.2): boundary, compute phase, output transfer, image
write, and what a unit sends its peer. -/

namespace Sys2Proof.Machine

/-- The latch of channel n still drives the strap's level for another function than the channel's own (R237). -/
def State.strapOther (s : State) (n : Nat) : Bool :=
  decide ((s.outp n).mode = .strap) && !(s.fn n == .iout || s.fn n == .vout)

/-- The channel's own output function starts in a latch that held another's connections. -/
def ownFunction (n : Nat) (s : State) : State :=
  let s1 := startOutput n (connectChan n s)
  if s1.fn n == .lamp then startLamp n s1 else s1

/-- The transferred value of output n reaches its stage (R28). A connection that a latch held for another function goes with the
first transfer (R237). -/
def applyXfer (n : Nat) (s : State) : State :=
  match (s.outp n).xfer with
  | none =>
    if s.strapOther n && !(s.fn n).output && s.running n && decide (s.nd.mode ≠ .hold) then
      (connectChan n s).modOut n fun _ => OutRun.initial
    else s
  | some (m, u) =>
    let s1 := s.modOut n fun o => { o with xfer := none }
    applyOutput n m u (if s.strapOther n && s.running n && !s.inToll n then ownFunction n s1 else s1)

/-- The boundary's outputs (Table 1.2): none in HOLD, and the duty unit's in STANDBY (R445). -/
def boundaryOutputs (s : State) : State :=
  if s.nd.mode = .hold || s.nd.mode = .standby || s.nd.mode = .resync then s
  else (s.field.out.map (·.1)).foldl (fun s n => applyXfer n s) s

/-- A sync pulse reaches bay b, whose link carries traffic again: expiries that it counted are reported (R287). -/
def syncBay (b : Nat) (s : State) : State :=
  let s1 := s.modBay b fun y => { y with syncAt := s.now, ssRun := false }
  let owed := (s.bay b).ssOwed
  if owed = 0 then s1
  else setBay b (fun y => { y with ssExpired := true, ssCount := wrap16 (y.ssCount + owed), ssOwed := 0 }) s1

/-- The sync pulse to all bays (R28). -/
def syncPulse (s : State) : State :=
  (List.range 16).foldl (fun s b => if (s.bay b).state = .running then syncBay b s else s) s

/-- The claim sent again to a bay whose latch its field supply has lost, by the unit that holds the sluice. -/
def renewClaims (s : State) : State :=
  let lost := (List.range 16).any fun b => !(s.bay b).claim && decide ((6 : Rat) ≤ (s.bay b).vFs)
  if s.pair.own && lost && !s.peerClaims && !s.pair.shutIn then gatesMoved (setClaims s) else s

/-- Counts captured at the boundary (R266, R268), in HOLD too; a sealed partition's are the Toll core's (TOLL_CAPTURE). -/
def captureCounts (s : State) : State :=
  allChans.foldl (fun s n => if s.fn n == .cnt && !s.inToll n then captureCount s.ownReadings n s.node s else s) s

/-- What the boundary itself does. -/
def boundaryWork (s : State) : State :=
  let s1 := boundaryOutputs s
  let s2 := (List.range 32).foldl (fun s l => laneBoundary l s) s1
  followGovernor (captureCounts (renewClaims (syncPulse s2)))

/-- The lanes computed and their words sent (R292 to R299); not in RESYNC, which takes them from the peer (R459). -/
def computeLanes (arms : List ArmReading) (s : State) : State :=
  if s.nd.mode = .resync then s
  else (List.range 32).foldl (fun s l => if (s.lane l).state = .off then s else laneCompute l arms s) s

/-- The lane words of this cycle. -/
def sendLanes (s : State) : State :=
  (List.range 32).foldl (fun s l => if (s.lane l).state = .off then s else sendLane l s) s

/-- The reference results that the output transfer brings to the bay engines of other bays (R192). -/
def carryRefs (s : State) : State :=
  if s.nd.mode = .hold then s
  else (s.field.chan.map (·.1)).foldl (fun s n =>
    let m := s.cf .meas n 2
    if (s.subFn n).converts && s.cf .meas n 1 == 1 && bayOf m != bayOf n then s.modCh n fun r => { r with refIn := s.refResult m }
    else s) s

/-- Outputs computed and HART, trips and checks followed up. -/
def computeOutputs (s : State) : State :=
  let s1 := allChans.foldl (fun s n => if (s.fn n).output then computeOut n s else s) s
  let s2 := (s1.field.dio.map (·.1)).foldl (fun s n => clearTrips n s) (carryRefs s1)
  (s2.field.hart.map (·.1)).foldl (fun s n => hartGuard n s) s2

/-- The record of a lamp (R278): VALUE is its latest on-sample, and the latest cold test's current while it is off: while
it is commanded OFF, not in the off-phases of FLASH (DESIGN CHOICE, log 259). -/
def State.lampRecord (s : State) (n : Nat) : Result :=
  let x := s.outRecord n (s.lampConditions n)
  let l := s.lamp n
  if x.quality = 8 || x.quality = 10 then x
  else { x with value := if !(s.ch n).given then f32NaN
                         else if (s.outp n).drive ≠ 0 then f32Of l.iLamp
                         else if l.tTest ≠ 0 then f32Of l.iCold else (s.ch n).latest.value }

/-- The record of channel n in this cycle's image (R200, R242, R538). -/
def State.record (s : State) (n : Nat) : Result :=
  let f := s.fn n
  if s.inToll n then { s.img n with quality := 8 }
  else if f == .off then { Result.initial with seq := (s.ch n).latest.seq, epoch := s.epochOf n }
  else if f.analogOut then s.outRecord n (s.outConditions n)
  else if f == .lamp then s.lampRecord n
  else if f.switched || f == .laneOut then s.outRecord n (s.switchConditions n)
  else s.inputRecord n

/-- The status words that FAULT points read (Table 10.3): channel n, or lane n - 512. -/
def State.wordsOf (s : State) (n : Nat) : Words :=
  if n < 512 then ⟨(s.sup n).word, s.outStatus n, s.dioStatus n, (s.lamp n).state.code, chanFlags n s⟩
  else ⟨0, 0, 0, 0, (s.lane (n - 512)).flags⟩

/-- A table of the entries that differ from their default. -/
def tableOf {α : Type} [DecidableEq α] (d : α) (keys : List Nat) (f : Nat → α) : Tbl α :=
  keys.filterMap fun k => if f k = d then none else some (k, f k)

/-- The image write (Table 1.2): the channel region flips at T + 900 µs; an EPOCH_CHANGE has shown once (R513). It serves the
sluice watchdog, with which SLUICE_OWN comes back where CLAIM_REQ stands (R438). -/
def writeImage (s : State) : State :=
  let image := tableOf Result.initial allChans s.record
  let words := tableOf Words.initial (List.range 544) s.wordsOf
  let marked := (s.field.chan.filter fun x => x.2.epochMark).map (·.1)
  let field := { s.field with
    imageNext := some (s.node + 900, image, words), chan := tmap ChanRun.initial (fun _ r => { r with hasValue := r.given }) s.field.chan }
  let s1 : State := { s with field := field }
  let s2 := marked.foldl (fun s n => s.modCh n fun r => { r with epochMark := false }) s1
  stallEnds 0 (s2.modPair fun p => { p with servedAt := s.now, own := p.own || (p.claimReq && !p.shutIn) })

/-- A channel's part of part I: its record where it is new, and the samples since the last. -/
def resultCopies (s : State) : List ResultCopy :=
  (List.finRange 512).filterMap fun (n : Chan) =>
    let r := s.record n
    let x := s.ch n
    if s.fn n == .off || (r.seq = (s.img n).seq && r.quality = (s.img n).quality && x.fresh.isEmpty) then none
    else some ⟨n, r.value, r.quality, r.detail, r.seq, r.tEnd, r.tNext, x.fresh⟩

/-- Supervision figures in the order of SUP_READ. -/
def Figures.toList (f : Figures) : List Word32 :=
  [f.zF1, f.phF1, f.zF2, f.phF2, f.zF3, f.phF3, f.cEst, f.ins, f.insF3, f.lead]

/-- Part I of this cycle (Table 15.3), with the work that the boundary took and accepted. -/
def State.partIOf (s : State) (took : List (MbxWork × Nat × List Byte)) : PartI where
  cycle := wrap32 (s.node / 1000)
  results := resultCopies s
  states := allChans.filterMap fun n => if s.subFn n == .di then (s.dio n).state.map fun b => (n, b) else none
  counts := allChans.filterMap fun n => if s.fn n == .cnt then some (n, (s.dio n).captured) else none
  sups := (List.finRange 512).filterMap fun (n : Chan) =>
    let u := s.sup n
    if (s.subFn n).converts then some ⟨n, u.word, u.tCheck, if u.check.isSome then some s.node else u.due, u.baseCount, u.fig.toList⟩ else none
  harts := (List.finRange 512).flatMap fun (n : Chan) => (s.hrt n).devices.map fun d =>
    ⟨n, Fin.ofNat 16 d.addr, d.state.code, d.uid, d.liveUid, d.devStatus, [d.iLoop, d.pv, d.sv, d.tv, d.qv], d.units,
      d.repliedAt.map (s.now - ·), d.polledAt.map (s.now - ·), d.addr == (s.hrt n).lastPolled,
      (s.hrt n).told.contains d.liveUid⟩
  lamps := (List.finRange 512).filterMap fun (n : Chan) =>
    let l := s.lamp n
    if s.fn n == .lamp then some ⟨n, l.state.code, l.iLamp, l.iCold, l.tTest, l.darkCount, l.tripCount⟩ else none
  commands := (took.filterMap fun x =>
    match x with
    | (.command tk pl, st, _) => if st = stDone then some ⟨tk.opcode, tk.session, pl⟩ else none
    | (.panelAck _ g seen k, _, _) => some ⟨0x1033, 0x40 + k, le 2 g ++ le 2 0 ++ le 8 seen⟩
    | _ => none) ++ if s.pair.clearing then [⟨0x1502, 0, le 1 1⟩] else []
  phase := took.findSome? fun x =>
    match x with
    | (.phase k chs, st, _) =>
      if st = stDone then some (chs, match s.cfg.commit with | some c => decide (c.phases.length ≤ k) | none => false) else none
    | _ => none
  entries := (List.finRange 65536).filterMap fun (p : Point) =>
    let r := tget PtRun.initial s.alarm.imgPts p
    if tget (0, 0, false) s.pair.peerPts p = (r.state.code, r.suppress, r.active) then none
    else some ⟨p, r.state.code, r.suppress, r.active⟩

/-- Part C of this cycle (Table 15.3). -/
def State.partCOf (s : State) : PartC where
  cycle := wrap32 (s.node / 1000)
  outs := (List.finRange 512).filterMap fun (n : Chan) => (s.outp n).xfer.map fun x => ⟨n, x.1.code, x.2⟩
  lanes := (List.finRange 32).filterMap fun (l : Lane) =>
    let r := s.lane l
    if r.state = .off then none else some ⟨l, r.state.code, r.legA.proven, r.legB.proven, r.tripCause⟩

/-- The frames of this cycle on the pair lane (R444): parts I and C from a unit in DUTY whose peer is heard, the heartbeat from
every unit. No layout is given for the parts, so that their CRC-32 is free (log 249). -/
def sendParts (took : List (MbxWork × Nat × List Byte)) (s : State) : State :=
  let s1 :=
    if s.paired && decide (s.nd.mode = .duty) && !s.peerLost then
      let m := s.partIOf took
      let (k, s0) := s.draw
      let crc (x : Nat) := Config.freeNat k / 4294967296 ^ x % 4294967296
      m.entries.foldl (fun s c => takeEntry c s)
        (((s0.emit (.partI s.pair.onPkt m (crc 0))).emit (.partC s.pair.onPkt s.partCOf (crc 1))).modPair fun p => { p with clearing := false })
    else s
  sendBeat ((s1.field.chan.filter fun x => !x.2.fresh.isEmpty).foldl (fun s x => s.modCh x.1 fun r => { r with fresh := [] }) s1)

/-- What the standby does with parts I and C of the cycle before (R445): computes from them, compares, and takes the duty unit's
values and lanes. In HOLD its latches stay and the comparison is suspended (R108, Table 3.3). -/
def shadowCycle (arms : List ArmReading) (s : State) : State :=
  let hold := decide (s.nd.mode = .hold)
  let s1 := match s.pair.partI with | some m => takePartI m s | none => s
  let lanes := match s.pair.partI with | some m => m.commands | none => []
  let s2 := computeOutputs (sendLanes (lanes.foldl (fun s c => takeShadowLane c s) (computeLanes arms s1)))
  let s3 := match s.pair.partC with
    | some c => if hold then takePartC { c with outs := [] } s2 else takePartC c (compareParts c s2)
    | none => s2
  let s4 := (s3.field.out.filter fun x => x.2.xfer.isSome).foldl (fun s x => s.modOut x.1 fun o => { o with xfer := none }) s3
  s4.modPair fun p => { p with partI := none, partC := none }

/-- What parts I and C still held as the unit took duty (R445, R456): the commands, and the values of the last output transfer. -/
def takeLeft (s : State) : State :=
  let s1 := match s.pair.partI with | some m => m.commands.foldl (fun s c => takeShadowLane c s) (takePartI m s) | none => s
  let s2 := match s.pair.partC with | some c => takePartC c s1 | none => s1
  s2.modPair fun p => { p with partI := none, partC := none }

/-- The compute phase of a unit that takes its own inputs: mailbox work, lanes, lane commands, outputs. -/
def computePhase (arms : List ArmReading) (s : State) : List (MbxWork × Nat × List Byte) × State :=
  let ws := s.request
  let (xs, s1) := takeAll takeWork (ws.filter fun w => !w.isLane) s
  let s2 := computeLanes arms s1
  let (ys, s3) := takeAll (takeLaneWork arms) (ws.filter MbxWork.isLane) s2
  let s4 := computeOutputs (sendLanes s3)
  let took := xs ++ ys
  if ws.isEmpty then (took, s4) else (took, ({ s4 with host := { s4.host with mbx := .acked took } } : State).count 6 1)

/-- The unit shadows its peer (R445): in STANDBY, HOLD from it included, and in RESYNC from step 6 on. -/
def State.shadows (s : State) : Bool :=
  decide (s.baseMode = .standby) || (decide (s.baseMode = .resync) && decide (6 ≤ s.pair.step))

/-- Cycles in a row with READBACK_DEV or STUCK, per output channel (R449). -/
def countReadback (s : State) : State :=
  if !s.paired then s
  else
    let word (n : Nat) := s.outStatus n
    let t := tableOf 0 allChans fun n =>
      if (s.fn n).output && (hasBit (word n) 6 || hasBit (word n) 8) then min 3 (tget 0 s.pair.readback n + 1) else 0
    s.modPair fun p => { p with readback := t }

/-- COMPUTE_PEAK (Table 19.6): how long the compute phase took is open, at most its 500 µs. -/
def computeTime (s : State) : State :=
  let (k, s1) := s.draw
  s1.peak 2 (Config.freeNat k % 500001)

/-- What a boundary does first: HOLD ends there once the warning has cleared (R105). -/
def boundaryStart (s : State) : State := boundaryWork (if s.holdOver then followedCommit (leaveHold s) else s)

/-- The cycle's own work (R26), or that of a unit that shadows its peer (R445): what it took from the mailbox, and the state. -/
def cycleWork (arms : List ArmReading) (s : State) : List (MbxWork × Nat × List Byte) × State :=
  if s.shadows then
    let (xs, s1) := takeAll takeWork (s.request.filter fun w => w.ownSet) (shadowCycle arms s)
    if s.request.isEmpty then (xs, s1) else (xs, { s1 with host := { s1.host with mbx := .acked xs } })
  else computePhase arms (takeLeft s)

/-- The end of a cycle that took `took` (R26): the parts for the peer, the point image, and the counts. -/
def endCycle (took : List (MbxWork × Nat × List Byte)) (s : State) : State :=
  let s1 := (writeImage (sendParts took (countReadback (freeIneligible (computeTime s))))).count 0 1
  let s2 := if s1.fabricOn then s1 else { s1 with alarm := { s1.alarm with offAt := s1.node } }
  s2.modNd fun d => { d with overrunRun := 0 }

/-- A whole control cycle from its boundary, where node time stands (R26). -/
def runCycle (arms : List ArmReading) (s : State) : State :=
  let r := cycleWork arms (boundaryStart s)
  endCycle r.1 r.2

/-- CONTROL_CYCLE_BOUNDARY (R26): the cycle at the next whole millisecond of node time. A unit in BOOT that waits for its pair
decision sends its heartbeat (R458). -/
def execControlCycleBoundary (arms : List ArmReading) (s : State) : Res :=
  let s1 := s.beginCycle
  .next (if s1.cycling then runCycle arms s1
    else if decide (s1.nd.mode = .boot) && s1.pair.decideAt.isSome then sendBeat s1
    else s1)

/-- HOLD_EXIT (R105): the first boundary after the warning clears. -/
def execHoldExit (arms : List ArmReading) (s : State) : Res :=
  if s.cycling && s.holdOver then execControlCycleBoundary arms s else .next { s with out := [] }

/-- CYCLE_OVERRUN (R27): the compute phase of the cycle at the next boundary does not finish; nothing is transferred or
written. -/
def execCycleOverrun (s : State) : Res :=
  let s1 := s.beginCycle
  if !s1.cycling then .next s1
  else
    let s2 := boundaryStart s1
    .next (((s2.count 0 1).count 1 1).modNd fun d =>
      { d with overrunRun := d.overrunRun + 1 })

end Sys2Proof.Machine
end

