-- ==== Sys2Proof/Machine/Firmware.lean ====
section
/-! DEFINITION. Firmware commands and trials (R519 to R523, R525), and what a finished handover releases (R457, R521). -/

namespace Sys2Proof.Machine

/-- Seconds of trial left of slot k, 0 outside a trial (R522). -/
def State.trialLeft (s : State) (k : Nat) : Nat :=
  match s.cfg.trialFrom with
  | some t => if k = s.cfg.running && s.onTrial then (t + 1000000 * s.param 0x17000002 - s.now) / 1000000 else 0
  | none => 0

/-- A slot in the FW_STATUS reply (Table 17.13). -/
def fwSlotBytes (k : Nat) (s : State) : List Byte :=
  let f := s.fwSlot k
  le 1 f.state.code ++ le 1 f.major ++ le 1 f.minor ++ le 1 0 ++ le 2 f.patch ++ le 4 f.imageCrc ++ le 4 f.build ++
    le 4 (s.trialLeft k) ++ le 2 0

/-- FW_STATUS (R525). -/
def execFwStatus (rq : Request) (s : State) : Res :=
  answerNow 0x1720 rq (plainRead fun s => le 1 s.cfg.running ++ le 3 0 ++ fwSlotBytes 0 s ++ fwSlotBytes 1 s) s

/-- The slot that does not run takes over (R521, R523): as TRIAL at an activation, as ACTIVE at a rollback. The pair's reference
follows its image. -/
def switchSlots (trial : Bool) (s : State) : State :=
  let k := 1 - s.cfg.running
  let s1 := (s.modFw k fun f => { f with state := if trial then .trial else .active }).modFw s.cfg.running fun f =>
    { f with state := .valid }
  let s2 := firmwareRecord (if trial then 3 else 5) k 0 { s1 with cfg := { s1.cfg with trialFrom := none } }
  setRefs s2.pair.refConfig (s2.fwSlot k).imageCrc s2

/-- The slots switched, the reply sent, Granary staging written, and the COLD reset taken (R112, R521, R523). -/
def switchImage (trial : Bool) (tk : Ticket) (s : State) : State :=
  coldReset 0x0D .cold (flushReplies (settleHistory (reply tk stDone [] (switchSlots trial s))))

/-- FW_ACTIVATE and FW_ROLLBACK once accepted: the duty unit of a pair with an eligible standby hands over first. -/
def startSwitch (trial : Bool) (tk : Ticket) (s : State) : State :=
  let s1 := inProgress tk s
  if s1.paired && s1.onDuty && s1.peerReady then beginHandover tk (if trial then 1 else 2) s1 else switchImage trial tk s1

/-- The other slot holds a VALID image, nothing runs that would be cut off, and the unit is not in HOLD (Table 3.3). -/
def State.maySwitch (s : State) : Bool :=
  decide ((s.fwSlot (1 - s.cfg.running)).state = .valid) && decide (s.nd.mode ≠ .hold) && s.host.afterHandover.isNone

/-- FW_ACTIVATE's own part (R521). -/
def fwActivateBody (cls : Rights) (tk : Ticket) (pl : List Byte) (s : State) : State :=
  let drives := s.onDuty && (!s.paired || !s.peerReady)
  if pl.length ≠ 1 then finish cls tk stParam [] s
  else if !s.maySwitch || (drives && !hasBit (byteAt pl 0) 0) then finish cls tk stState [] s
  else startSwitch true tk s

/-- FW_ACTIVATE. -/
def execFwActivate (rq : Request) (s : State) : Res := .next (runPacket 0x1721 rq fwActivateBody s)

/-- FW_ROLLBACK's own part (R523). -/
def fwRollbackBody (cls : Rights) (tk : Ticket) (pl : List Byte) (s : State) : State :=
  if pl.length ≠ 1 then finish cls tk stParam [] s
  else if !s.maySwitch || !hasBit (byteAt pl 0) 0 then finish cls tk stState [] s
  else startSwitch false tk s

/-- FW_ROLLBACK. -/
def execFwRollback (rq : Request) (s : State) : Res := .next (runPacket 0x1723 rq fwRollbackBody s)

/-- FW_CONFIRM's own part (R522): refused where no trial runs. -/
def fwConfirmBody (_tk : Ticket) (pl : List Byte) (s : State) : Nat × List Byte × State :=
  if !pl.isEmpty then (stParam, [], s)
  else if !s.onTrial || s.nd.mode = .hold then (stState, [], s)
  else
    let s1 := s.modFw s.cfg.running fun f => { f with state := .active }
    (stDone, le 1 s.cfg.running, firmwareRecord 4 s.cfg.running 0 { s1 with cfg := { s1.cfg with trialFrom := none } })

/-- FW_CONFIRM. -/
def execFwConfirm (rq : Request) (s : State) : Res := answerNow 0x1722 rq fwConfirmBody s

/-- FW_TRIAL_EXPIRE (R522): TRIAL_TIME after BOOT without FW_CONFIRM. -/
def execFwTrialExpire (t : Nat) (s : State) : Res :=
  let s1 := s.begin t
  match s1.cfg.trialFrom with
  | none => .next s1
  | some from_ =>
    .next (if s1.alive && s1.onTrial && decide (s1.nd.mode ≠ .boot) && decide (from_ + 1000000 * s1.param 0x17000002 ≤ s1.now) then
      failTrial s1 else s1)

/-- The command that waited for a handover completes after the claim (R457, R521, R523). -/
def completeHandover (s : State) : State :=
  match s.host.afterHandover with
  | none => s
  | some (tk, _, what) =>
    let s1 : State := { s with host := { s.host with afterHandover := none } }
    if what = 0 then reply tk stDone (le 1 s1.nd.mode.code) s1 else switchImage (what == 1) tk s1

end Sys2Proof.Machine
end

