-- ==== Sys2Proof/Machine/PairRows.lean ====
section
/-! DEFINITION. The redundant pair: its lines, lanes, decisions, RESYNC and commands (R438 to R463). -/

namespace Sys2Proof.Machine

/-- The unit waits to take over, or catches up. -/
def State.waits (s : State) : Bool := decide (s.nd.mode = .standby) || decide (s.nd.mode = .resync)

/-- Heartbeats missed on a lane since the last, one due each millisecond (Table 15.14). -/
def missedBeats (last : Option Micros) (now : Micros) : Nat :=
  match last with | some a => (now - a + 500) / 1000 - 1 | none => 0

/-- A lane's times after a heartbeat on it; the first after a loss starts both lanes. -/
def noteLane (pkt : Bool) (s : State) : State :=
  let fresh := s.peerLost
  let missed := missedBeats (if pkt then s.pair.hbPktAt else s.pair.hbPairAt) s.now
  s.modPair fun p =>
    let clean := if pkt then p.clean else if missed = 0 then p.clean + 1 else 1
    { p with
      hbPairAt := if !pkt || fresh then some s.now else p.hbPairAt
      hbPktAt := if pkt || fresh then some s.now else p.hbPktAt
      hbMissed := wrap32 (p.hbMissed + missed), clean := min 100 clean
      onPkt := p.onPkt && decide (clean < 100) }

/-- What one lane's silence, or a loss that ended within 10 ms, leaves in the fault word (Table 15.6). -/
def laneFaults (returned : Bool) (s : State) : State :=
  let pair := laneOld s.pair.hbPairAt s.now || returned
  let pkt := laneOld s.pair.hbPktAt s.now || returned
  let s1 := if pair then setPairFault 1 true s else s
  if pkt then setPairFault 2 true s1 else s1

/-- What the heartbeat says about the peer (Tables 15.6, 15.13). -/
def peerFaults (h : Heartbeat) (s : State) : State :=
  let mine := s.baysRunning
  let bay := (List.range 16).any fun b => hasBit mine b && !hasBit h.bayOk b
  let s1 := if bay then setPairFault 8 true s else s
  if s.onDuty && (h.faultDecl || (h.mode == 4 && !h.eligible)) then setPairFault 9 true s1 else s1

/-- A unit in STANDBY, or in RESYNC past step 2, keeps its node time by the duty unit's (R445): the delay on the lane is measured,
free below 20 µs. -/
def followTime (h : Heartbeat) (s : State) : State :=
  if (h.mode == 3 || (h.mode == 6 && h.claiming)) &&
      (decide (s.baseMode = .standby) || (decide (s.baseMode = .resync) && decide (3 ≤ s.pair.step))) then
    let (k, s1) := s.draw
    s1.modClk fun c => { c with slew := (h.tTx : Int) + ((Config.freeNat k % 20000 : Nat) : Int) - 1000 * (s.node : Int) }
  else s

/-- The peer has completed RESYNC (R441): SLUICE_SHUT_OUT is released unless R440 keeps it. -/
def resyncDone (s : State) : State :=
  if s.pair.ownLoop.faulty && s.pair.claimReq then s.modPair fun p => { p with shutWait := false } else setShutOut false s

/-- A heartbeat on a lane (R444, R447, R457, Table 15.6). -/
def receiveBeat (pkt : Bool) (h : Heartbeat) (s : State) : State :=
  let returned := match s.pair.lostAt with | some a => s.pair.lostAsserted && decide (s.now < a + 10000) | none => false
  let was := match s.pair.hb with | some x => x.mode | none => 255
  let s1 := (noteLane pkt s).modPair fun p => { p with
    hb := some h, lostAt := none, lostAsserted := false
    offered := if h.handover && decide (h.mode = 3) then some (p.offered.getD s.node) else none }
  let s2 := followTime h (peerFaults h (laneFaults returned s1))
  judge (if was == 5 && h.mode == 4 then resyncDone s2 else s2)

/-- HEARTBEAT_RX (R444). -/
def execHeartbeatRx (t : Nat) (pkt : Bool) (h : Heartbeat) (s : State) : Res :=
  let s1 := s.begin t
  .next (if s1.alive && s1.paired then receiveBeat pkt h s1 else s1)

/-- HEARTBEAT_LOSS (R447, R460, Table 15.6): no heartbeat on either lane for 2,800 µs, from a peer never heard since the reset too. A
RESYNC that has not passed step 3 starts again. -/
def execHeartbeatLoss (t : Nat) (s : State) : Res :=
  let s1 := s.begin t
  let p := s1.pair
  let fresh := p.lostAt.isNone
  if !(s1.alive && s1.paired && (fresh || !hasBit p.faults 0) && s1.nd.resetTime + 2800 ≤ s1.now && laneOld p.hbPairAt s1.now &&
      laneOld p.hbPktAt s1.now) then .next s1
  else
    let s2 := setPairFault 0 true (if fresh then s1.modPair fun p =>
      { p with lostAt := some s1.now, lostAsserted := p.peerLine, offered := none } else s1)
    let s3 := if fresh && s2.nd.mode = .resync && s2.pair.step < 4 then
        (resyncRecord s2.pair.step 4 s2).modPair fun p => { p with step := 1 }
      else s2
    .next (judge s3)

/-- PAIR_LANE_FALLBACK (R444): three frames missed on the pair lane. -/
def execPairLaneFallback (t : Nat) (s : State) : Res :=
  let s1 := s.begin t
  let old := match s1.pair.hbPairAt with | some a => decide (a + 3000 ≤ s1.now) | none => false
  .next (if s1.alive && s1.paired && !s1.peerLost && !s1.pair.onPkt && old then
      setPairFault 1 true (s1.modPair fun p => { p with onPkt := true, clean := 0 })
    else s1)

/-- PART_I_RX (R445): the duty unit's inputs of a cycle. A part I that no cycle of this unit has taken yet is taken first. -/
def execPartIRx (t : Nat) (m : PartI) (s : State) : Res :=
  let s1 := s.begin t
  if !(s1.alive && s1.paired && s1.shadows && decide (s1.peerMode = 3 ∨ s1.peerMode = 6)) then .next s1
  else
    let s2 := match s1.pair.partI with | some old => takePartI old s1 | none => s1
    let broken := decide (s2.pair.partAt + 2000 < s2.node)
    .next (s2.modPair fun p => { p with
      partI := some m, partAt := s2.node, partsFrom := if broken then some s2.node else some (p.partsFrom.getD s2.node) })

/-- PART_C_RX (R445): the duty unit's outputs of a cycle. -/
def execPartCRx (t : Nat) (c : PartC) (s : State) : Res :=
  let s1 := s.begin t
  .next (if s1.alive && s1.paired && s1.shadows && decide (s1.peerMode = 3 ∨ s1.peerMode = 6) then
      s1.modPair fun p => { p with partC := some c }
    else s1)

/-- No fault of Table 8.6 or Table 9.3 stands on channel n (R449). -/
def State.fieldSound (s : State) (n : Nat) : Bool :=
  if s.fn n == .laneOut then
    (List.range 32).all fun l =>
      let r := s.lane l
      decide (r.state = .off) || s.laneChan l 3 != n || !(r.driveDisc || r.outFault || r.stuckLs || r.stuckHs)
  else s.dioStatus n &&& 0x3C == 0

/-- READBACK_MISMATCH (R449, Table 15.5): by the stage's readback, or, with `mon`, by the terminal monitor. -/
def execReadbackMismatch (t : Nat) (n : Chan) (mon : Bool) (s : State) : Res :=
  let s1 := s.begin t
  let f := s1.fn n
  let seen := if mon then (f.switched || f == .lamp || f == .laneOut) && s1.fieldSound n
    else decide (3 ≤ tget 0 s1.pair.readback n)
  .next (if s1.alive && s1.paired && decide (s1.nd.mode = .duty) && s1.gate (bayOf n) && seen && !s1.pair.declared then
      declareFault 3 s1
    else s1)

/-- The unit tells its peer its IMAGE_CRC, which no heartbeat carries (R451; log 247). -/
def passImage (s : State) : State := if s.paired then s.emit (.peer 15 (le 4 s.imageCrc)) else s

/-- The disagreement that a standby finds, or that a duty unit hears of (R450, R451). `k`: channel, or 1,024 + point. -/
def disagreed (k : Nat) (s : State) : State :=
  let name := if k < 1024 then k else k - 1024
  let s1 := if hasBit s.pair.faults 5 then s else s.modPair fun p => { p with first := name }
  let s2 := passImage (if s1.onDuty then s1 else s1.emit (.peer 14 (le 2 name)))
  setPairFault 5 true (compareRefs s2)

/-- DISAGREE (R450, R451, Table 15.6); no comparison while the duty unit is in HOLD, no event while its nRESET is stuck (R115). -/
def execDisagree (t : Nat) (k : Nat) (s : State) : Res :=
  let s1 := s.begin t
  let found := s1.waits && decide (s1.peerMode = 3) && !s1.peerStuck &&
    decide (s1.param 0x15000004 ≤ tget 0 s1.pair.disagree k)
  let told := decide (s1.nd.mode = .duty) && decide (s1.peerMode = 4)
  .next (if s1.alive && s1.paired && (found || told) && k < 66560 then disagreed k s1 else s1)

/-- What the peer has passed, held (R451, R455). -/
def takeRefNote (x : RefNote) (s : State) : State :=
  s.modPair fun p => { p with
    refConfig := match x.refs with | some (c, _) => wrap32 c | none => p.refConfig
    refImage := match x.refs with | some (_, i) => wrap32 i | none => p.refImage
    peerImage := match x.image with | some i => wrap32 i | none => p.peerImage }

/-- PAIR_REF_CHECK (R451, R455): every 10 s, when the unit passes its own image's CRC too, and as the peer passes the pair reference or
its image's CRC. -/
def execPairRefCheck (t : Nat) (note : RefNote) (s : State) : Res :=
  let s1 := s.begin t
  if !(s1.alive && s1.paired) then .next s1
  else
    let s2 := takeRefNote note s1
    .next (compareRefs (if note.refs.isNone && note.image.isNone then passImage s2 else s2))

/-- FORCED_RELEASE (R453, Table 15.6): SLUICE_PEER asserted for 10 ms after the loss. -/
def execForcedRelease (t : Nat) (s : State) : Res :=
  let s1 := s.begin t
  let due := match s1.pair.lostAt with | some a => decide (a + 10000 ≤ s1.now) | none => false
  .next (if s1.alive && s1.paired && s1.waits && due && s1.pair.lostAsserted && s1.pair.peerLine && s1.peerDrove then
      takeover 3 0 true s1
    else s1)

/-- A heartbeat has come after the physical time. -/
def State.heardSince (s : State) (t : Micros) : Bool :=
  let after (x : Option Micros) : Bool := match x with | some a => decide (t < a) | none => false
  after s.pair.hbPairAt || after s.pair.hbPktAt

/-- The old owner still drives (R454 step 4): its line 20 µs after the claim, or a heartbeat from after it. -/
def State.stillHeld (s : State) (c : Claiming) : Bool :=
  (decide (c.began + 20 ≤ s.now) && s.pair.peerLine && !s.pair.shutOut) ||
    (decide (c.began + 2000 ≤ s.now) && s.heardSince c.began && (match s.pair.hb with | some h => h.gateOpen != 0 | none => false))

/-- TAKEOVER_YIELD_CHECK (R454 step 4): 20 µs and 2 ms after the claim. -/
def execTakeoverYieldCheck (t : Nat) (s : State) : Res :=
  let s1 := s.begin t
  match s1.pair.claiming with
  | none => .next s1
  | some c =>
    .next (if !(s1.alive && s1.paired) then s1
      else if s1.stillHeld c then reclaim c.cause s1
      else if c.began + 2000 ≤ s1.now then s1.modPair fun p => { p with claiming := none } else s1)

/-- SLUICE_YIELD (R438, R439, R457): SLUICE_PEER rises. -/
def execSluiceYield (t : Nat) (s : State) : Res :=
  let s1 := s.begin t
  .next (if s1.nd.pairBase && !s1.pair.peerLine then completeHandover (peerRises s1) else s1)

/-- SLUICE_PEER_RELEASED (R439, R453): SLUICE_PEER falls. -/
def execSluicePeerReleased (t : Nat) (s : State) : Res :=
  let s1 := s.begin t
  if !(s1.nd.pairBase && s1.pair.peerLine) then .next s1
  else
    let s2 := gatesMoved (s1.modPair fun p => { p with peerLine := false, peerFreeAt := s1.now, lostAsserted := false })
    .next (if s2.alive then judge s2 else s2)

/-- SLUICE_RECLAIM (R438): after both units yielded, position A claims again 100 µs later, position B 300 µs later where
SLUICE_PEER still reads released. -/
def execSluiceReclaim (t : Nat) (s : State) : Res :=
  let s1 := s.begin t
  match s1.pair.yieldAt with
  | none => .next s1
  | some c =>
    if !(s1.cycling && s1.paired) || s1.now < c.began + (if s1.atB then 300 else 100) then .next s1
    else if (s1.atB && s1.pair.peerLine) || s1.pair.shutIn then .next (s1.modPair fun p => { p with yieldAt := none })
    else .next (claimDuty c.kind c.cause false s1)

/-- SLUICE_SHUT_IN (R439, R441): the peer's forced release begins or ends. -/
def execSluiceShutIn (t : Nat) (on : Bool) (s : State) : Res :=
  let s1 := s.begin t
  if !s1.nd.pairBase || s1.pair.shutIn == on then .next s1
  else
    let s2 := s1.modPair fun p => { p with shutIn := on }
    let s3 := if s2.alive then setPairFault 10 on s2 else s2
    .next (if !on then gatesMoved s3
      else stepDown true (clearClaims (releaseOwn (s3.modPair fun p => { p with claimReq := false, claiming := none }))))

/-- SLUICE_WATCHDOG_EXPIRE (R438, R440). -/
def execSluiceWatchdogExpire (t : Nat) (s : State) : Res :=
  let s1 := s.begin t
  .next (if s1.logicOn && s1.pair.own && decide (s1.pair.servedAt + 2000 ≤ s1.now) then releaseOwn s1 else s1)

/-- What the unit asserts as its SLUICE_OWN loop is judged (R440, R441): SLUICE_SHUT_OUT in its stead while it claims, released once the
loop is sound and the shut unit has completed RESYNC. -/
def followOwnLoop (s : State) : State :=
  if s.pair.ownLoop.faulty then (if s.pair.claimReq && s.paired then setShutOut true s else s)
  else if s.pair.shutWait then s else setShutOut false s

/-- SLUICE_LOOP_FAULT (R80, R440, R443): the loop of SLUICE_OWN, or with `shut` that of SLUICE_SHUT_OUT, carries `mA`. -/
def execSluiceLoopFault (t : Nat) (shut : Bool) (mA : Rat) (s : State) : Res :=
  let s1 := s.begin t
  if !(s1.alive && s1.nd.pairBase) then .next s1
  else
    let x := if shut then s1.pair.shutLoop.judge s1.pair.shutOut mA else s1.pair.ownLoop.judge s1.pair.own mA
    let s2 := s1.modPair fun p => if shut then { p with shutLoop := x } else { p with ownLoop := x }
    let s3 := if x.faulty then setPairFault (if shut then 4 else 3) true s2 else s2
    .next (if shut then s3 else followOwnLoop s3)

/-- HANDOVER_CLAIM (R457): 50 µs after the first boundary that follows the HANDOVER heartbeat. -/
def execHandoverClaim (t : Nat) (s : State) : Res :=
  let s1 := s.begin t
  match s1.pair.offered with
  | none => .next s1
  | some o =>
    .next (if s1.alive && s1.paired && s1.eligible && decide (s1.peerMode = 3) && decide (o / 1000 < s1.node / 1000) &&
        decide (50 ≤ s1.node % 1000) then claimDuty 4 0 false s1 else s1)

/-- HANDOVER_TIMEOUT (R457): no claim within 10 ms. -/
def execHandoverTimeout (t : Nat) (s : State) : Res :=
  let s1 := s.begin t
  match s1.host.afterHandover with
  | none => .next s1
  | some (tk, limit, _) =>
    if s1.alive && s1.onDuty && decide (limit ≤ s1.now) then
      let s2 := s1.modPair fun p => { p with handover := none }
      .next (reply tk stState [] { s2 with host := { s2.host with afterHandover := none } })
    else .next s1

/-- RESYNC step 2 (Table 15.10): the live bank, epoch and reference of the duty unit; a bank it does not need and staged changes
go. -/
def takeBank (m : ResyncMsg) (s : State) : State :=
  let k := match s.live with | some (k, _) => k | none => 0
  let recs := m.records.foldl (fun c x => tput x.1 x.2 c) []
  let s1 := s.modBank k fun _ => ⟨true, true, 1, m.gen, m.epoch, recs, m.tCommit⟩
  let s2 := s1.modBank (1 - k) fun b => if b.sound && b.committed && decide (b.gen < m.gen) then b else Bank.blank
  let s3 := checkLive { s2 with
    cfg := { s2.cfg with staged := [], stageOwner := none, commit := none, ahead := [], liveEpoch := m.epoch }
    pair := { s2.pair with refConfig := m.refConfig, refImage := m.refImage } }
  let target := s3.baseCfg
  applyRest target (applyPhase ((cfgDiff s3.cfg.inForce target).filter fun c => (objKey c.1).isSome) s3)

/-- RESYNC step 3: node time taken from the duty unit. -/
def takeTime (m : ResyncMsg) (s : State) : State :=
  let s1 := stepBy ((m.nodeNs / 1000 : Nat) - (s.node : Int)) s
  s1.modClk fun c => { c with slew := (m.nodeNs % 1000 : Nat), step := none }

/-- A point as the duty unit holds it (RESYNC step 4). -/
def takePoint (c : PtFull) (s : State) : State :=
  s.modPt c.p fun r => { r with
    state := AlState.ofCode c.state, suppress := c.suppress, shelveLeft := c.shelveLeft, inhibited := c.inhibited,
    blocked := c.blocked, active := c.active, cond := c.cond, timing := c.timing, delay := c.delay, raiseSeq := c.raiseSeq,
    raises := c.raises }

/-- Supervision of a channel as the duty unit holds it (RESYNC step 4). -/
def takeBaseline (c : SupFull) (s : State) : State :=
  s.modSup c.n fun u => { u with
    status := c.status % 2048, noBase := hasBit c.status 11, baseLL := c.baseLL, baseIns := c.baseIns, baseCap := c.baseCap,
    baseCount := c.baseCount, tCheck := c.tCheck, baseItems := c.items.map item, window := c.window.map item }
where
  /-- A check's figures as the message gives them. -/
  item (w : Nat × BitVec 32 × BitVec 32 × BitVec 32) : TrendItem := ⟨w.1, w.2.1, w.2.2.1, w.2.2.2⟩

/-- RESYNC step 4. -/
def takeStates (m : ResyncMsg) (s : State) : State :=
  let s1 := m.points.foldl (fun s c => takeEntry ⟨c.p, c.state, c.suppress, c.active⟩ (takePoint c s)) s
  let s2 := takePartC ⟨0, [], m.lanes⟩ s1
  let s3 := m.sups.foldl (fun s c => takeBaseline c s) (takeBell m.bell s2)
  let s4 := m.harts.foldl (fun s c => takeHart s.now c s) s3
  m.counts.foldl (fun s x => s.modDio x.1 fun d => { d with count := x.2, captured := x.2 }) s4

/-- The record stays when the tail is taken: it is not later than the last that equals the peer's. -/
def keepsRec (keepTo : Option Nat) (r : GrnRec) : Bool :=
  match keepTo with | some k => !seqBefore k r.seq | none => false

/-- RESYNC step 5: the Granary tail of the duty unit in place of the unit's own later records. A page whose commit pass waits is left
behind, and the next sector opened. -/
def takeTail (m : ResyncMsg) (s : State) : State :=
  let own := s.grn.all
  let g := if s.grn.carry = 0 then s.grn
    else { s.grn.openSector ((s.grn.sector + 1) % 768) s.grn.nextSeq s.node s.now with bodies := 0, carry := 0 }
  let gone := (own.filter fun r => !keepsRec m.keepTo r).length
  let tail : List GrnRec := m.tail.map fun r => ⟨r.code, r.seq, r.time, r.payload⟩
  let next := match tail.getLast? with
    | some r => wrap32 (r.seq + 1)
    | none => match m.keepTo with | some k => wrap32 (k + 1) | none => g.nextSeq
  let g1 := { g with
    sectors := tmap Sector.initial (fun _ x => { x with records := x.records.filter (keepsRec m.keepTo) }) g.sectors
    staged := (g.staged.filter fun x => keepsRec m.keepTo x.2) ++ tail.map fun r => (s.now, r)
    nextSeq := next }
  let s1 : State := { s with grn := g1, clk := { s.clk with nextSeq := next, seqIntact := true } }
  let bytes := tail.foldl (fun a r => a + recLen r.payload) 0
  writeStaging (s1.modPair fun p => { p with tailBytes := wrap32 bytes, tailDiscarded := gone })

/-- Every channel's filter holds three output periods of raw samples (RESYNC step 6). -/
def State.filtersFull (s : State) : Bool :=
  match s.pair.partsFrom with
  | none => false
  | some a => allChans.all fun n => !(s.subFn n).converts || decide (a + 3 * periodOf (s.rate n) ≤ s.node)

/-- The work of RESYNC step k, none where its check does not hold yet (Table 15.10); step 5, which changes the store, waits until the
drain may program (R373; log 261). -/
def resyncWork (m : ResyncMsg) (s : State) : Option State :=
  match s.pair.step with
  | 1 => if laneOld s.pair.hbPairAt s.now || laneOld s.pair.hbPktAt s.now then none else some s
  | 2 =>
    let s1 := takeBank m s
    if some s1.liveCrc = s.pair.hb.map (·.configCrc) then some s1 else none
  | 3 => some (takeTime m s)
  | 4 => some (takeStates m s)
  | 5 => if s.drains then some (takeTail m s) else none
  | 6 => if s.filtersFull then some s else none
  | _ => if s.cal.isSome then some s else none

/-- A RESYNC step done (R459): its record, and STANDBY after the last. -/
def resyncStep (m : ResyncMsg) (s : State) : State :=
  let k := s.pair.step
  match resyncWork m s with
  | none => if k = 7 then setPairFault 12 true s else s
  | some s1 =>
    if k < 7 then (resyncRecord k 2 s1).modPair fun p => { p with step := k + 1 }
    else setMode .standby 0 ((resyncRecord 7 3 s1).modPair fun p => { p with step := 0 })

/-- RESYNC_STEP (R459). -/
def execResyncStep (t : Nat) (m : ResyncMsg) (s : State) : Res :=
  let s1 := s.begin t
  .next (if s1.alive && s1.paired && decide (s1.nd.mode = .resync) && decide (s1.peerMode = 3) then resyncStep m s1 else s1)

/-- PAIR_RECORD_RX (R446): the duty unit takes a record of the standby's into its intake; the standby stores a record that the duty
unit has numbered. -/
def execPairRecordRx (t : Nat) (r : RecCopy) (s : State) : Res :=
  let s1 := s.begin t
  if !(s1.alive && s1.paired) then .next s1
  else
    let sub : Submission := ⟨r.code, r.time, r.payload⟩
    if s1.executes then .next ((intakeRec sub s1).getD s1)
    else if !s1.stageRoom sub then .next s1
    else .next (breakFreeze (stageRec ⟨r.code, r.seq, r.time, r.payload⟩ s1))

/-- What this unit is to its peer (Table 15.14 ROLE). -/
def State.role (s : State) : Role :=
  if !s.paired then .solo
  else if s.onDuty then .duty
  else match s.baseMode with | .standby => .standby | .resync => .resync | _ => .none

/-- The PAIR_STATUS reply (Table 15.14). -/
def pairStatusBytes (s : State) : List Byte :=
  let p := s.pair
  le 1 s.role.code ++ le 1 s.peerMode ++ le 2 p.faults ++ le 1 p.named ++ le 1 p.step ++ le 1 (bit s.eligible) ++ le 1 0 ++
    le 4 s.liveCrc ++ le 4 s.imageCrc ++ le 4 p.refConfig ++ le 4 p.refImage ++ le 8 p.tSwitch ++ le 4 p.switches ++ le 2 p.first ++
    le 2 0 ++ le 4 p.hbMissed ++ le 4 p.gapNs

/-- PAIR_STATUS (R463). -/
def execPairStatus (rq : Request) (s : State) : Res := answerNow 0x1501 rq (plainRead pairStatusBytes) s

/-- PAIR_CLEAR's own part. -/
def pairClearBody (_tk : Ticket) (pl : List Byte) (s : State) : Nat × List Byte × State :=
  if pl.length ≠ 1 then (stParam, [], s)
  else if !hasBit (byteAt pl 0) 0 then (stState, [], s)
  else
    let s1 := pairClear s
    (stDone, le 2 s1.pair.faults, s1)

/-- PAIR_CLEAR (R463). -/
def execPairClear (rq : Request) (s : State) : Res := answerNow 0x1502 rq pairClearBody s

/-- PAIR_ADOPT's own part (R455, R463): the reference takes the duty unit's present values in both units. -/
def pairAdoptBody (_tk : Ticket) (pl : List Byte) (s : State) : Nat × List Byte × State :=
  if pl.length ≠ 1 then (stParam, [], s)
  else if !hasBit (byteAt pl 0) 0 || s.peerMode ≠ 4 then (stState, [], s)
  else
    let s1 := setRefs s.liveCrc s.imageCrc s
    (stDone, le 4 s1.pair.refConfig ++ le 4 s1.pair.refImage, s1)

/-- PAIR_ADOPT (R455). -/
def execPairAdopt (rq : Request) (s : State) : Res := answerNow 0x1503 rq pairAdoptBody s

/-- PEER_PRES_OPEN (R74, R441): the other position is emptied. -/
def execPeerPresOpen (t : Nat) (s : State) : Res :=
  let s1 := s.begin t
  .next (if s1.alive then setPeerPres false s1 else s1)

end Sys2Proof.Machine
end

