-- ==== Sys2Proof/Machine/Sessions.lean ====
section
/-! DEFINITION. Sessions, identification, register windows and what reaches the node by SVC and from the peer (R469 to R489,
R497). -/

namespace Sys2Proof.Machine

/-- KEY, RIGHTS and PORTS of key slot k (R475); the delivery key stands in slot 0 while the live configuration is empty or
invalid. -/
def State.keySlot (s : State) (k : Nat) : List Byte × Nat × Nat :=
  let base := 0x16010000 + 16 * k
  if k = 0 && s.configInvalid then (Config.deliveryKey, 4, 3)
  else ((List.range 8).flatMap fun i => le 4 (s.param (base + i)), s.param (base + 8), s.param (base + 9))

/-- The session number that SESS_OPEN takes (R477): the lowest free, else the least recently used unproven session, which is
displaced. -/
def State.sessionPlace (s : State) : Option (Nat × Bool) :=
  match (List.range 8).find? fun k => decide ((s.sess k).state = .free) with
  | some k => some (k, false)
  | none =>
    (List.range 8).foldl (fun best k =>
      if (s.sess k).state ≠ .openUnproven then best
      else match best with
        | some (j, _) => if (s.sess k).lastValid < (s.sess j).lastValid then some (k, true) else best
        | none => some (k, true)) none

/-- The session key (R477 step 4). -/
def sessionKey (key host node : List Byte) (k addr : Nat) : List Byte := hmac key (host ++ node ++ le 1 k ++ le 2 addr)

/-- A session opened on number k, and its reply. -/
def openSession (tk : Ticket) (slot k rights : Nat) (key host : List Byte) (s : State) : State :=
  let (d, s1) := s.draw
  let nonce := fit 16 (Config.freeBytes d)
  let sk := sessionKey key host nonce k s1.ponor.nodeAddr
  let s2 := s1.modSess k fun _ =>
    { Session.closed with state := .openUnproven, keySlot := slot, rights := rights, link := { tk.link with viaPeer := false },
                          high := tk.sequence, lastValid := s1.now, key := sk, notifyHold := 100 }
  let s3 := passTable (sessionRecord k 1 (s2.sess k) s2)
  answer { tk with session := k } stDone
    (le 1 k ++ le 1 rights ++ le 2 0 ++ nonce ++ (hmac sk host).take 16) s3

/-- SESS_OPEN's own part (R477). -/
def sessOpenBody (_cls : Rights) (tk : Ticket) (pl : List Byte) (s : State) : State :=
  let slot := byteAt pl 0
  if pl.length ≠ 36 || 8 ≤ slot then answer tk stParam [] s
  else
    let (key, rights, ports) := s.keySlot slot
    if rights = 0 || !hasBit ports (bit tk.link.svc) then answer tk stRights [] (commandRecord tk stRights s)
    else match s.sessionPlace with
      | none => answer tk stSessionsFull [] s
      | some (k, displaced) =>
        openSession tk slot k rights key (slice pl 4 16) (if displaced then endSession 5 k s else s)

/-- SESS_OPEN. -/
def execSessOpen (rq : Request) (s : State) : Res := .next (runPacket 0x1601 rq sessOpenBody s)

/-- SESS_CLOSE's own part (R497): answered, then the session ends. -/
def sessCloseBody (cls : Rights) (tk : Ticket) (pl : List Byte) (s : State) : State :=
  if !pl.isEmpty then finish cls tk stParam [] s else endSession 3 tk.session (finish cls tk stDone [] s)

/-- SESS_CLOSE. -/
def execSessClose (rq : Request) (s : State) : Res := .next (runPacket 0x1602 rq sessCloseBody s)

/-- A session entry (Table 16.15). -/
def sessBytes (now : Micros) (ss : Session) : List Byte :=
  if ss.state = .free then zeros 16
  else
    let st := if ss.state = .proven then 2 else 1
    let waiting := (ss.marks.filter fun m => decide (m.2 = SeqMark.outstanding)).length
    le 1 st ++ le 1 ss.keySlot ++ le 1 ss.rights ++ le 1 (bit ss.link.svc) ++ le 4 ss.link.src ++ le 4 ss.high ++
      le 1 (min 255 waiting) ++ le 1 0 ++ le 2 (min 65535 ((now - ss.lastValid) / 1000000))

/-- SESS_STATUS (R497). -/
def execSessStatus (rq : Request) (s : State) : Res :=
  answerNow 0x1603 rq (plainRead fun s => (List.range 8).flatMap fun k => sessBytes s.now (s.sess k)) s

/-- The position byte of NODE_IDENT. -/
def State.position (s : State) : Nat := if !s.nd.pairBase then 0 else if s.nd.posB then 2 else 1

/-- The NODE_IDENT reply (Table 16.12). -/
def identBytes (s : State) : List Byte :=
  let f := s.fwSlot s.cfg.running
  le 2 s.ponor.nodeAddr ++ le 1 s.nd.mode.code ++ le 1 s.position ++ le 6 Config.unitAddress ++
    le 1 (match s.nd.part with | .m => 1 | .mt => 2) ++ le 1 Config.hwIssue ++ le 1 f.major ++ le 1 f.minor ++ le 2 f.patch ++
    fit 16 Config.serial

/-- NODE_IDENT (R497). -/
def execNodeIdent (rq : Request) (s : State) : Res := answerNow 0x1604 rq (plainRead identBytes) s

/-- What a byte of a register window is (R489). -/
inductive FieldKind where
  | ro | reserved | rw | wo
  deriving DecidableEq, Repr

/-- The fields of the clock window (Table 13.1): offset, bytes, kind. STATUS counts as one field, since SOURCE spans its bytes. -/
def clockFields : List (Nat × Nat × FieldKind) :=
  [(0x00, 1, .ro), (0x01, 1, .reserved), (0x02, 2, .ro), (0x04, 1, .ro), (0x05, 1, .ro), (0x06, 1, .ro), (0x07, 1, .ro),
   (0x08, 1, .ro), (0x09, 1, .ro), (0x0A, 2, .reserved), (0x0C, 4, .ro), (0x10, 8, .ro), (0x18, 2, .ro), (0x1A, 1, .reserved),
   (0x1B, 1, .ro), (0x1C, 4, .reserved)] ++
  [(0x20, 2, .rw), (0x22, 1, .rw), (0x23, 1, .rw), (0x24, 1, .rw), (0x25, 1, .rw), (0x26, 1, .rw), (0x27, 1, .reserved),
   (0x28, 4, .rw), (0x2C, 4, .reserved), (0x30, 8, .rw), (0x38, 1, .wo), (0x39, 1, .ro), (0x3A, 1, .ro), (0x3B, 5, .reserved)]

/-- The fields that a range touches. -/
def fieldsIn (off len : Nat) : List (Nat × Nat × FieldKind) :=
  clockFields.filter fun f => decide (f.1 < off + len) && decide (off < f.1 + f.2.1)

/-- The range covers whole fields. -/
def wholeFields (off len : Nat) : Bool :=
  (fieldsIn off len).all fun f => decide (off ≤ f.1) && decide (f.1 + f.2.1 ≤ off + len)

/-- The range lies in register window 0x0013 (Table 16.7). -/
def inWindow (window off len : Nat) : Bool := window == 0x0013 && decide (off + len ≤ 64)

/-- MEM_PEEK's own part (R476, R488, R489). -/
def memPeekBody (tk : Ticket) (pl : List Byte) (s : State) : Nat × List Byte × State :=
  let off := fieldAt pl 2 2
  let len := fieldAt pl 4 2
  let top := if hasBit tk.flags flagAuth then 984 else 1016
  if pl.length ≠ 8 || len = 0 || top < len || !inWindow (fieldAt pl 0 2) off len then (stParam, [], s)
  else
    let (bs, s1) := clkRead tk.session off len s
    (stDone, pl.take 8 ++ bs, s1)

/-- MEM_PEEK. -/
def execMemPeek (rq : Request) (s : State) : Res := answerNow 0x1610 rq memPeekBody s

/-- The fields of a MEM_POKE written in ascending offset, with the status and the end of what was written (R489). -/
def pokeFields (k off : Nat) (data : List Byte) : List (Nat × Nat × FieldKind) → State → Nat × Nat × State
  | [], s => (stDone, off + data.length, s)
  | (o, n, kind) :: fs, s =>
    match kind with
    | .rw => pokeFields k off data fs (stageWrite k o (slice data (o - off) n) s)
    | .wo =>
      let (st, s1) := ctrlWrite k (byteAt data (o - off)) s
      if st = stDone then pokeFields k off data fs s1 else (st, o, s1)
    | _ => pokeFields k off data fs s

/-- MEM_POKE's own part (R489). -/
def memPokeBody (tk : Ticket) (pl : List Byte) (s : State) : Nat × List Byte × State :=
  let off := fieldAt pl 2 2
  let len := fieldAt pl 4 2
  if pl.length ≠ 8 + len || len = 0 || 984 < len || !inWindow (fieldAt pl 0 2) off len || !wholeFields off len then
    (stParam, [], s)
  else
    let fs := fieldsIn off len
    let (st, done, s1) := pokeFields tk.session off (pl.drop 8) fs s
    let ro := fs.any fun f => decide (f.2.2 = .ro)
    (if st = stDone && ro then stReadOnly else st, pl.take 4 ++ le 2 (done - off) ++ slice pl 6 2, s1)

/-- MEM_POKE. -/
def execMemPoke (rq : Request) (s : State) : Res := answerNow 0x1611 rq memPokeBody s

/-- SESSION_IDLE_EXPIRE (R479): no valid packet for SESSION_IDLE, in the unit that holds the session table. -/
def execSessionIdleExpire (t : Nat) (k : Fin 8) (s : State) : Res :=
  let s1 := s.begin t
  let ss := s1.sess k.val
  .next (if s1.alive && (!s1.paired || s1.executes) && decide (ss.state ≠ .free) &&
      decide (ss.lastValid + 1000000 * s1.param 0x16000001 ≤ s1.now) then endSession 4 k.val s1 else s1)

/-- A session as the peer's copy gives it: its own marks of unit requests stay, and the later H. -/
def takeCopy (now : Micros) (c : SessCopy) (old : Session) : Session :=
  let marks := c.marks.map fun m => (m.1, match m.2 with | none => SeqMark.outstanding | some (st, pl) => .complete st pl)
  let same := decide (old.state ≠ .free) && old.key == c.key
  let own := if same then old.marks.filter fun m => !(c.marks.any fun x => x.1 == m.1) else []
  let ahead := same && decide (0 < seqDiff old.high c.high) && decide (seqDiff old.high c.high < 2147483648)
  let high := if ahead then old.high else c.high
  { Session.closed with
    state := if c.proven then .proven else .openUnproven, keySlot := c.keySlot, rights := c.rights, link := c.link, high := high,
    marks := (own ++ marks).filter fun m => decide (seqDiff high m.1 < 64), lastValid := if same then old.lastValid else now,
    key := c.key, notifySeq := c.notifySeq, sub := c.sub, hold := c.hold, notifyHold := c.notifyHold }

/-- SESSION_TABLE_RX (R484): the table of the duty unit replaces this unit's copy; transfers of a session that is gone end. -/
def execSessionTableRx (t : Nat) (tab : List SessCopy) (s : State) : Res :=
  let s1 := s.begin t
  if !(s1.alive && s1.paired) || s1.onDuty then .next s1
  else
    .next ((List.range 8).foldl (fun s k =>
      match tab.find? fun c => c.k.val == k with
      | some c => s.modSess k (takeCopy s.now c)
      | none => dropSession k s) s1)

/-- PEER_REPLY_RX (R471, R472): the peer's reply to a request that this unit passed on goes out by the transport that brought the
request; a reply to nothing is discarded. -/
def execPeerReplyRx (t : Nat) (op : Nat) (r : Request) (s : State) : Res :=
  let s1 := s.begin t
  if !(s1.alive && s1.paired) then .next s1
  else
    let fits (x : Ticket) : Bool :=
      x.opcode == op && x.session == (if op = 0x1601 then x.session else r.session) && x.retry == r.retry && x.sequence == r.sequence
    match s1.host.passed.find? fits with
    | some x =>
      if hasBit r.flags flagReply then
        let s2 : State := { s1 with host := { s1.host with passed := removeFirst fits s1.host.passed } }
        .next (send { reqPacket r op with link := x.link } s2)
      else .next (discard s1)
    | none => .next (discard s1)

/-- The node's IPv4 address on SVC (Table 17.14). -/
def State.svcAddress (s : State) : Nat := s.param (if s.atB then 0x17000011 else 0x17000010)

/-- A UDP datagram to UDP_PORT (R469). -/
def takeDatagram (src port dest : Nat) (sound : Bool) (bs : List Byte) (s : State) : State :=
  if 64 ≤ s.host.svcQueue.length then
    ({ s with host := { s.host with svcDropped := s.host.svcDropped + 1 } } : State).count 11 1
  else
    let q := if sound then parsePacket ⟨true, false, 0, src, port⟩ bs else none
    match q with
    | none => discard s
    | some q =>
      if dest ≠ s.svcAddress && q.opcode ≠ 0x1604 then discard s
      else { s with host := { s.host with svcQueue := s.host.svcQueue ++ [q] } }

/-- The IPv4 limited broadcast address, and the directed one of the node's network. -/
def State.svcBroadcast (s : State) (dest : Nat) : Bool :=
  dest == 0xFFFFFFFF || dest == (s.svcAddress ||| (0xFFFFFFFF ^^^ s.param 0x17000012))

/-- SVC_DATAGRAM (R94, R469): ARP and ICMP echo to the node's address are answered; one whole packet waits for the management
plane. NODE_IDENT alone is taken from the limited broadcast. -/
def execSvcDatagram (t : Nat) (d : Datagram) (s : State) : Res :=
  let s1 := s.begin t
  if !s1.alive then .next s1
  else
    match d with
    | .arp a => .next (if a = s1.svcAddress && !s1.nd.mgmtStalled then s1.emit (.arp a) else s1)
    | .echo a bs => .next (if a = s1.svcAddress && !s1.nd.mgmtStalled then s1.emit (.echo bs) else s1)
    | .udp src port dest destPort sound bs =>
      if dest = s1.svcAddress || dest = 0xFFFFFFFF then
        .next (if destPort = s1.param 0x16000002 then takeDatagram src port dest sound bs s1 else discard s1)
      else if s1.svcBroadcast dest then .next (discard s1)
      else .next s1
    | .other => .next s1

end Sys2Proof.Machine
end

