-- ==== Sys2Proof/Machine/Configure.lean ====
section
/-! DEFINITION. Configuration commands (R501 to R514, R525, Tables 17.11, 17.13) and CAL_STATUS (R516). -/

namespace Sys2Proof.Machine

/-- A change record as staging keeps it. -/
def SentRecord.change (r : SentRecord) : Change := (r.pid, if hasBit r.flags 0 then none else some r.value)

/-- A sent record taken alone (R501, R503): its form, then what staging asks of it. -/
def sentError (s : State) (r : SentRecord) : Option Nat :=
  let bare := hasBit r.flags 0
  if (pfield r.pid).isNone || 1 < r.flags || r.len ≠ (if bare then 0 else plen r.pid) then some stParam
  else recordError s r.change

/-- The first record with which staging would hold more than 1 MiB (R502). -/
def firstOver (st : List Change) : List Change → Nat → Option Nat
  | [], _ => none
  | ch :: r, i =>
    let st' := stageOne st (normal ch)
    if stageMax < changesSize st' then some i else firstOver st' r (i + 1)

/-- The CFG_WRITE reply (Table 17.13). -/
def writeReply (count index : Nat) (s : State) : List Byte :=
  le 1 count ++ le 1 index ++ le 2 0 ++ le 4 (changesSize s.cfg.staged)

/-- CFG_WRITE's own part (R502, R503): the records in order, all or none. Another session's staging is named by no record. -/
def cfgWriteBody (tk : Ticket) (pl : List Byte) (s : State) : Nat × List Byte × State :=
  let (recs, whole) := parseChanges pl.length pl
  let owned := match s.cfg.stageOwner with | some o => o != tk.session | none => false
  if owned then (stState, writeReply 0 255 s, s)
  else
    match firstIdx (fun r => (sentError s r).isSome) recs with
    | some i => ((recs[i]?.bind (sentError s)).getD stParam, writeReply 0 i s, s)
    | none =>
      if !whole then (stParam, writeReply 0 recs.length s, s)
      else if recs.isEmpty then (stDone, writeReply 0 255 s, s)
      else
        let chs := recs.map SentRecord.change
        match stageTry tk.session chs s with
        | .error e =>
          (e.status, writeReply 0 (if e.status = stResource then (firstOver s.cfg.staged chs 0).getD 255 else e.index) s, s)
        | .ok st =>
          let s1 := stageSet tk.session st s
          (stDone, writeReply recs.length 255 s1, s1)

/-- CFG_WRITE. -/
def execCfgWrite (rq : Request) (s : State) : Res := answerNow 0x1701 rq cfgWriteBody s

/-- Whole records, up to `room` bytes. -/
def takeRecords (room : Nat) : List (Nat × Nat) → List Byte
  | [] => []
  | (p, v) :: r =>
    let bs := readBytes p v
    if room < bs.length then [] else bs ++ takeRecords (room - bs.length) r

/-- The records of a BANK (R502, R525), none where BANK names none. -/
def State.bankRecords (s : State) (b : Nat) : Option Cfg :=
  match b with
  | 0 => some s.liveCfg
  | 1 => some s.stagedCfg
  | 2 => s.prev.map (·.records)
  | _ => none

/-- CFG_READ's own part (R525). -/
def cfgReadBody (tk : Ticket) (pl : List Byte) (s : State) : Nat × List Byte × State :=
  if pl.length ≠ 5 || 2 < byteAt pl 4 then (stParam, [], s)
  else
    match s.bankRecords (byteAt pl 4) with
    | none => (stState, [], s)
    | some c =>
      (stDone, takeRecords (if hasBit tk.flags flagAuth then 992 else 1024) (c.filter fun x => decide (fieldAt pl 0 4 ≤ x.1)), s)

/-- CFG_READ. -/
def execCfgRead (rq : Request) (s : State) : Res := answerNow 0x1702 rq cfgReadBody s

/-- CFG_COMMIT's own part (R507): the session's own staging. -/
def cfgCommitBody (cls : Rights) (tk : Ticket) (pl : List Byte) (s : State) : State :=
  if !pl.isEmpty then finish cls tk stParam [] s
  else if s.cfg.staged.isEmpty || decide (s.cfg.stageOwner ≠ some tk.session) || !s.mayCommit then finish cls tk stState [] s
  else startCommit cls tk false s.cfg.staged s.stagedCfg s

/-- CFG_COMMIT. -/
def execCfgCommit (rq : Request) (s : State) : Res := .next (runPacket 0x1703 rq cfgCommitBody s)

/-- CFG_DISCARD's own part (R502). -/
def cfgDiscardBody (tk : Ticket) (pl : List Byte) (s : State) : Nat × List Byte × State :=
  if !pl.isEmpty then (stParam, [], s)
  else
    match s.cfg.stageOwner with
    | none => (stDone, [], s)
    | some o => if o = tk.session then (stDone, [], endStaging tk.session s) else (stState, [], s)

/-- CFG_DISCARD. -/
def execCfgDiscard (rq : Request) (s : State) : Res := answerNow 0x1704 rq cfgDiscardBody s

/-- The CFG_STATUS reply (Table 17.11). -/
def cfgStatusBytes (s : State) : List Byte :=
  let tCommit := match s.live with | some (_, b) => b.tCommit | none => 0
  le 4 s.cfg.liveEpoch ++ le 4 s.liveCrc ++ le 1 (match s.live with | some (k, _) => k | none => 255) ++
    le 1 (s.cfg.stageOwner.getD 255) ++ le 1 (match s.cfg.commit with | some c => c.step | none => 0) ++ le 1 s.invalidByte ++
    le 4 (changesSize s.cfg.staged) ++ le 2 s.cfg.phases ++ le 2 s.cfg.phaseDone ++
    le 4 (match s.prev with | some b => b.epoch | none => 0) ++ le 8 tCommit ++ le 2 s.cfg.freezeMs ++ le 1 s.nd.slot ++
    le 1 s.expectSlot

/-- CFG_STATUS. -/
def execCfgStatus (rq : Request) (s : State) : Res := answerNow 0x1705 rq (plainRead cfgStatusBytes) s

/-- What a revert takes the live bank to hold (R514): nothing where it is invalid. -/
def State.revertBase (s : State) : Cfg := if s.configInvalid then [] else s.liveCfg

/-- CFG_REVERT's own part (R514): the difference to the previous bank, staged and committed. -/
def cfgRevertBody (cls : Rights) (tk : Ticket) (pl : List Byte) (s : State) : State :=
  if pl.length ≠ 1 then finish cls tk stParam [] s
  else
    match s.prev with
    | none => finish cls tk stState [] s
    | some b =>
      let chs := cfgDiff s.revertBase b.records
      if !hasBit (byteAt pl 0) 0 || !s.cfg.staged.isEmpty || chs.isEmpty || !s.mayCommit then finish cls tk stState [] s
      else startCommit cls tk true chs b.records (stageSet tk.session chs s)

/-- CFG_REVERT. -/
def execCfgRevert (rq : Request) (s : State) : Res := .next (runPacket 0x1706 rq cfgRevertBody s)

/-- The calibration header (Table 17.8). -/
def CalCopy.header (c : CalCopy) : List Byte :=
  le 4 0x4C414343 ++ le 2 1 ++ le 1 c.source ++ le 1 0 ++ fit 16 Config.serial ++ le 4 c.overwrites ++ le 4 0 ++
    le 8 c.tFactory ++ le 8 c.tWritten ++ zeros 16

/-- CAL_STATUS's own part (R516, Table 17.13). With no valid set there is no header in use: free bytes. -/
def calStatusBody (_tk : Ticket) (pl : List Byte) (s : State) : Nat × List Byte × State :=
  if !pl.isEmpty then (stParam, [], s)
  else
    let valid := le 1 (bitsOf [s.cfg.cal0.isSome, s.cfg.cal1.isSome])
    match s.cal with
    | some c => (stDone, c.header ++ valid, s)
    | none => let (k, s1) := s.draw; (stDone, fit 64 (Config.freeBytes k) ++ valid, s1)

/-- CAL_STATUS. -/
def execCalStatus (rq : Request) (s : State) : Res := answerNow 0x1710 rq calStatusBody s

end Sys2Proof.Machine
end

