-- ==== Sys2Proof/Machine/Toll.lean ====
section
/-! DEFINITION. The Toll partition: parameter sets, points, sealing, its commands and its own events (chapter 18). -/

namespace Sys2Proof.Machine

/-- The parameter of field i of Toll point p (Table 18.4). -/
def tollPid (p i : Nat) : Nat := 0x18100000 + 128 * p + i

/-- The fields of a Toll point (Table 18.4). -/
def tollField (i : Nat) : Option PField :=
  match i with
  | 0 => u32 0 (.range 0 3 [])
  | 1 => u32 0 (.range 0 63 [])
  | 2 => u32 0xFFFF (.range 0 63 [0xFFFF])
  | 3 => u32 0 (.range 0 15 [])
  | 4 => u32 0 (.range 0 15 [])
  | 5 => u32 (f32n 1) (.real (f32Round (1 / 10000)) 100)
  | 6 => u32 (f32n (85 / 100)) (.real (f32Round (6 / 10)) (f32Round (11 / 10)))
  | 7 => u32 (f32n (8 / 10000)) (.real 0 (f32Round (2 / 1000)))
  | 8 => u32 2 (.range 2 32 [])
  | _ => if 16 ≤ i && i < 80 then u32 0 .finite else none

/-- Field i of point p in a Toll parameter set. -/
def tollGet (c : Cfg) (p i : Nat) : Nat := (tfind c (tollPid p i)).getD (((tollField i).map (·.dflt)).getD 0)

/-- The real number in field i of point p in a Toll parameter set. -/
def tollReal (c : Cfg) (p i : Nat) : Rat := f32Val (BitVec.ofNat 32 (tollGet c p i))

/-- The strapping table of a TANK point: levels, mm, and volumes, L. -/
def strapping (c : Cfg) (p : Nat) : List (Rat × Rat) :=
  (List.range (tollGet c p 8)).map fun i => (tollReal c p (16 + 2 * i), tollReal c p (17 + 2 * i))

/-- The volume at a level (R534), none outside the table. -/
def tankVolume : List (Rat × Rat) → Rat → Option Rat
  | (l0, v0) :: (l1, v1) :: r, x =>
    if x < l0 then none
    else if x ≤ l1 then some (if l0 = l1 then v0 else v0 + (v1 - v0) * (x - l0) / (l1 - l0))
    else tankVolume ((l1, v1) :: r) x
  | _, _ => none

/-- The first 4 bytes of SHA-256 over an element (R528), as the checksum is written; nothing held is no byte. -/
def tollSum (bs : List Byte) : Nat := ofLe ((sha256 bs).take 4).reverse

/-- The blocks of the calibration set that the seal covers (Table 18.2). -/
def tollBlocks (c : CalCopy) : List Byte :=
  ((List.range 3584).flatMap fun j => w32Bytes (c.wordImage (64 + 4 * j))) ++
    (List.range 32).flatMap fun j => w32Bytes (c.wordImage (114752 + 4 * j))

/-- The words of a calibration set that lie in these blocks. -/
def tollWords (c : CalCopy) : Tbl Word32 :=
  c.words.filter fun x => decide (x.1 < 64 + 14336) || (decide (114752 ≤ x.1) && decide (x.1 < 114880))

/-- FW_SUM, PARAM_SUM and CAL_SUM computed afresh from the Toll store. -/
def State.tollSums (s : State) : Nat × Nat × Nat :=
  (tollSum s.toll.fw.bytes, tollSum (s.toll.set.getD []),
    tollSum (if s.toll.sealNo = 0 then [] else tollBlocks { CalCopy.factory with words := s.toll.cal }))

/-- The header of the Toll region with checksums computed afresh (Table 18.5). -/
def tollHeader (s : State) : List Byte :=
  let t := s.toll
  let (f, p, c) := s.tollSums
  le 1 t.state.code ++ le 1 (bitsOf [t.logLow, t.logFull, t.coverOpen, t.switchOpen]) ++ le 2 t.sealNo ++
    le 1 t.fw.major ++ le 1 t.fw.minor ++ le 2 t.fw.patch ++ le 4 f ++ le 4 p ++ le 4 c ++ le 4 t.log.length ++ le 8 t.tSeal

/-- TOLL_IDENT (R547). -/
def execTollIdent (rq : Request) (s : State) : Res := answerNow 0x1801 rq (plainRead tollHeader) s

/-- The Toll core runs its firmware in a part that has one (R527, R540). -/
def State.tollRuns (s : State) : Bool := decide (s.toll.state ≠ .absent) && s.toll.fwOk

/-- TOLL_READ's own part (R547). A core that runs its boot code alone has no point to give (R540). -/
def tollReadBody (_tk : Ticket) (pl : List Byte) (s : State) : Nat × List Byte × State :=
  let a := byteAt pl 0
  let n := byteAt pl 1
  if pl.length ≠ 2 || n = 0 || 16 < a + n then (stParam, [], s)
  else if !s.tollRuns then (stState, [], s)
  else (stDone, (rangeFrom a n).flatMap fun p => tollPtBytes s.toll.gen (s.tollPt p), s)

/-- TOLL_READ. -/
def execTollRead (rq : Request) (s : State) : Res := answerNow 0x1802 rq tollReadBody s

/-- TOLL_LOG_READ's own part (R543, R547). -/
def tollLogReadBody (_tk : Ticket) (pl : List Byte) (s : State) : Nat × List Byte × State :=
  let a := fieldAt pl 0 4
  let n := byteAt pl 4
  if pl.length ≠ 5 || n = 0 || 15 < n then (stParam, [], s)
  else if s.toll.state = .absent then (stState, [], s)
  else
    let es := s.toll.log.filter fun e => decide (a ≤ e.no) && decide (e.no < a + n)
    let read := es.foldl (fun r e => addSpan e.no (e.no + 1) r) s.toll.read
    (stDone, le 4 s.toll.log.length ++ le 4 0 ++ es.flatMap (·.bytes), s.modToll fun t => { t with read := read })

/-- TOLL_LOG_READ. -/
def execTollLogRead (rq : Request) (s : State) : Res := answerNow 0x1805 rq tollLogReadBody s

/-- Every entry has been returned since the last was written (R543). -/
def TollSt.allRead (t : TollSt) : Bool := t.log.isEmpty || decide (t.read = [(1, t.log.length + 1)])

/-- A Toll command of kind L with CONFIRM (R546, R547): refused, or in progress and then done. -/
def tollCommand (may : State → Bool) (act : Ticket → State → List Byte × State) (cls : Rights) (tk : Ticket) (pl : List Byte)
    (s : State) : State :=
  if pl.length ≠ 1 then finish cls tk stParam [] s
  else if !hasBit (byteAt pl 0) 0 || !may s then finish cls tk stState [] s
  else
    let (r, s1) := act tk (inProgress tk s)
    finish cls tk stDone r s1

/-- The Toll log emptied, with its CLEARED entry (R543). -/
def clearLog (tk : Ticket) (s : State) : List Byte × State :=
  let n := s.toll.log.length
  (le 4 n, tollEntry 0x000C (le 4 n ++ le 1 tk.session)
    (s.modToll fun t => { t with log := [], read := [], logLow := false, logFull := false }))

/-- TOLL_LOG_CLEAR. -/
def execTollLogClear (rq : Request) (s : State) : Res :=
  .next (runPacket 0x1806 rq (tollCommand (fun s => decide (s.toll.state = .unsealed) && s.toll.allRead) clearLog) s)

/-- A configuration keeps bays 0 and 1 free of outputs, of lane legs and of output slots (R537). -/
def sealable (c : Cfg) : Bool :=
  ((List.range 64).all fun n =>
      !(fnIn c n).output && fnIn c n != .laneOut && !hasBit (cget c (0x14030000 + 2 * n)) 31) &&
    (List.range 32).all fun l => !laneOn c l || (64 ≤ cfield c .lane l 1 && 64 ≤ cfield c .lane l 2)

/-- TOLL_SEAL may run (R531, R537). -/
def State.maySeal (s : State) : Bool :=
  decide (s.toll.state = .unsealed) && (decide (s.nd.mode = .commission) || decide (s.nd.mode = .duty)) && !s.nd.peerPres &&
    !s.toll.coverOpen && !s.toll.switchOpen && s.toll.fwOk && s.toll.set.isSome && s.cal.isSome && !s.toll.logFull &&
    sealable s.liveCfg

/-- Channel n under its new owner (R162, R538, R539): whatever ran ends, the connections are opened and made anew, and the channel
restarts at the next boundary. -/
def turnChan (old : Cfg) (modem n : Nat) (s : State) : State :=
  let s1 := applyHart n old modem (abandonCheck n s)
  let s2 :=
    if !s1.running n then s1
    else
      let s2 := restart n (nextMultiple s1.node 1000 + 200) true 250 (startFunction n s1)
      if s2.refChecks n then s2 else s2.modCh n fun r => { r with refDue := none }
  applySup n old s2

/-- Bays 0 and 1 pass to the owner that the partition's state names: its setups come into force (R533, R538, R539). -/
def turnBays (state : TollState) (s0 : State) : State :=
  let s := s0.modToll fun t => { t with state := state }
  let old := s.cfg.inForce
  let new := applyChanges old ((cfgDiff old s.baseCfg).filter fun c => tollHeld c.1)
  let modems := (List.range 64).map fun n => (n, s.modemFor new n)
  let s1 : State := { s with cfg := { s.cfg with inForce := new } }
  let s2 := modems.foldl (fun s x => turnChan old x.2 x.1 s) s1
  [0, 1].foldl (fun s b => bayFollow b s) s2

/-- Every Toll point passed through f. -/
def modPoints (f : TollPoint → TollPoint) (s : State) : State :=
  (List.range 16).foldl (fun s p => s.modTollPt p f) s

/-- TOLL_SEAL accepted (R538). The SEALED entry carries the new SEAL_NO, which the inspection of Table 18.11 expects there. -/
def sealPartition (tk : Ticket) (s : State) : List Byte × State :=
  let s1 := s.modToll fun t => { t with
    cal := match s.cal with | some c => tollWords c | none => [], sealNo := t.sealNo + 1, tSeal := s.node, results := [],
    peerSince := none }
  let (f, p, c) := s1.tollSums
  let s2 := tollEntry 0x0001 (le 4 f ++ le 4 p ++ le 4 c ++ le 1 tk.session)
    s1
  let s3 := turnBays .sealed (modPoints (fun x => { x with count := none }) s2)
  (tollHeader s3, s3)

/-- TOLL_SEAL. -/
def execTollSeal (rq : Request) (s : State) : Res := .next (runPacket 0x1803 rq (tollCommand State.maySeal sealPartition) s)

/-- TOLL_UNSEAL accepted (R539). -/
def unsealPartition (tk : Ticket) (s : State) : List Byte × State :=
  let s1 := tollEntry 0x0002 (le 1 tk.session ++ (List.range 4).flatMap fun p => leInt 8 (s.tollPt p).total) s
  let s2 := turnBays .unsealed (modPoints (fun x => { x with quality := 8 }) s1)
  (tollHeader s2, s2)

/-- TOLL_UNSEAL. -/
def execTollUnseal (rq : Request) (s : State) : Res :=
  .next (runPacket 0x1804 rq (tollCommand (fun s => s.tollOwns && s.toll.switchOpen) unsealPartition) s)

/-- DEGRADED stands in place of TOLL while BROKEN, or SEALED with LOG_FULL (R542). -/
def State.tollQuality (s : State) (q : Nat) : Nat :=
  if q = 11 && (s.toll.state = .broken || s.toll.logFull) then 7 else q

/-- The result of channel n as the Toll core forms it (R541, R542). -/
def State.tollRecord (s : State) (n : Nat) : Result :=
  let r := ({ s with field := { s.field with image := s.toll.results } } : State).inputRecord n
  { r with quality := s.tollQuality r.quality, epoch := s.toll.gen }

/-- The qualities of a faulty input (R535). -/
def faultyQuality (q : Nat) : Bool := [8, 2, 3, 6, 4, 5, 1, 10].contains q

/-- A result of the Toll core. -/
def State.tollResult (s : State) (n : Nat) : Result := tget Result.initial s.toll.results n

/-- The temperature that point p computes with (R534, R535), none without TEMP; a TEMP that never gave one leaves it free. -/
def State.tollTemp (s : State) (p : Nat) : Option Rat × State :=
  let n := tollGet s.toll.params p 2
  if n = 0xFFFF then (none, s)
  else
    let r := s.tollResult n
    if !faultyQuality r.quality then (some (f32Val r.value), s)
    else match (s.tollPt p).temp with
      | some t => (some t, s)
      | none => let (k, s1) := s.draw; (some (Config.freeRat k), s1)

/-- The quantity of a volume in mL (R534): mL without a temperature, g with one. -/
def tollQuantity (c : Cfg) (p : Nat) (ml : Rat) (temp : Option Rat) : Rat :=
  match temp with
  | none => ml
  | some t => ml * tollReal c p 6 * (1 - tollReal c p 7 * (t - 15))

/-- A quantity added to a total, with the remainder below one unit carried. -/
def carryOver (rest q : Rat) : Int × Rat := let x := rest + q; (rfloor x, x - (rfloor x : Rat))

/-- The first faulty input of point p (R535): its channel and quality. -/
def State.tollFaulty (s : State) (p : Nat) (outside : Bool) : Option (Nat × Nat) :=
  let a := tollGet s.toll.params p 1
  let b := tollGet s.toll.params p 2
  let qa := (s.tollResult a).quality
  if faultyQuality qa || outside then some (a, qa)
  else if b ≠ 0xFFFF && faultyQuality (s.tollResult b).quality then some (b, (s.tollResult b).quality)
  else none

/-- The update of a point's record (Table 18.6): SEQ, T_END, and the totals of the last 60 s. -/
def stampPoint (s : State) (q unit : Nat) (x : TollPoint) : TollPoint :=
  { x with
    quality := s.tollQuality q, unit := unit, seq := wrap16 (x.seq + 1), tEnd := s.node,
    history := (s.now, x.total) :: x.history.filter fun h => decide (s.now ≤ h.1 + 60000000) }

/-- The quality of a FLOW or TANK point (R542). -/
def State.inputsQuality (s : State) (p : Nat) : Nat :=
  let b := tollGet s.toll.params p 2
  let qa := (s.tollResult (tollGet s.toll.params p 1)).quality
  if b = 0xFFFF then qa else worse qa (s.tollResult b).quality

/-- The log entry where a point's fault begins or ends (R535). -/
def faultEntry (p : Nat) (fault : Option (Nat × Nat)) (s : State) : State :=
  let x := s.tollPt p
  match fault, x.faultNow with
  | some (n, q), false => tollEntry 0x0008 (le 1 p ++ le 2 n ++ le 1 q) s
  | none, true => tollEntry 0x0009 (le 1 p ++ leInt 8 x.faultQty) (s.modTollPt p fun x => { x with faultQty := 0 })
  | _, _ => s

/-- A FLOW point's capture (R534, R535). -/
def flowPoint (p : Nat) (s0 : State) : State :=
  let c := s0.toll.params
  let count := (s0.dio (tollGet c p 1)).captured
  let fault := s0.tollFaulty p false
  let (temp, s1) := s0.tollTemp p
  let s := faultEntry p fault s1
  let x := s.tollPt p
  let pulses := (count + 281474976710656 - x.count.getD count) % 281474976710656
  let q := tollQuantity c p ((pulses : Rat) * tollReal c p 5 * 1000) temp
  let temp' := if (s.tollResult (tollGet c p 2)).quality |> faultyQuality then x.temp else temp
  let (good, restG) := carryOver x.remainder q
  let (bad, restB) := carryOver x.remainderF q
  let x1 := if fault.isSome then
      { x with totalFault := x.totalFault + bad, remainderF := restB, faultQty := x.faultQty + bad }
    else { x with total := x.total + good, remainder := restG }
  let x2 := { x1 with count := some count, temp := temp', faultNow := fault.isSome }
  s.modTollPt p fun _ => stampPoint s (s.inputsQuality p) (if temp.isSome then 2 else 1) x2

/-- A TANK point's capture (R534, R535). The quantity of a level without a volume is free. -/
def tankPoint (p : Nat) (s0 : State) : State :=
  let c := s0.toll.params
  let r := s0.tollResult (tollGet c p 1)
  let volume := if f32Finite r.value then tankVolume (strapping c p) (f32Val r.value) else none
  let fault := s0.tollFaulty p (volume.isNone)
  let (temp, s1) := s0.tollTemp p
  let s2 := faultEntry p fault s1
  let (total, s) : Int × State :=
    match volume with
    | some v => (rfloor (tollQuantity c p (v * 1000) temp), s2)
    | none => let (k, s3) := s2.draw; (rfloor (Config.freeRat k), s3)
  let x := s.tollPt p
  let temp' := if (s.tollResult (tollGet c p 2)).quality |> faultyQuality then x.temp else temp
  s.modTollPt p fun _ => stampPoint s (s.inputsQuality p) (if temp.isSome then 2 else 1)
    { x with total := total, totalFault := 0, temp := temp', faultNow := fault.isSome }

/-- A NET point's capture (R534). -/
def netPoint (p : Nat) (s : State) : State :=
  let a := s.tollPt (tollGet s.toll.params p 3)
  let b := s.tollPt (tollGet s.toll.params p 4)
  s.modTollPt p fun x => stampPoint s (worse a.quality b.quality) a.unit
    { x with total := a.total - b.total, totalFault := a.totalFault - b.totalFault, faultNow := a.faultNow || b.faultNow }

/-- A capture of every point: FLOW and TANK before the NET points that name them. -/
def capturePoints (s : State) : State :=
  let s1 := (List.range 16).foldl (fun s p =>
    if tollGet s.toll.params p 0 = 1 then flowPoint p s else if tollGet s.toll.params p 0 = 3 then tankPoint p s else s) s
  (List.range 16).foldl (fun s p => if tollGet s.toll.params p 0 = 2 then netPoint p s else s) s1

/-- The Toll region flips (R34, R35), traced; a stall of the Toll core ends. -/
def flipToll (old : Tbl TollPoint) (s : State) : State :=
  let rec_ (x : TollPoint) : List Byte := tollPtBytes s.toll.gen x
  let changed := (List.range 16).filter fun p => rec_ (tget TollPoint.initial old p) != rec_ (s.tollPt p)
  let r := s.nd.regToll.flipAt s.node
  let s1 := traceFlip 4 r changed.length (s.modNd fun d => { d with regToll := r })
  stallEnds 3 (changed.foldl (fun s p => traceRec 0x24 (le 1 p ++ le 1 0 ++ rec_ (s.tollPt p)) s) s1)

/-- One capture of the Toll core (R530, R534, R541): counts, results and points while it owns the bays, and its region. -/
def tollCapture (s : State) : State :=
  let s1 :=
    if !s.tollOwns then s
    else
      let s2 := (List.range 64).foldl (fun s n => captureCount true n s.node s) s
      capturePoints (s2.modToll fun t => { t with results := tableOf Result.initial (List.range 64) s2.tollRecord })
  flipToll s.toll.pts s1

/-- The Toll core captures: it runs its firmware, and the logic domain is on. -/
def State.tollActs (s : State) : Bool := s.logicOn && s.tollRuns

/-- TOLL_CAPTURE (R534). -/
def execTollCapture (t : Nat) (s : State) : Res :=
  let s1 := s.begin t
  .next (if s1.tollActs then tollCapture s1 else s1)

/-- TOLL_FAULT (R535): a capture at which a point's fault begins or ends. -/
def execTollFault (t : Nat) (s : State) : Res :=
  let s1 := s.begin t
  let s2 := tollCapture s1
  let moved := (List.range 16).any fun p => (s1.tollPt p).faultNow != (s2.tollPt p).faultNow
  .next (if s1.tollActs && s1.tollOwns && moved then s2 else s1)

/-- TOLL_STALL (R41, R530, Table 1.5): the region has stood for 1,000 ms; the Toll watchdog restarts the core. -/
def execTollStall (t : Nat) (s : State) : Res :=
  let s1 := s.begin t
  if !(s1.alive && decide (s1.toll.state ≠ .absent) && !s1.nd.tollStalled &&
      decide (max s1.nd.regToll.flip s1.nd.runFrom + 1000000 ≤ s1.node)) then .next s1
  else
    let s2 := setStall 3 true s1
    .next (if s2.toll.fwOk then tollEntry 0x000B (le 1 1) s2 else s2)

/-- TOLL_CHECKPOINT (R536): every 10 s. -/
def execTollCheckpoint (t : Nat) (s : State) : Res :=
  let s1 := s.begin t
  .next (if s1.tollActs && decide (s1.toll.checkAt + 10000000 ≤ s1.clk.clock) then checkpoint s1 else s1)

/-- TOLL_SEAL_BROKEN (R532, R540): the cover contact, or the seal switch, opens or closes. The seal watch latches an opening of a
sealed partition whose core does not run. -/
def execTollSealBroken (t : Nat) (cover opened : Bool) (s : State) : Res :=
  let s1 := s.begin t
  if s1.toll.state = .absent then .next s1
  else
    let s2 := s1.modToll fun t => if cover then { t with coverOpen := opened } else { t with switchOpen := opened }
    let cause := if cover then 1 else 2
    if !opened then .next s2
    else if s2.tollActs then .next (tollBreak cause s2.clk.clock s2)
    else if s2.toll.state = .sealed then
      .next (s2.modToll fun t => { t with latched := some (t.latched.getD (s2.clk.clock, cause)) })
    else .next s2

/-- TOLL_PEER_PRESENT (R531, R540): PEER_PRES has read tied for 100 ms. -/
def execTollPeerPresent (t : Nat) (s : State) : Res :=
  let s1 := s.begin t
  match s1.toll.peerSince with
  | some f => .next (if s1.tollActs && s1.nd.peerPres && decide (f + 100000 ≤ s1.now) then tollBreak 3 0 s1 else s1)
  | none => .next s1

end Sys2Proof.Machine
end

