-- ==== Sys2Proof/Machine/Notify.lean ====
section
/-! DEFINITION. Notification settings and packets, performance counters, and the trace records that time sends (chapter 19). -/

namespace Sys2Proof.Machine

/-- A command of group 0x19, on the session that its header names (R558); the settings belong to the session table (R549). -/
def sessionCommand (k : Nat) (f : Session → Session) (s : State) : State := passTable (s.modSess k f)

/-- NTF_SUBSCRIBE's own part (R550). -/
def ntfSubscribeBody (tk : Ticket) (pl : List Byte) (s : State) : Nat × List Byte × State :=
  let hold := fieldAt pl 32 2
  let sub := fieldAt pl 0 32
  if pl.length ≠ 34 || hold < 10 || 10000 < hold then (stParam, [], s)
  else
    (stDone, pl, sessionCommand tk.session (fun ss =>
      { ss with sub := sub, notifyHold := hold, items := ss.items.filter fun i => hasBit sub i.source }) s)

/-- NTF_SUBSCRIBE. -/
def execNtfSubscribe (rq : Request) (s : State) : Res := answerNow 0x1901 rq ntfSubscribeBody s

/-- NTF_MASK's own part (R550): a pending item that comes under the hold mask has waited there. -/
def ntfMaskBody (tk : Ticket) (pl : List Byte) (s : State) : Nat × List Byte × State :=
  let mask := fieldAt pl 0 32
  if pl.length ≠ 32 then (stParam, [], s)
  else
    (stDone, le 2 (s.sess tk.session).items.length, sessionCommand tk.session (fun ss =>
      { ss with hold := mask, items := ss.items.map fun i => { i with held := i.held || hasBit mask i.source } }) s)

/-- NTF_MASK. -/
def execNtfMask (rq : Request) (s : State) : Res := answerNow 0x1902 rq ntfMaskBody s

/-- NTF_STATUS's own part (R558). -/
def ntfStatusBody (tk : Ticket) (pl : List Byte) (s : State) : Nat × List Byte × State :=
  let ss := s.sess tk.session
  if !pl.isEmpty then (stParam, [], s)
  else
    (stDone, le 32 ss.sub ++ le 32 ss.hold ++ le 2 ss.notifyHold ++ le 2 ss.items.length ++ le 4 ss.notifySeq ++
      le 4 ss.notifySent, s)

/-- NTF_STATUS. -/
def execNtfStatus (rq : Request) (s : State) : Res := answerNow 0x1903 rq ntfStatusBody s

/-- The counters copied at one instant (R557): UPTIME is formed, and MGMT_BUSY has grown by a free time within it. -/
def takeCounters (s : State) : List Nat × State :=
  let up := s.now - s.nd.resetTime
  let (k, s1) := s.draw
  let s2 : State := { s1 with trace := { s1.trace with
    counters := tmod 0 s1.trace.counters 22 fun busy => busy + Config.freeNat k % (up - busy + 1) } }
  ((List.range 24).map fun i => if i = 23 then up else tget 0 s2.trace.counters i, s2)

/-- The counters as bytes (Table 19.6). -/
def counterBytes (vs : List Nat) : List Byte := vs.flatMap (le 8)

/-- PERF_READ's own part (R557). -/
def perfReadBody (_tk : Ticket) (pl : List Byte) (s : State) : Nat × List Byte × State :=
  let a := byteAt pl 0
  let n := byteAt pl 1
  if pl.length ≠ 2 || n = 0 || 24 < a + n then (stParam, [], s)
  else
    let (vs, s1) := takeCounters s
    (stDone, le 1 a ++ le 1 n ++ zeros 6 ++ counterBytes ((vs.drop a).take n), s1)

/-- PERF_READ. -/
def execPerfRead (rq : Request) (s : State) : Res := answerNow 0x1904 rq perfReadBody s

/-- A notification item (Table 19.2). -/
def itemBytes (i : PendingItem) : List Byte :=
  le 1 i.source ++ le 1 (2 * bit i.held + bit i.noRecord) ++ le 2 i.count ++ le 2 i.code ++ le 2 0 ++ le 4 i.seq ++ le 8 i.time ++
    fit 16 i.detail

/-- The pending items that the hold mask lets go. -/
def Session.unheld (ss : Session) : List PendingItem := ss.items.filter fun i => !hasBit ss.hold i.source

/-- A notification packet is due (R552). -/
def Session.notifyDue (now : Micros) (ss : Session) : Bool :=
  let us := ss.unheld
  let waited := us.any fun i => decide (i.since + 1000 * ss.notifyHold ≤ now)
  !us.isEmpty && (waited || 28 ≤ us.length) &&
    (ss.notifySent == 0 || decide (ss.notifyAt + max 10000 (1000 * ss.notifyHold) ≤ now))

/-- The notification packet of session k (R485, R552). Its OPCODE, and TARGET_NODE on SVC, are stated nowhere: free. -/
def notifyPacket (k draw : Nat) (ss : Session) (items : List PendingItem) (s : State) : Packet :=
  let free := Config.freeNat draw
  { link := ss.link, version := 1, flags := 4, opcode := free % 65536, session := k, retry := 0, status := 0,
    sequence := ss.notifySeq, target := if ss.link.svc then free / 65536 % 16384 else ss.link.src,
    source := s.ponor.nodeAddr, reserved := 0,
    payload := le 1 items.length ++ le 3 0 ++ items.flatMap itemBytes }

/-- A notification packet sent (R551 to R553): its items stop being pending. -/
def sendNotification (k : Nat) (s : State) : State :=
  let ss := s.sess k
  let now := ss.unheld.take 28
  let (d, s1) := s.draw
  let s2 := s1.modSess k fun x =>
    { x with items := x.items.filter fun i => !now.contains i, notifySeq := wrap32 (x.notifySeq + 1), notifyAt := s.now,
             notifySent := x.notifySent + 1 }
  passTable ((send (notifyPacket k d ss now s) s2).count 14 1)

/-- NOTIFY_HOLD_EXPIRE (R552): an item of session k has waited NOTIFY_HOLD. -/
def execNotifyHoldExpire (t : Nat) (k : Fin 8) (s : State) : Res :=
  let s1 := s.begin t
  let ss := s1.sess k.val
  let room := ss.link.svc || (decide (s1.host.replyQueue.length < 32) && s1.host.replyWait.isEmpty)
  .next (if s1.alive && !s1.nd.mgmtStalled && decide (ss.state ≠ .free) && ss.notifyDue s1.now && room then
    sendNotification k.val s1 else s1)

/-- The SYNC record (Table 19.5). -/
def syncBytes (s : State) : List Byte :=
  let f := s.fwSlot s.cfg.running
  le 8 s.node ++ le 2 s.ponor.nodeAddr ++ le 1 s.nd.mode.code ++ le 1 s.position ++ le 6 Config.unitAddress ++ le 1 f.major ++
    le 1 f.minor ++ le 2 f.patch ++ le 2 0 ++ le 4 (wrap32 s.trace.droppedAll)

/-- TRACE_SYNC (Table 19.5). -/
def execTraceSync (t : Nat) (s : State) : Res :=
  let s1 := s.begin t
  .next (if s1.logicOn then traceRec 0x01 (syncBytes s1) s1 else s1)

/-- TRACE_COUNTERS (Table 19.5). -/
def execTraceCounters (t : Nat) (s : State) : Res :=
  let s1 := s.begin t
  if s1.alive then
    let (vs, s2) := takeCounters s1
    .next (traceRec 0x30 (counterBytes vs) s2)
  else .next s1

end Sys2Proof.Machine
end

