-- ==== Sys2Proof/Machine/Bulk.lean ====
section
/-! DEFINITION. Bulk transfers and what their owners do with completed objects: configuration images, calibration sets, firmware
images, Toll parameter sets and Toll firmware (R490 to R495, R515 to R520, R533, R545, R558). -/

namespace Sys2Proof.Machine

/-- The largest size of an object (R515 to R520, R528, R545). -/
def bulkSize (object : Nat) : Nat :=
  if object = 0x01 then 3932160 else if object = 0x02 then 131072 else if object = 0x03 then 8388608
  else if object = 0x10 then 131072 else if object = 0x11 then 1966080 else 0

/-- The bank header (Table 17.3), with a correct HDR_CHECK. -/
def bankHeader (b : Bank) : List Byte :=
  let head := le 4 0x4B4E4142 ++ le 2 b.format
  let rest := le 4 b.gen ++ le 4 b.epoch ++ le 4 (cfgBytes b.records).length ++ le 4 (cfgCrc b.records) ++ le 8 b.tCommit ++ zeros 28
  head ++ le 2 (if b.committed then 0xFFFE else 0xFFFF) ++ rest ++ le 4 (crc32 (head ++ rest))

/-- The whole calibration set of a copy (Table 17.7). -/
def CalCopy.bytes (c : CalCopy) : List Byte :=
  let b := c.header ++ ((List.range 32735).flatMap fun j => w32Bytes (c.wordImage (64 + 4 * j))) ++ fit 64 c.signature
  b ++ le 4 (crc32 b)

/-- What a read of an object returns (R515, R517, R533, R558), none where there is nothing to read. -/
def readObject (object : Nat) (s : State) : Option (List Byte) × State :=
  match object with
  | 0x01 => (s.live.map fun x => bankHeader x.2 ++ x.2.records.flatMap fun r => readBytes r.1 r.2, s)
  | 0x02 => (s.cal.map CalCopy.bytes, s)
  | 0x10 => (s.toll.set, s)
  | 0x20 => let (vs, s1) := takeCounters s; (some (counterBytes vs), s1)
  | _ => (none, s)

/-- The firmware slot that a write goes to (R520): neither ACTIVE nor TRIAL, and none while a slot is TRIAL. -/
def State.writeSlot (s : State) : Option Nat :=
  if [0, 1].any fun k => decide ((s.fwSlot k).state = .trial) then none
  else [0, 1].find? fun k => decide ((s.fwSlot k).state ≠ .active)

/-- Why the owner of an object refuses a write at BULK_OPEN (R104, R517, R520, R546). -/
def writeRefused (tk : Ticket) (object : Nat) (s : State) : Option Nat :=
  let asUnit := hasBit tk.flags flagPosA || hasBit tk.flags flagPosB
  if (object = 0x02 || object = 0x03) && !asUnit then some stState
  else if object = 0x03 && (s.writeSlot.isNone || s.nd.mode = .hold) then some stState
  else if (object = 0x10 || object = 0x11) && s.toll.state = .absent then some stState
  else if (object = 0x10 || object = 0x11) && s.tollOwns then some stToll
  else none

/-- Most bytes of a BULK_WRITE or BULK_READ of a session's commands. -/
def maxChunk (tk : Ticket) (write : Bool) : Nat := if write || hasBit tk.flags flagAuth then 984 else 1016

/-- A transfer opened on a handle (R491, R495). -/
def openTransfer (tk : Ticket) (h object : Nat) (write : Bool) (total : Nat) (image : List Byte) (s : State) :
    Nat × List Byte × State :=
  let b : Bulk := ⟨object, write, tk.session, total, [], [], s.now, 0, none, image⟩
  let s1 := if write && object == 0x03 then
      match s.writeSlot with
      | some k => s.modFw k fun _ => FwSlot.blank
      | none => s
    else s
  (stDone, le 1 h ++ le 1 0 ++ le 2 (maxChunk tk write) ++ le 4 total,
    bulkRecord h 1 b { s1 with host := { s1.host with bulk := tset none s1.host.bulk h (some b) } })

/-- The transfers that are open. -/
def State.transfers (s : State) : List Bulk := [0, 1, 2, 3].filterMap s.bulkOf

/-- BULK_OPEN's own part (R490, R491). -/
def bulkOpenBody (tk : Ticket) (pl : List Byte) (s : State) : Nat × List Byte × State :=
  let object := byteAt pl 0
  let write := byteAt pl 1 == 1
  let total := fieldAt pl 4 4
  let known := [0x01, 0x02, 0x03, 0x10, 0x11, 0x20].contains object
  let denied := if write then object == 0x20 || decide (bulkSize object < total) else object == 0x03 || object == 0x11
  if pl.length ≠ 8 || !known || 1 < byteAt pl 1 || denied then (stParam, [], s)
  else if (s.transfers.filter fun b => b.session == tk.session).length ≥ 2 ||
      (write && s.transfers.any fun b => b.write && b.object == object) then (stResource, [], s)
  else
    match [0, 1, 2, 3].find? fun h => (s.bulkOf h).isNone with
    | none => (stResource, [], s)
    | some h =>
      if write then
        match writeRefused tk object s with
        | some st => (st, [], s)
        | none => openTransfer tk h object true total [] s
      else
        match readObject object s with
        | (some bs, s1) => openTransfer tk h object false bs.length bs s1
        | (none, _) => (stState, [], s)

/-- BULK_OPEN. -/
def execBulkOpen (rq : Request) (s : State) : Res := answerNow 0x1620 rq bulkOpenBody s

/-- A transfer changed, with its idle time started again (R495). -/
def modBulk (h : Nat) (f : Bulk → Bulk) (s : State) : State :=
  { s with host := { s.host with bulk := tmod none s.host.bulk h fun x => x.map fun b => { f b with lastCmd := s.now } } }

/-- The piece of a BULK_WRITE keeps the rules of R492. -/
def pieceOk (total off len : Nat) : Bool :=
  decide (off % 8 = 0) && (decide (len % 8 = 0) || off + len == total) && decide (off + len ≤ total)

/-- BULK_WRITE's own part (R492). -/
def bulkWriteBody (_tk : Ticket) (pl : List Byte) (s0 : State) : Nat × List Byte × State :=
  let h := byteAt pl 0
  let len := fieldAt pl 2 2
  let off := fieldAt pl 4 4
  let s := modBulk h id s0
  match s.bulkOf h with
  | none => (stParam, [], s0)
  | some b =>
    if s.nd.mode = .hold || b.closing.isSome then (stState, [], s)
    else if !b.write || pl.length ≠ 8 + len || 984 < len || !pieceOk b.total off len then (stParam, [], s)
    else
      let s1 := modBulk h (fun b =>
        { b with data := memWriteN 0#8 b.data off (pl.drop 8), written := addSpan off (off + len) b.written }) s
      (stDone, le 4 (match s1.bulkOf h with | some b => writtenBytes b | none => 0), s1)

/-- BULK_WRITE. -/
def execBulkWrite (rq : Request) (s : State) : Res := answerNow 0x1621 rq bulkWriteBody s

/-- BULK_READ's own part (R493). -/
def bulkReadBody (tk : Ticket) (pl : List Byte) (s0 : State) : Nat × List Byte × State :=
  let h := byteAt pl 0
  let off := fieldAt pl 4 4
  let s := modBulk h id s0
  match s.bulkOf h with
  | none => (stParam, [], s0)
  | some b =>
    if b.write || pl.length ≠ 8 then (stParam, [], s)
    else
      let bs := slice b.image off (min (fieldAt pl 2 2) (maxChunk tk false))
      (stDone, le 1 h ++ le 1 0 ++ le 2 bs.length ++ le 4 off ++ bs, s)

/-- BULK_READ. -/
def execBulkRead (rq : Request) (s : State) : Res := answerNow 0x1622 rq bulkReadBody s

/-- The first byte of a write that has not been written (R494), none where all have. -/
def firstMissing (b : Bulk) : Option Nat :=
  match b.written with
  | (0, n) :: _ => if b.total ≤ n then none else some n
  | _ => if b.total = 0 then none else some 0

/-- The object as written. -/
def Bulk.object_ (b : Bulk) : List Byte := memReadN 0#8 b.data 0 b.total

/-- Why a completed write stays open (R494, R517, R104), with the reply's payload. -/
def closeRefused (crc : Nat) (b : Bulk) (s : State) : Option (Nat × List Byte) :=
  match firstMissing b with
  | some n => some (stBulk, le 4 n)
  | none =>
    if crc32 b.object_ ≠ crc then some (stBulk, le 4 0xFFFFFFFF)
    else if b.object = 0x02 && s.nd.mode ≠ .commission && s.nd.mode ≠ .standby then some (stState, [])
    else if [0x02, 0x03, 0x10, 0x11].contains b.object && s.nd.mode = .hold then some (stState, [])
    else none

/-- FIRST_MISSING of a transfer that misses nothing is stated nowhere: free bytes (log 40). -/
def freeMissing (s : State) : List Byte × State := let (k, s1) := s.draw; (fit 4 (Config.freeBytes k), s1)

/-- BULK_CLOSE's own part (R494): the checks at once, the owner's handling of a write later. -/
def bulkCloseBody (cls : Rights) (tk : Ticket) (pl : List Byte) (s0 : State) : State :=
  let h := byteAt pl 0
  let action := byteAt pl 1
  let s := modBulk h id s0
  match s.bulkOf h with
  | none => finish cls tk stParam [] s0
  | some b =>
    if pl.length ≠ 8 || 1 < action then finish cls tk stParam [] s
    else if b.closing.isSome then finish cls tk stState [] s
    else if action = 0 || !b.write then
      let (m, s1) := freeMissing s
      finish cls tk stDone m (endBulk (if action = 0 then 3 else 2) h s1)
    else
      let s1 := modBulk h (fun b => { b with crc := fieldAt pl 4 4 }) s
      match closeRefused (fieldAt pl 4 4) b s with
      | some (st, r) => finish cls tk st r s1
      | none => inProgress tk (modBulk h (fun b => { b with closing := some tk }) s1)

/-- BULK_CLOSE. -/
def execBulkClose (rq : Request) (s : State) : Res := .next (runPacket 0x1623 rq bulkCloseBody s)

/-- A sent record is one that a configuration image may hold (R503, R515). -/
def imageRecordOk (r : SentRecord) : Bool :=
  match pfield r.pid with
  | some f => r.flags == 0 && r.len == plen r.pid && globalOk r.pid f r.value
  | none => false

/-- The records of a configuration image (R515), none where MAGIC, FORMAT, LENGTH or CONFIG_CRC is wrong. -/
def imageRecords (bs : List Byte) : Option (List SentRecord) :=
  let n := fieldAt bs 16 4
  let body := slice bs 64 n
  if fieldAt bs 0 4 ≠ 0x4B4E4142 || fieldAt bs 4 2 ≠ 1 || body.length ≠ n || bs.length < 64 || crc32 body ≠ fieldAt bs 20 4 then none
  else
    match parseChanges n body with
    | (rs, true) => some rs
    | _ => none

/-- The configuration of an image: a key of zeros leaves its key word as the live bank has it (R515). -/
def imageCfg (live : Cfg) (rs : List SentRecord) : Cfg :=
  applyChanges [] (rs.map fun r => (r.pid, if isKeyWord r.pid && r.value = 0 then tfind live r.pid else some r.value))

/-- What the owner of an object answers: a status, its own reply bytes, and the state. -/
abbrev Owned := Nat × List Byte × State

/-- A configuration image staged (R515). -/
def ownConfig (tk : Ticket) (bs : List Byte) (s : State) : Owned :=
  match imageRecords bs with
  | none => (stParam, [], s)
  | some rs =>
    if (s.sess tk.session).rights < 4 && rs.any fun r => isKeySlot r.pid then (stRights, [], commandRecord tk stRights s)
    else if !rs.all imageRecordOk then (stParam, [], s)
    else
      let chs := cfgDiff s.liveCfg (imageCfg s.liveCfg rs)
      match stageTry tk.session chs { s with cfg := { s.cfg with staged := [] } } with
      | .error e => (e.status, [], s)
      | .ok st => (stDone, [], stageSet tk.session st s)

/-- The calibration set that bytes spell (R517), with its SOURCE by the signature. -/
def calOfBytes (overwrites now : Nat) (bs : List Byte) : CalCopy :=
  let sig := slice bs 131004 64
  let good := Config.signed (slice bs 8 16 ++ slice bs 32 8 ++ slice bs 64 130940) sig
  { source := if good then 3 else 2, overwrites := overwrites, tFactory := fieldAt bs 32 8, tWritten := now,
    words := (List.range 32735).filterMap fun j =>
      let off := 64 + 4 * j
      let w : Word32 := BitVec.ofNat 32 (fieldAt bs off 4)
      if w = f32Of (nominalWord off) then none else some (off, w),
    signature := if good then sig else [] }

/-- The channels of this unit's bays take the new set by the mailbox (R518); those of a sealed partition keep theirs. -/
def passCal (old : Option CalCopy) (s : State) : State :=
  (allChans.filter fun n => !s.inToll n).foldl (fun s n =>
    postWork (.calBlock n) (s.modCh n fun r => { r with calOld := match r.calOld with | some c => some c | none => old })) s

/-- A calibration set written (R517). -/
def ownCal (bs : List Byte) (s : State) : Owned :=
  if fieldAt bs 0 4 ≠ 0x4C414343 || fieldAt bs 4 2 ≠ 1 || bs.length ≠ 131072 || crc32 (bs.take 131068) ≠ fieldAt bs 131068 4 ||
      slice bs 8 16 ≠ fit 16 Config.serial then (stParam, [], s)
  else if s.tollOwns && slice bs 64 14336 ++ slice bs 114752 128 != tollBlocks { CalCopy.factory with words := s.toll.cal } then
    (stToll, [], s)
  else
    let c := calOfBytes (wrap32 (((s.cal.map (·.overwrites)).getD 0) + 1)) s.node bs
    (stDone, [], calRecord 1 (checkLive (passCal s.cal { s with cfg := { s.cfg with cal0 := some c, cal1 := some c } })))

/-- FW_RESULT of an image (R520, R545): the first check that fails, 0 where none does. -/
def imageResult (partBit : Nat) (signed : List Byte → List Byte → Bool) (bs : List Byte) : Nat :=
  let n := bs.length
  if fieldAt bs 0 4 ≠ 0x574D4946 || fieldAt bs 4 2 ≠ 1 then 1
  else if !hasBit (byteAt bs 6) partBit then 2
  else if byteAt bs 7 ≠ 0x41 then 3
  else if byteAt bs 8 ≠ 1 then 4
  else if 128 + fieldAt bs 12 4 ≠ n || crc32 (slice bs 64 (n - 128)) ≠ fieldAt bs 24 4 then 5
  else if !signed (bs.take (n - 64)) (bs.drop (n - 64)) then 6
  else 0

/-- A firmware image verified (R520). -/
def ownFirmware (bs : List Byte) (s : State) : Owned :=
  let r := imageResult (match s.nd.part with | .m => 0 | .mt => 1) Config.signed bs
  match s.writeSlot with
  | none => (stState, [], s)
  | some k =>
    let f : FwSlot := ⟨if r = 0 then .valid else .rejected, byteAt bs 6, byteAt bs 8, byteAt bs 9, fieldAt bs 10 2, fieldAt bs 16 8,
      crc32 bs⟩
    (if r = 0 then stDone else stParam, le 1 r, firmwareRecord (if r = 0 then 1 else 2) k r (s.modFw k fun _ => f))

/-- The setups that a Toll parameter set may hold (R533). -/
def tollSubjects : List Subj := [.ch, .meas, .curve, .sup, .dio, .hart]

/-- The field of a PID in a Toll parameter set. -/
def tollPfield (pid : Nat) : Option PField :=
  match Subj.ofPid pid with
  | some (j, k, i) => if tollSubjects.contains j && k < 64 then j.field i else none
  | none => if 0x18100000 ≤ pid && pid < 0x18100800 then tollField (pid % 128) else none

/-- A record of a Toll parameter set taken alone. -/
def tollRecordOk (r : SentRecord) : Bool :=
  match tollPfield r.pid with
  | some f => if hasBit r.flags 0 then r.flags == 1 && r.len == 0 else r.flags == 0 && r.len == f.len && f.check.ok r.value
  | none => false

/-- The functions of Toll channels (R533). -/
def tollFn (f : Fn) : Bool :=
  [Fn.off, .vin, .iin, .iinLoop, .res, .rtd, .tc, .di, .cnt, .frq].contains f

/-- The setup of channel n in a Toll parameter set is allowed (R165, R533). -/
def tollChanOk (c : Cfg) (n : Nat) : Bool :=
  tollFn (fnIn c n) && decide (cfield c .hart n 0 ≤ 1) && (cfield c .meas n 1 != 1 || decide (cfield c .meas n 2 < 64)) &&
    tollSubjects.all fun j => (objCheck c j n).isNone

/-- TEMP of a Toll point is none or an RTD channel. -/
def tollTempOk (c : Cfg) (p : Nat) : Bool := tollGet c p 2 == 0xFFFF || fnIn c (tollGet c p 2) == .rtd

/-- The setup of point p in a Toll parameter set is allowed (R534). -/
def tollPointOk (c : Cfg) (p : Nat) : Bool :=
  match tollGet c p 0 with
  | 0 => true
  | 1 => fnIn c (tollGet c p 1) == .cnt && tollTempOk c p
  | 2 =>
    let a := tollGet c p 3
    let b := tollGet c p 4
    tollGet c a 0 == 1 && tollGet c b 0 == 1 && (tollGet c a 2 == 0xFFFF) == (tollGet c b 2 == 0xFFFF)
  | _ =>
    let ls := (strapping c p).map (·.1)
    fnIn c (tollGet c p 1) != .off && tollTempOk c p && (ls.zip (ls.drop 1)).all fun x => decide (x.1 < x.2)

/-- The records of a Toll parameter set (R533), none where its header is wrong. -/
def setRecords (bs : List Byte) : Option (List SentRecord) :=
  let n := fieldAt bs 8 4
  if fieldAt bs 0 4 ≠ 0x4C4C4F54 || fieldAt bs 4 2 ≠ 1 || bs.length ≠ 16 + n then none
  else
    match parseChanges n (bs.drop 16) with
    | (rs, true) => some rs
    | _ => none

/-- The parameters of a Toll parameter set. -/
def setCfg (rs : List SentRecord) : Cfg :=
  rs.foldl (fun c r => if hasBit r.flags 0 then tdel r.pid c else tput r.pid r.value c) []

/-- A Toll parameter set passes the checks of staging and commit (R160, R161, R165, R191, R533). -/
def setOk (s : State) (c : Cfg) : Bool :=
  (List.range 64).all (tollChanOk c) && (List.range 16).all (tollPointOk c) && (checkModems s c).isNone &&
    (checkCurrents c).isNone && (checkRefCh c).isNone

/-- A Toll parameter set taken (R533, Table 18.8). -/
def ownTollSet (bs : List Byte) (s : State) : Owned :=
  match setRecords bs with
  | none => (stParam, [], s)
  | some rs =>
    let c := setCfg rs
    if s.tollOwns then (stToll, [], s)
    else if !rs.all tollRecordOk || !setOk s c then (stParam, [], s)
    else
      let old := tollSum (s.toll.set.getD [])
      let gen := fieldAt bs 12 4
      (stDone, [], tollEntry 0x0004 (le 4 old ++ le 4 (tollSum bs) ++ le 4 gen)
        (s.modToll fun t => { t with set := some bs, gen := gen, params := c }))

/-- A Toll firmware image taken for the next COLD or POR reset (R545, Table 18.8). -/
def ownTollFirmware (bs : List Byte) (s : State) : Owned :=
  let r := imageResult 1 Config.tollSigned bs
  if s.tollOwns then (stToll, [], s)
  else if r ≠ 0 then (stParam, le 1 r, s)
  else
    let im : TollImage := ⟨byteAt bs 8, byteAt bs 9, fieldAt bs 10 2, bs⟩
    (stDone, le 1 0, tollEntry 0x0005 (le 4 (tollSum s.toll.fw.bytes) ++ le 4 (tollSum bs) ++ slice bs 8 4)
      (s.modToll fun t => { t with fwNext := some im }))

/-- The owner's handling of a completed write (R494). -/
def ownerHandles (tk : Ticket) (b : Bulk) (s : State) : Owned :=
  match b.object with
  | 0x01 => ownConfig tk b.object_ s
  | 0x02 => ownCal b.object_ s
  | 0x03 => ownFirmware b.object_ s
  | 0x10 => ownTollSet b.object_ s
  | _ => ownTollFirmware b.object_ s

/-- BULK_CLOSE_DONE (R494): the owner's handling finishes, the transfer ends, and the final reply goes out with the owner's
status. -/
def execBulkCloseDone (t : Nat) (h : Fin 4) (s : State) : Res :=
  let s1 := s.begin t
  match s1.bulkOf h.val with
  | none => .next s1
  | some b =>
    match b.closing with
    | none => .next s1
    | some tk =>
      if !s1.alive || s1.nd.mgmtStalled then .next s1
      else
        let (st, r, s2) := ownerHandles tk b s1
        let s3 := endBulk 2 h.val s2
        let (m, s4) := freeMissing s3
        .next (finish ((bulkClass b.object b.write).getD 1) tk st (if st = stDone || !r.isEmpty then m ++ r else []) s4)

/-- The BULK_STATUS reply (Table 16.10). -/
def bulkStatusBytes (h : Nat) (b : Bulk) (missing : List Byte) (s : State) : List Byte :=
  le 1 h ++ le 1 b.object ++ le 1 (bit b.write) ++ le 1 b.session ++ le 4 b.total ++ le 4 (writtenBytes b) ++ missing ++
    le 4 ((s.now - b.lastCmd) / 1000)

/-- BULK_STATUS's own part (R490). -/
def bulkStatusBody (_tk : Ticket) (pl : List Byte) (s : State) : Nat × List Byte × State :=
  let h := byteAt pl 0
  match s.bulkOf h with
  | none => (stParam, [], s)
  | some b =>
    if pl.length ≠ 1 then (stParam, [], modBulk h id s)
    else
      let (m, s1) : List Byte × State :=
        match (if b.write then firstMissing b else none) with
        | some n => (le 4 n, s)
        | none => freeMissing s
      (stDone, bulkStatusBytes h b m s, modBulk h id s1)

/-- BULK_STATUS. -/
def execBulkStatus (rq : Request) (s : State) : Res := answerNow 0x1624 rq bulkStatusBody s

/-- BULK_IDLE_EXPIRE (R495): 60 s without a command on the handle, not counted in HOLD. -/
def execBulkIdleExpire (t : Nat) (h : Fin 4) (s : State) : Res :=
  let s1 := s.begin t
  match s1.bulkOf h.val with
  | none => .next s1
  | some b =>
    .next (if s1.alive && decide (s1.nd.mode ≠ .hold) && b.closing.isNone && decide (b.lastCmd + 60000000 ≤ s1.now) then
      endBulk 4 h.val s1 else s1)

end Sys2Proof.Machine
end

