-- ==== Sys2Proof/Machine/Dispatch.lean ====
section
/-! DEFINITION. The meaning of every command: one arm for each constructor of Instr, each a direct call. -/

namespace Sys2Proof.Machine

/-- The effect of command i on everything but the queue. -/
def exec (i : Instr) (s : State) : Host.Outcome State Fault Refusal :=
  match i with
  | .chSetup rq => Sys2Proof.Machine.execChSetup rq s
  | .chGet rq => Sys2Proof.Machine.execChGet rq s
  | .chStatus rq => Sys2Proof.Machine.execChStatus rq s
  | .chBay rq => Sys2Proof.Machine.execChBay rq s
  | .measSet rq => Sys2Proof.Machine.execMeasSet rq s
  | .measGet rq => Sys2Proof.Machine.execMeasGet rq s
  | .curveSet rq => Sys2Proof.Machine.execCurveSet rq s
  | .curveGet rq => Sys2Proof.Machine.execCurveGet rq s
  | .leadCapture rq => Sys2Proof.Machine.execLeadCapture rq s
  | .leadCaptureDone t n => Sys2Proof.Machine.execLeadCaptureDone t n s
  | .chRead rq => Sys2Proof.Machine.execChRead rq s
  | .supSet rq => Sys2Proof.Machine.execSupSet rq s
  | .supGet rq => Sys2Proof.Machine.execSupGet rq s
  | .supRead rq => Sys2Proof.Machine.execSupRead rq s
  | .supBaseline rq => Sys2Proof.Machine.execSupBaseline rq s
  | .supCheck rq => Sys2Proof.Machine.execSupCheck rq s
  | .outSet rq => Sys2Proof.Machine.execOutSet rq s
  | .outGet rq => Sys2Proof.Machine.execOutGet rq s
  | .outWrite rq => Sys2Proof.Machine.execOutWrite rq s
  | .outRead rq => Sys2Proof.Machine.execOutRead rq s
  | .hartSet rq => Sys2Proof.Machine.execHartSet rq s
  | .hartGet rq => Sys2Proof.Machine.execHartGet rq s
  | .hartScan rq => Sys2Proof.Machine.execHartScan rq s
  | .hartList rq => Sys2Proof.Machine.execHartList rq s
  | .hartPass rq => Sys2Proof.Machine.execHartPass rq s
  | .dioSet rq => Sys2Proof.Machine.execDioSet rq s
  | .dioGet rq => Sys2Proof.Machine.execDioGet rq s
  | .doWrite rq => Sys2Proof.Machine.execDoWrite rq s
  | .dioRead rq => Sys2Proof.Machine.execDioRead rq s
  | .cntPreset rq => Sys2Proof.Machine.execCntPreset rq s
  | .lampSet rq => Sys2Proof.Machine.execLampSet rq s
  | .lampGet rq => Sys2Proof.Machine.execLampGet rq s
  | .lampWrite rq => Sys2Proof.Machine.execLampWrite rq s
  | .lampRead rq => Sys2Proof.Machine.execLampRead rq s
  | .lampLearn rq => Sys2Proof.Machine.execLampLearn rq s
  | .lampLearnDone t n => Sys2Proof.Machine.execLampLearnDone t n s
  | .baySet rq => Sys2Proof.Machine.execBaySet rq s
  | .bayGet rq => Sys2Proof.Machine.execBayGet rq s
  | .bayFs rq => Sys2Proof.Machine.execBayFs rq s
  | .laneSet rq => Sys2Proof.Machine.execLaneSet rq s
  | .laneGet rq => Sys2Proof.Machine.execLaneGet rq s
  | .laneArm rq => Sys2Proof.Machine.execLaneArm rq s
  | .laneDisarm rq => Sys2Proof.Machine.execLaneDisarm rq s
  | .laneReset rq => Sys2Proof.Machine.execLaneReset rq s
  | .laneRead rq => Sys2Proof.Machine.execLaneRead rq s
  | .pwrStatus rq => Sys2Proof.Machine.execPwrStatus rq s
  | .nodeReset rq => Sys2Proof.Machine.execNodeReset rq s
  | .modeSet rq => Sys2Proof.Machine.execModeSet rq s
  | .nodeDormant rq => Sys2Proof.Machine.execNodeDormant rq s
  | .pwrClear rq => Sys2Proof.Machine.execPwrClear rq s
  | .ptSet rq => Sys2Proof.Machine.execPtSet rq s
  | .ptGet rq => Sys2Proof.Machine.execPtGet rq s
  | .ptRead rq => Sys2Proof.Machine.execPtRead rq s
  | .ptStates rq => Sys2Proof.Machine.execPtStates rq s
  | .ptAck rq => Sys2Proof.Machine.execPtAck rq s
  | .ptShelve rq => Sys2Proof.Machine.execPtShelve rq s
  | .ptInhibit rq => Sys2Proof.Machine.execPtInhibit rq s
  | .grpSet rq => Sys2Proof.Machine.execGrpSet rq s
  | .grpGet rq => Sys2Proof.Machine.execGrpGet rq s
  | .grpRead rq => Sys2Proof.Machine.execGrpRead rq s
  | .grpAck rq => Sys2Proof.Machine.execGrpAck rq s
  | .hbStatus rq => Sys2Proof.Machine.execHbStatus rq s
  | .hbOverride rq => Sys2Proof.Machine.execHbOverride rq s
  | .hbSysAck rq => Sys2Proof.Machine.execHbSysAck rq s
  | .grnStatus rq => Sys2Proof.Machine.execGrnStatus rq s
  | .grnRead rq => Sys2Proof.Machine.execGrnRead rq s
  | .grnFreeze rq => Sys2Proof.Machine.execGrnFreeze rq s
  | .grnRelease rq => Sys2Proof.Machine.execGrnRelease rq s
  | .clkGet rq => Sys2Proof.Machine.execClkGet rq s
  | .clkSet rq => Sys2Proof.Machine.execClkSet rq s
  | .clkLeap rq => Sys2Proof.Machine.execClkLeap rq s
  | .clkStatus rq => Sys2Proof.Machine.execClkStatus rq s
  | .bramRead rq => Sys2Proof.Machine.execBramRead rq s
  | .bramWrite rq => Sys2Proof.Machine.execBramWrite rq s
  | .pnrStatus rq => Sys2Proof.Machine.execPnrStatus rq s
  | .pnrPort rq => Sys2Proof.Machine.execPnrPort rq s
  | .pnrSlot rq => Sys2Proof.Machine.execPnrSlot rq s
  | .pairStatus rq => Sys2Proof.Machine.execPairStatus rq s
  | .pairClear rq => Sys2Proof.Machine.execPairClear rq s
  | .pairAdopt rq => Sys2Proof.Machine.execPairAdopt rq s
  | .sessOpen rq => Sys2Proof.Machine.execSessOpen rq s
  | .sessClose rq => Sys2Proof.Machine.execSessClose rq s
  | .sessStatus rq => Sys2Proof.Machine.execSessStatus rq s
  | .nodeIdent rq => Sys2Proof.Machine.execNodeIdent rq s
  | .memPeek rq => Sys2Proof.Machine.execMemPeek rq s
  | .memPoke rq => Sys2Proof.Machine.execMemPoke rq s
  | .bulkOpen rq => Sys2Proof.Machine.execBulkOpen rq s
  | .bulkWrite rq => Sys2Proof.Machine.execBulkWrite rq s
  | .bulkRead rq => Sys2Proof.Machine.execBulkRead rq s
  | .bulkClose rq => Sys2Proof.Machine.execBulkClose rq s
  | .bulkStatus rq => Sys2Proof.Machine.execBulkStatus rq s
  | .cfgWrite rq => Sys2Proof.Machine.execCfgWrite rq s
  | .cfgRead rq => Sys2Proof.Machine.execCfgRead rq s
  | .cfgCommit rq => Sys2Proof.Machine.execCfgCommit rq s
  | .cfgDiscard rq => Sys2Proof.Machine.execCfgDiscard rq s
  | .cfgStatus rq => Sys2Proof.Machine.execCfgStatus rq s
  | .cfgRevert rq => Sys2Proof.Machine.execCfgRevert rq s
  | .calStatus rq => Sys2Proof.Machine.execCalStatus rq s
  | .fwStatus rq => Sys2Proof.Machine.execFwStatus rq s
  | .fwActivate rq => Sys2Proof.Machine.execFwActivate rq s
  | .fwConfirm rq => Sys2Proof.Machine.execFwConfirm rq s
  | .fwRollback rq => Sys2Proof.Machine.execFwRollback rq s
  | .tollIdent rq => Sys2Proof.Machine.execTollIdent rq s
  | .tollRead rq => Sys2Proof.Machine.execTollRead rq s
  | .tollSeal rq => Sys2Proof.Machine.execTollSeal rq s
  | .tollUnseal rq => Sys2Proof.Machine.execTollUnseal rq s
  | .tollLogRead rq => Sys2Proof.Machine.execTollLogRead rq s
  | .tollLogClear rq => Sys2Proof.Machine.execTollLogClear rq s
  | .ntfSubscribe rq => Sys2Proof.Machine.execNtfSubscribe rq s
  | .ntfMask rq => Sys2Proof.Machine.execNtfMask rq s
  | .ntfStatus rq => Sys2Proof.Machine.execNtfStatus rq s
  | .perfRead rq => Sys2Proof.Machine.execPerfRead rq s
  | .clkWindowRead t k off len => Sys2Proof.Machine.execClkWindowRead t k off len s
  | .clkFreezeLapse t k => Sys2Proof.Machine.execClkFreezeLapse t k s
  | .clkStagingWrite t k off bs => Sys2Proof.Machine.execClkStagingWrite t k off bs s
  | .clkApplyCalendar t k => Sys2Proof.Machine.execClkApplyCalendar t k s
  | .clkApplyBinary t k => Sys2Proof.Machine.execClkApplyBinary t k s
  | .clkDiscardStaging t k => Sys2Proof.Machine.execClkDiscardStaging t k s
  | .clkStagingLapse t k => Sys2Proof.Machine.execClkStagingLapse t k s
  | .supplyOvervoltage t on sup => Sys2Proof.Machine.execSupplyOvervoltage t on sup s
  | .supplyWarningConfirmed t sup => Sys2Proof.Machine.execSupplyWarningConfirmed t sup s
  | .supplyWarningCleared t sup low ago => Sys2Proof.Machine.execSupplyWarningCleared t sup low ago s
  | .holdExit arms => Sys2Proof.Machine.execHoldExit arms s
  | .holdLimitExpire t => Sys2Proof.Machine.execHoldLimitExpire t s
  | .resetThresholdConfirmed t sup low ago => Sys2Proof.Machine.execResetThresholdConfirmed t sup low ago s
  | .logicDomainOff t => Sys2Proof.Machine.execLogicDomainOff t s
  | .resetThresholdCleared t sup pins lost => Sys2Proof.Machine.execResetThresholdCleared t sup pins lost s
  | .inputLost t inB lost v => Sys2Proof.Machine.execInputLost t inB lost v s
  | .cellTest t v vRes => Sys2Proof.Machine.execCellTest t v vRes s
  | .backupLow t low v => Sys2Proof.Machine.execBackupLow t low v s
  | .nresetAssert at_ => Sys2Proof.Machine.execNresetAssert at_ s
  | .nresetShort t => Sys2Proof.Machine.execNresetShort t s
  | .nresetRelease t => Sys2Proof.Machine.execNresetRelease t s
  | .nresetStuck t => Sys2Proof.Machine.execNresetStuck t s
  | .nresetStuckClear t => Sys2Proof.Machine.execNresetStuckClear t s
  | .lockstepMismatch t => Sys2Proof.Machine.execLockstepMismatch t s
  | .controlPlaneFault t => Sys2Proof.Machine.execControlPlaneFault t s
  | .ctrlWindowExpire t => Sys2Proof.Machine.execCtrlWindowExpire t s
  | .logicClockFail t => Sys2Proof.Machine.execLogicClockFail t s
  | .logicRailFail t => Sys2Proof.Machine.execLogicRailFail t s
  | .dormantWake at_ => Sys2Proof.Machine.execDormantWake at_ s
  | .seatContactOpen t => Sys2Proof.Machine.execSeatContactOpen t s
  | .withdrawStagingDone t => Sys2Proof.Machine.execWithdrawStagingDone t s
  | .seatContactClose t pins => Sys2Proof.Machine.execSeatContactClose t pins s
  | .bootDecision t selfTest img0 img1 toll => Sys2Proof.Machine.execBootDecision t selfTest img0 img1 toll s
  | .bootPairDecision t => Sys2Proof.Machine.execBootPairDecision t s
  | .bootRedecide t => Sys2Proof.Machine.execBootRedecide t s
  | .thermalTrip t tF => Sys2Proof.Machine.execThermalTrip t tF s
  | .governorTick t drawn tF loss pBay => Sys2Proof.Machine.execGovernorTick t drawn tF loss pBay s
  | .identityScan t slot posB peerPres => Sys2Proof.Machine.execIdentityScan t slot posB peerPres s
  | .strapChange t b tied => Sys2Proof.Machine.execStrapChange t b tied s
  | .controlCycleBoundary arms => Sys2Proof.Machine.execControlCycleBoundary arms s
  | .cycleOverrun  => Sys2Proof.Machine.execCycleOverrun  s
  | .sweep t => Sys2Proof.Machine.execSweep t s
  | .sweepAbandoned t => Sys2Proof.Machine.execSweepAbandoned t s
  | .pointOnDelayExpire t p => Sys2Proof.Machine.execPointOnDelayExpire t p s
  | .pointOffDelayExpire t p => Sys2Proof.Machine.execPointOffDelayExpire t p s
  | .shelveExpire t p => Sys2Proof.Machine.execShelveExpire t p s
  | .blockDelayExpire t p => Sys2Proof.Machine.execBlockDelayExpire t p s
  | .freezeLimit t => Sys2Proof.Machine.execFreezeLimit t s
  | .ringCycle  => Sys2Proof.Machine.execRingCycle  s
  | .hbTick t => Sys2Proof.Machine.execHbTick t s
  | .hbT1Expire t => Sys2Proof.Machine.execHbT1Expire t s
  | .hbT2Expire t => Sys2Proof.Machine.execHbT2Expire t s
  | .hbTAttendExpire t => Sys2Proof.Machine.execHbTAttendExpire t s
  | .dmPrewarn t => Sys2Proof.Machine.execDmPrewarn t s
  | .dmExpired t => Sys2Proof.Machine.execDmExpired t s
  | .rosterChange t => Sys2Proof.Machine.execRosterChange t s
  | .hbOverrideEnd t => Sys2Proof.Machine.execHbOverrideEnd t s
  | .panelPoll t busB => Sys2Proof.Machine.execPanelPoll t busB s
  | .panelReply t busB bytes => Sys2Proof.Machine.execPanelReply t busB bytes s
  | .panelReplyTimeout t busB => Sys2Proof.Machine.execPanelReplyTimeout t busB s
  | .keyAck t k => Sys2Proof.Machine.execKeyAck t k s
  | .keySilence t k => Sys2Proof.Machine.execKeySilence t k s
  | .keyAccept t k => Sys2Proof.Machine.execKeyAccept t k s
  | .keyDmOn t k => Sys2Proof.Machine.execKeyDmOn t k s
  | .keyDmReset t k => Sys2Proof.Machine.execKeyDmReset t k s
  | .keyDmOff t k => Sys2Proof.Machine.execKeyDmOff t k s
  | .keyManned t k => Sys2Proof.Machine.execKeyManned t k s
  | .keyUnmanned t k => Sys2Proof.Machine.execKeyUnmanned t k s
  | .hbStateSync t m => Sys2Proof.Machine.execHbStateSync t m s
  | .ctrlStall t => Sys2Proof.Machine.execCtrlStall t s
  | .fabricStall t => Sys2Proof.Machine.execFabricStall t s
  | .dataStall seen => Sys2Proof.Machine.execDataStall seen s
  | .mgmtStall t => Sys2Proof.Machine.execMgmtStall t s
  | .tollStall t => Sys2Proof.Machine.execTollStall t s
  | .ssTimeoutExpire t b => Sys2Proof.Machine.execSsTimeoutExpire t b s
  | .conversionEnd t n v v2 raws pip inputs => Sys2Proof.Machine.execConversionEnd t n v v2 raws pip inputs s
  | .refCheck t n v1 v2 => Sys2Proof.Machine.execRefCheck t n v1 v2 s
  | .leadConversion t n v => Sys2Proof.Machine.execLeadConversion t n v s
  | .impedanceCheck t n => Sys2Proof.Machine.execImpedanceCheck t n s
  | .impedanceCheckDone t n f1 f2 f3 g1 g3 => Sys2Proof.Machine.execImpedanceCheckDone t n f1 f2 f3 g1 g3 s
  | .complianceTrip t n => Sys2Proof.Machine.execComplianceTrip t n s
  | .terminalMonitorScan t b v sensor => Sys2Proof.Machine.execTerminalMonitorScan t b v sensor s
  | .protectionTrip t n k v mA => Sys2Proof.Machine.execProtectionTrip t n k v mA s
  | .protectionReconnect t n => Sys2Proof.Machine.execProtectionReconnect t n s
  | .bayStart t b => Sys2Proof.Machine.execBayStart t b s
  | .bayFault t b => Sys2Proof.Machine.execBayFault t b s
  | .railUpdate t n mA v => Sys2Proof.Machine.execRailUpdate t n mA v s
  | .outputCondition t n k on mA v => Sys2Proof.Machine.execOutputCondition t n k on mA v s
  | .ioutReachUpdate t n mA v => Sys2Proof.Machine.execIoutReachUpdate t n mA v s
  | .openLoopProbe t n mA => Sys2Proof.Machine.execOpenLoopProbe t n mA s
  | .srcHoldExpire t n => Sys2Proof.Machine.execSrcHoldExpire t n s
  | .cmdTimeoutExpire t n => Sys2Proof.Machine.execCmdTimeoutExpire t n s
  | .repeaterStuck t n seen => Sys2Proof.Machine.execRepeaterStuck t n seen s
  | .hartPoll t n => Sys2Proof.Machine.execHartPoll t n s
  | .hartReply t n a => Sys2Proof.Machine.execHartReply t n a s
  | .hartReplyTimeout t n bad => Sys2Proof.Machine.execHartReplyTimeout t n bad s
  | .hartBurstFrame t n dev => Sys2Proof.Machine.execHartBurstFrame t n dev s
  | .diSample t n v crossed => Sys2Proof.Machine.execDiSample t n v crossed s
  | .diSupervisionPulse t n vTA vTB => Sys2Proof.Machine.execDiSupervisionPulse t n vTA vTB s
  | .sensorSupplyTrip t n => Sys2Proof.Machine.execSensorSupplyTrip t n s
  | .cntEdge t n e => Sys2Proof.Machine.execCntEdge t n e s
  | .frqEdge t n e tick => Sys2Proof.Machine.execFrqEdge t n e tick s
  | .frqGateEnd t n => Sys2Proof.Machine.execFrqGateEnd t n s
  | .switchTrip t n x => Sys2Proof.Machine.execSwitchTrip t n x s
  | .switchRetry t n supply => Sys2Proof.Machine.execSwitchRetry t n supply s
  | .doFaultDetect t n ext on mA v => Sys2Proof.Machine.execDoFaultDetect t n ext on mA v s
  | .demagLimit t n mJ => Sys2Proof.Machine.execDemagLimit t n mJ s
  | .lampSample t n mA => Sys2Proof.Machine.execLampSample t n mA s
  | .lampColdTest t n mA => Sys2Proof.Machine.execLampColdTest t n mA s
  | .lampExtV t n v => Sys2Proof.Machine.execLampExtV t n v s
  | .flashPhase t n => Sys2Proof.Machine.execFlashPhase t n s
  | .fieldSupplyThreshold t b which on v => Sys2Proof.Machine.execFieldSupplyThreshold t b which on v s
  | .latchFloorPassed at_ b => Sys2Proof.Machine.execLatchFloorPassed at_ b s
  | .bayCurrentSample t b amps sense loads => Sys2Proof.Machine.execBayCurrentSample t b amps sense loads s
  | .laneWordArrival t b ls valid flip => Sys2Proof.Machine.execLaneWordArrival t b ls valid flip s
  | .laneWdExpire t l ls => Sys2Proof.Machine.execLaneWdExpire t l ls s
  | .laneOutputTrip t l x => Sys2Proof.Machine.execLaneOutputTrip t l x s
  | .lanePulseTest t l v => Sys2Proof.Machine.execLanePulseTest t l v s
  | .laneDegradeExpire t l => Sys2Proof.Machine.execLaneDegradeExpire t l s
  | .laneDisc t l => Sys2Proof.Machine.execLaneDisc t l s
  | .granarySubmit t port => Sys2Proof.Machine.execGranarySubmit t port s
  | .lossRecord t port => Sys2Proof.Machine.execLossRecord t port s
  | .granaryDrainPage t => Sys2Proof.Machine.execGranaryDrainPage t s
  | .granaryFlush t => Sys2Proof.Machine.execGranaryFlush t s
  | .sectorErase t => Sys2Proof.Machine.execSectorErase t s
  | .floodEnd t code => Sys2Proof.Machine.execFloodEnd t code s
  | .floodSummary t code => Sys2Proof.Machine.execFloodSummary t code s
  | .grnLeaseExpire t => Sys2Proof.Machine.execGrnLeaseExpire t s
  | .grnFreezeLimit t => Sys2Proof.Machine.execGrnFreezeLimit t s
  | .wearReport t => Sys2Proof.Machine.execWearReport t s
  | .ppsEdge t e => Sys2Proof.Machine.execPpsEdge t e s
  | .timeSentence t x => Sys2Proof.Machine.execTimeSentence t x s
  | .timeLockLoss t => Sys2Proof.Machine.execTimeLockLoss t s
  | .ringLockLoss t => Sys2Proof.Machine.execRingLockLoss t s
  | .timeStep t => Sys2Proof.Machine.execTimeStep t s
  | .leapHold t => Sys2Proof.Machine.execLeapHold t s
  | .clockSlaveSecond t => Sys2Proof.Machine.execClockSlaveSecond t s
  | .oscStopDetect t => Sys2Proof.Machine.execOscStopDetect t s
  | .clockRangeEnd t => Sys2Proof.Machine.execClockRangeEnd t s
  | .syncFrame t ns p f => Sys2Proof.Machine.execSyncFrame t ns p f s
  | .linkFrame t ns p f => Sys2Proof.Machine.execLinkFrame t ns p f s
  | .dataFrame t p f => Sys2Proof.Machine.execDataFrame t p f s
  | .pollFrame t p f => Sys2Proof.Machine.execPollFrame t p f s
  | .nilFrame t p f => Sys2Proof.Machine.execNilFrame t p f s
  | .acycFrame t p f => Sys2Proof.Machine.execAcycFrame t p f s
  | .babbleReopen t p => Sys2Proof.Machine.execBabbleReopen t p s
  | .portSilent t p => Sys2Proof.Machine.execPortSilent t p s
  | .portSyncLoss t p up => Sys2Proof.Machine.execPortSyncLoss t p up s
  | .dataStart t => Sys2Proof.Machine.execDataStart t s
  | .addrClashClear t => Sys2Proof.Machine.execAddrClashClear t s
  | .sfpInsert t p ok vendor part serial => Sys2Proof.Machine.execSfpInsert t p ok vendor part serial s
  | .sfpRemove t p => Sys2Proof.Machine.execSfpRemove t p s
  | .sfpDiagPoll t p d => Sys2Proof.Machine.execSfpDiagPoll t p d s
  | .heartbeatRx t pkt h => Sys2Proof.Machine.execHeartbeatRx t pkt h s
  | .partIRx t m => Sys2Proof.Machine.execPartIRx t m s
  | .partCRx t c => Sys2Proof.Machine.execPartCRx t c s
  | .heartbeatLoss t => Sys2Proof.Machine.execHeartbeatLoss t s
  | .pairLaneFallback t => Sys2Proof.Machine.execPairLaneFallback t s
  | .readbackMismatch t n mon => Sys2Proof.Machine.execReadbackMismatch t n mon s
  | .disagree t k => Sys2Proof.Machine.execDisagree t k s
  | .pairRefCheck t note => Sys2Proof.Machine.execPairRefCheck t note s
  | .forcedRelease t => Sys2Proof.Machine.execForcedRelease t s
  | .takeoverYieldCheck t => Sys2Proof.Machine.execTakeoverYieldCheck t s
  | .sluiceYield t => Sys2Proof.Machine.execSluiceYield t s
  | .sluiceReclaim t => Sys2Proof.Machine.execSluiceReclaim t s
  | .sluiceShutIn t on => Sys2Proof.Machine.execSluiceShutIn t on s
  | .sluiceWatchdogExpire t => Sys2Proof.Machine.execSluiceWatchdogExpire t s
  | .sluiceLoopFault t shut mA => Sys2Proof.Machine.execSluiceLoopFault t shut mA s
  | .handoverClaim t => Sys2Proof.Machine.execHandoverClaim t s
  | .handoverTimeout t => Sys2Proof.Machine.execHandoverTimeout t s
  | .resyncStep t m => Sys2Proof.Machine.execResyncStep t m s
  | .pairRecordRx t r => Sys2Proof.Machine.execPairRecordRx t r s
  | .sessionTableRx t tab => Sys2Proof.Machine.execSessionTableRx t tab s
  | .peerCommitRx t epoch chs => Sys2Proof.Machine.execPeerCommitRx t epoch chs s
  | .commitPeerTimeout t => Sys2Proof.Machine.execCommitPeerTimeout t s
  | .mailboxAck t => Sys2Proof.Machine.execMailboxAck t s
  | .peerReplyRx t op r => Sys2Proof.Machine.execPeerReplyRx t op r s
  | .sessionIdleExpire t k => Sys2Proof.Machine.execSessionIdleExpire t k s
  | .bulkIdleExpire t h => Sys2Proof.Machine.execBulkIdleExpire t h s
  | .notifyHoldExpire t k => Sys2Proof.Machine.execNotifyHoldExpire t k s
  | .fwTrialExpire t => Sys2Proof.Machine.execFwTrialExpire t s
  | .tollSealBroken t cover opened => Sys2Proof.Machine.execTollSealBroken t cover opened s
  | .tollPeerPresent t => Sys2Proof.Machine.execTollPeerPresent t s
  | .tollCheckpoint t => Sys2Proof.Machine.execTollCheckpoint t s
  | .tollCapture t => Sys2Proof.Machine.execTollCapture t s
  | .tollFault t => Sys2Proof.Machine.execTollFault t s
  | .traceSync t => Sys2Proof.Machine.execTraceSync t s
  | .traceCounters t => Sys2Proof.Machine.execTraceCounters t s
  | .svcDatagram t d => Sys2Proof.Machine.execSvcDatagram t d s
  | .peerPresOpen t => Sys2Proof.Machine.execPeerPresOpen t s
  | .sluicePeerReleased t => Sys2Proof.Machine.execSluicePeerReleased t s
  | .commitBankWritten t => Sys2Proof.Machine.execCommitBankWritten t s
  | .commitPeerAck t => Sys2Proof.Machine.execCommitPeerAck t s
  | .bulkCloseDone t h => Sys2Proof.Machine.execBulkCloseDone t h s

end Sys2Proof.Machine
end

