-- ==== Sys2Proof/WellFormed.lean ====
section
/-! DEFINITION. Which operands a command can have: the widths of the packet and frame headers (Tables 14.1, 16.1) and the lengths of
the lists of readings. -/

namespace Sys2Proof

/-- The header fields of a packet fit their widths (Table 16.1), and its payload the length field. -/
def Request.wellFormed (rq : Request) : Bool :=
  decide (rq.version < 256) && decide (rq.flags < 256) && decide (rq.session < 256) && decide (rq.retry < 256) &&
    decide (rq.status < 65536) && decide (rq.sequence < 4294967296) && decide (rq.target < 65536) &&
    decide (rq.source < 65536) && decide (rq.reserved < 65536) && decide (rq.payload.length < 65536)

/-- The header fields of a Ponor frame fit their widths (Table 14.1), and its payload the length field and the
frame. -/
def Frame.wellFormed (f : Frame) : Bool :=
  decide (f.ringId < 65536) && decide (f.hops < 256) && decide (f.prio < 16) && decide (f.mode < 16) &&
    decide (f.src < 65536) && decide (f.dest < 65536) && decide (f.seq < 65536) && decide (f.cycle < 4294967296) &&
    decide (f.unit < 281474976710656) && decide (f.payload.length < 65536) && decide (f.etherType < 65536) &&
    decide (38 + f.payload.length ≤ f.size)

/-- The operands are some that the unit's surroundings can give. -/
def Instr.wellFormed (i : Instr) : Bool :=
  match i with
  | .chSetup rq => rq.wellFormed
  | .chGet rq => rq.wellFormed
  | .chStatus rq => rq.wellFormed
  | .chBay rq => rq.wellFormed
  | .measSet rq => rq.wellFormed
  | .measGet rq => rq.wellFormed
  | .curveSet rq => rq.wellFormed
  | .curveGet rq => rq.wellFormed
  | .leadCapture rq => rq.wellFormed
  | .leadCaptureDone _ _ => true
  | .chRead rq => rq.wellFormed
  | .supSet rq => rq.wellFormed
  | .supGet rq => rq.wellFormed
  | .supRead rq => rq.wellFormed
  | .supBaseline rq => rq.wellFormed
  | .supCheck rq => rq.wellFormed
  | .outSet rq => rq.wellFormed
  | .outGet rq => rq.wellFormed
  | .outWrite rq => rq.wellFormed
  | .outRead rq => rq.wellFormed
  | .hartSet rq => rq.wellFormed
  | .hartGet rq => rq.wellFormed
  | .hartScan rq => rq.wellFormed
  | .hartList rq => rq.wellFormed
  | .hartPass rq => rq.wellFormed
  | .dioSet rq => rq.wellFormed
  | .dioGet rq => rq.wellFormed
  | .doWrite rq => rq.wellFormed
  | .dioRead rq => rq.wellFormed
  | .cntPreset rq => rq.wellFormed
  | .lampSet rq => rq.wellFormed
  | .lampGet rq => rq.wellFormed
  | .lampWrite rq => rq.wellFormed
  | .lampRead rq => rq.wellFormed
  | .lampLearn rq => rq.wellFormed
  | .lampLearnDone _ _ => true
  | .baySet rq => rq.wellFormed
  | .bayGet rq => rq.wellFormed
  | .bayFs rq => rq.wellFormed
  | .laneSet rq => rq.wellFormed
  | .laneGet rq => rq.wellFormed
  | .laneArm rq => rq.wellFormed
  | .laneDisarm rq => rq.wellFormed
  | .laneReset rq => rq.wellFormed
  | .laneRead rq => rq.wellFormed
  | .pwrStatus rq => rq.wellFormed
  | .nodeReset rq => rq.wellFormed
  | .modeSet rq => rq.wellFormed
  | .nodeDormant rq => rq.wellFormed
  | .pwrClear rq => rq.wellFormed
  | .ptSet rq => rq.wellFormed
  | .ptGet rq => rq.wellFormed
  | .ptRead rq => rq.wellFormed
  | .ptStates rq => rq.wellFormed
  | .ptAck rq => rq.wellFormed
  | .ptShelve rq => rq.wellFormed
  | .ptInhibit rq => rq.wellFormed
  | .grpSet rq => rq.wellFormed
  | .grpGet rq => rq.wellFormed
  | .grpRead rq => rq.wellFormed
  | .grpAck rq => rq.wellFormed
  | .hbStatus rq => rq.wellFormed
  | .hbOverride rq => rq.wellFormed
  | .hbSysAck rq => rq.wellFormed
  | .grnStatus rq => rq.wellFormed
  | .grnRead rq => rq.wellFormed
  | .grnFreeze rq => rq.wellFormed
  | .grnRelease rq => rq.wellFormed
  | .clkGet rq => rq.wellFormed
  | .clkSet rq => rq.wellFormed
  | .clkLeap rq => rq.wellFormed
  | .clkStatus rq => rq.wellFormed
  | .bramRead rq => rq.wellFormed
  | .bramWrite rq => rq.wellFormed
  | .pnrStatus rq => rq.wellFormed
  | .pnrPort rq => rq.wellFormed
  | .pnrSlot rq => rq.wellFormed
  | .pairStatus rq => rq.wellFormed
  | .pairClear rq => rq.wellFormed
  | .pairAdopt rq => rq.wellFormed
  | .sessOpen rq => rq.wellFormed
  | .sessClose rq => rq.wellFormed
  | .sessStatus rq => rq.wellFormed
  | .nodeIdent rq => rq.wellFormed
  | .memPeek rq => rq.wellFormed
  | .memPoke rq => rq.wellFormed
  | .bulkOpen rq => rq.wellFormed
  | .bulkWrite rq => rq.wellFormed
  | .bulkRead rq => rq.wellFormed
  | .bulkClose rq => rq.wellFormed
  | .bulkStatus rq => rq.wellFormed
  | .cfgWrite rq => rq.wellFormed
  | .cfgRead rq => rq.wellFormed
  | .cfgCommit rq => rq.wellFormed
  | .cfgDiscard rq => rq.wellFormed
  | .cfgStatus rq => rq.wellFormed
  | .cfgRevert rq => rq.wellFormed
  | .calStatus rq => rq.wellFormed
  | .fwStatus rq => rq.wellFormed
  | .fwActivate rq => rq.wellFormed
  | .fwConfirm rq => rq.wellFormed
  | .fwRollback rq => rq.wellFormed
  | .tollIdent rq => rq.wellFormed
  | .tollRead rq => rq.wellFormed
  | .tollSeal rq => rq.wellFormed
  | .tollUnseal rq => rq.wellFormed
  | .tollLogRead rq => rq.wellFormed
  | .tollLogClear rq => rq.wellFormed
  | .ntfSubscribe rq => rq.wellFormed
  | .ntfMask rq => rq.wellFormed
  | .ntfStatus rq => rq.wellFormed
  | .perfRead rq => rq.wellFormed
  | .clkWindowRead _ _ _ _ => true
  | .clkFreezeLapse _ _ => true
  | .clkStagingWrite _ _ _ _ => true
  | .clkApplyCalendar _ _ => true
  | .clkApplyBinary _ _ => true
  | .clkDiscardStaging _ _ => true
  | .clkStagingLapse _ _ => true
  | .supplyOvervoltage _ _ _ => true
  | .supplyWarningConfirmed _ _ => true
  | .supplyWarningCleared _ _ _ _ => true
  | .holdExit _ => true
  | .holdLimitExpire _ => true
  | .resetThresholdConfirmed _ _ _ _ => true
  | .logicDomainOff _ => true
  | .resetThresholdCleared _ _ _ _ => true
  | .inputLost _ _ _ _ => true
  | .cellTest _ _ _ => true
  | .backupLow _ _ _ => true
  | .nresetAssert _ => true
  | .nresetShort _ => true
  | .nresetRelease _ => true
  | .nresetStuck _ => true
  | .nresetStuckClear _ => true
  | .lockstepMismatch _ => true
  | .controlPlaneFault _ => true
  | .ctrlWindowExpire _ => true
  | .logicClockFail _ => true
  | .logicRailFail _ => true
  | .dormantWake _ => true
  | .seatContactOpen _ => true
  | .withdrawStagingDone _ => true
  | .seatContactClose _ _ => true
  | .bootDecision _ _ _ _ _ => true
  | .bootPairDecision _ => true
  | .bootRedecide _ => true
  | .thermalTrip _ _ => true
  | .governorTick _ _ _ loss pBay => decide (loss.length = 16) && decide (pBay.length = 16)
  | .identityScan _ _ _ _ => true
  | .strapChange _ _ _ => true
  | .controlCycleBoundary _ => true
  | .cycleOverrun => true
  | .sweep _ => true
  | .sweepAbandoned _ => true
  | .pointOnDelayExpire _ _ => true
  | .pointOffDelayExpire _ _ => true
  | .shelveExpire _ _ => true
  | .blockDelayExpire _ _ => true
  | .freezeLimit _ => true
  | .ringCycle => true
  | .hbTick _ => true
  | .hbT1Expire _ => true
  | .hbT2Expire _ => true
  | .hbTAttendExpire _ => true
  | .dmPrewarn _ => true
  | .dmExpired _ => true
  | .rosterChange _ => true
  | .hbOverrideEnd _ => true
  | .panelPoll _ _ => true
  | .panelReply _ _ _ => true
  | .panelReplyTimeout _ _ => true
  | .keyAck _ _ => true
  | .keySilence _ _ => true
  | .keyAccept _ _ => true
  | .keyDmOn _ _ => true
  | .keyDmReset _ _ => true
  | .keyDmOff _ _ => true
  | .keyManned _ _ => true
  | .keyUnmanned _ _ => true
  | .hbStateSync _ _ => true
  | .ctrlStall _ => true
  | .fabricStall _ => true
  | .dataStall _ => true
  | .mgmtStall _ => true
  | .tollStall _ => true
  | .ssTimeoutExpire _ _ => true
  | .conversionEnd _ _ _ _ _ _ _ => true
  | .refCheck _ _ _ _ => true
  | .leadConversion _ _ _ => true
  | .impedanceCheck _ _ => true
  | .impedanceCheckDone _ _ _ _ _ _ _ => true
  | .complianceTrip _ _ => true
  | .terminalMonitorScan _ _ v _ => decide (v.length = 128)
  | .protectionTrip _ _ _ _ _ => true
  | .protectionReconnect _ _ => true
  | .bayStart _ _ => true
  | .bayFault _ _ => true
  | .railUpdate _ _ _ _ => true
  | .outputCondition _ _ _ _ _ _ => true
  | .ioutReachUpdate _ _ _ _ => true
  | .openLoopProbe _ _ _ => true
  | .srcHoldExpire _ _ => true
  | .cmdTimeoutExpire _ _ => true
  | .repeaterStuck _ _ _ => true
  | .hartPoll _ _ => true
  | .hartReply _ _ _ => true
  | .hartReplyTimeout _ _ _ => true
  | .hartBurstFrame _ _ _ => true
  | .diSample _ _ _ _ => true
  | .diSupervisionPulse _ _ _ _ => true
  | .sensorSupplyTrip _ _ => true
  | .cntEdge _ _ _ => true
  | .frqEdge _ _ _ _ => true
  | .frqGateEnd _ _ => true
  | .switchTrip _ _ _ => true
  | .switchRetry _ _ _ => true
  | .doFaultDetect _ _ _ _ _ _ => true
  | .demagLimit _ _ _ => true
  | .lampSample _ _ _ => true
  | .lampColdTest _ _ _ => true
  | .lampExtV _ _ _ => true
  | .flashPhase _ _ => true
  | .fieldSupplyThreshold _ _ _ _ _ => true
  | .latchFloorPassed _ _ => true
  | .bayCurrentSample _ _ _ _ loads => decide (loads.length = 32)
  | .laneWordArrival _ _ _ _ _ => true
  | .laneWdExpire _ _ _ => true
  | .laneOutputTrip _ _ _ => true
  | .lanePulseTest _ _ _ => true
  | .laneDegradeExpire _ _ => true
  | .laneDisc _ _ => true
  | .granarySubmit _ _ => true
  | .lossRecord _ _ => true
  | .granaryDrainPage _ => true
  | .granaryFlush _ => true
  | .sectorErase _ => true
  | .floodEnd _ _ => true
  | .floodSummary _ _ => true
  | .grnLeaseExpire _ => true
  | .grnFreezeLimit _ => true
  | .wearReport _ => true
  | .ppsEdge _ _ => true
  | .timeSentence _ _ => true
  | .timeLockLoss _ => true
  | .ringLockLoss _ => true
  | .timeStep _ => true
  | .leapHold _ => true
  | .clockSlaveSecond _ => true
  | .oscStopDetect _ => true
  | .clockRangeEnd _ => true
  | .syncFrame _ _ _ f => f.wellFormed
  | .linkFrame _ _ _ f => f.wellFormed
  | .dataFrame _ _ f => f.wellFormed
  | .pollFrame _ _ f => f.wellFormed
  | .nilFrame _ _ f => f.wellFormed
  | .acycFrame _ _ f => f.wellFormed
  | .babbleReopen _ _ => true
  | .portSilent _ _ => true
  | .portSyncLoss _ _ _ => true
  | .dataStart _ => true
  | .addrClashClear _ => true
  | .sfpInsert _ _ _ _ _ _ => true
  | .sfpRemove _ _ => true
  | .sfpDiagPoll _ _ _ => true
  | .heartbeatRx _ _ _ => true
  | .partIRx _ _ => true
  | .partCRx _ _ => true
  | .heartbeatLoss _ => true
  | .pairLaneFallback _ => true
  | .readbackMismatch _ _ _ => true
  | .disagree _ _ => true
  | .pairRefCheck _ _ => true
  | .forcedRelease _ => true
  | .takeoverYieldCheck _ => true
  | .sluiceYield _ => true
  | .sluiceReclaim _ => true
  | .sluiceShutIn _ _ => true
  | .sluiceWatchdogExpire _ => true
  | .sluiceLoopFault _ _ _ => true
  | .handoverClaim _ => true
  | .handoverTimeout _ => true
  | .resyncStep _ _ => true
  | .pairRecordRx _ _ => true
  | .sessionTableRx _ _ => true
  | .peerCommitRx _ _ _ => true
  | .commitPeerTimeout _ => true
  | .mailboxAck _ => true
  | .peerReplyRx _ _ r => r.wellFormed
  | .sessionIdleExpire _ _ => true
  | .bulkIdleExpire _ _ => true
  | .notifyHoldExpire _ _ => true
  | .fwTrialExpire _ => true
  | .tollSealBroken _ _ _ => true
  | .tollPeerPresent _ => true
  | .tollCheckpoint _ => true
  | .tollCapture _ => true
  | .tollFault _ => true
  | .traceSync _ => true
  | .traceCounters _ => true
  | .svcDatagram _ _ => true
  | .peerPresOpen _ => true
  | .sluicePeerReleased _ => true
  | .commitBankWritten _ => true
  | .commitPeerAck _ => true
  | .bulkCloseDone _ _ => true

end Sys2Proof
end

