-- ==== Sys2Proof/Safety.lean ====
section
/-! DEFINITION. The terms of the claims: which requests Table 16.4 lets through, what a reply and a frame of a command are, and what
holds in every state of a unit. -/

namespace Sys2Proof.Machine

/-- A command answers a next state. -/
def Completes (i : Instr) (s : State) : Prop := ∃ t, exec i s = .next t

/-- A state without what tracing, recording and replying touch: what the node sends, the sessions, the queues of packets, the intake
ports of the Granary with the records owed to them, the trace and the count of free values. -/
def State.rest (s : State) : State :=
  { s with
    out := [], free := 0, trace := TraceSt.initial, grn := { s.grn with ports := [], owed := [] }
    host := { s.host with sessions := [], cmdQueue := [], svcQueue := [], replyQueue := [], replyWait := [], busyReplies := 0 } }

/-- `b` differs from `a` at most in what tracing, recording and replying touch. -/
def Quiet (a b : State) : Prop := b.rest = a.rest

/-- A sequence number that a session takes as new (R478): up to 256 above H, or within 64 of H and not yet used. -/
def FreshNumber (seq : Nat) (ss : Session) : Prop :=
  (1 ≤ seqDiff seq ss.high ∧ seqDiff seq ss.high ≤ 256) ∨
    ((seqDiff seq ss.high = 0 ∨ 4294967296 - 63 ≤ seqDiff seq ss.high) ∧ markOf ss seq = none)

/-- Steps 8 to 12 of Table 16.4 let a request of a class with a session through. -/
def InSession (op : Nat) (rq : Request) (cls : Rights) (pl : List Byte) (s : State) : Prop :=
  ∃ ss, s.sessionFor rq.session rq.link = some ss ∧ pl = bareBytes rq ∧ cls = classOf op pl s ∧
    (2 ≤ cls → hasBit rq.flags flagAuth = true) ∧
    (hasBit rq.flags flagAuth = true →
      32 ≤ rq.payload.length ∧ macOf ss.key { reqPacket rq op with payload := pl } = rq.payload.drop pl.length) ∧
    cls ≤ ss.rights ∧ FreshNumber rq.sequence ss ∧
    (ss.marks.filter fun m => decide (m.2 = SeqMark.outstanding)).length < 32

/-- The checks of Table 16.4 let a request through (R474): its class is `cls` and its payload without the MAC is `pl`. -/
def Passes (op : Nat) (rq : Request) (cls : Rights) (pl : List Byte) (s : State) : Prop :=
  hasBit rq.flags flagReply = false ∧ (rq.link.svc = true ∨ rq.link.viaPeer = true ∨ rq.source = rq.link.src) ∧
    s.nd.mgmtStalled = false ∧ rq.version = 1 ∧ rq.payload.length ≤ 1024 ∧
    (hasBit rq.flags flagLocal = true ∨ rq.target = s.ponor.nodeAddr) ∧ s.addressed rq.flags = .here ∧
    ((opClass op = some 0 ∧ cls = 0 ∧ pl = rq.payload ∧ rq.session = 255 ∧ hasBit rq.flags flagAuth = false) ∨
      (opClass op ≠ none ∧ opClass op ≠ some 0 ∧ 1 ≤ cls ∧ InSession op rq cls pl s))

/-- The request is taken by the chapter that owns its opcode: the unit runs, the checks pass, the unit executes node requests or may
execute this one (R473), and no sealed Toll partition bars it (R546). -/
def Taken (op : Nat) (rq : Request) (cls : Rights) (pl : List Byte) (s : State) : Prop :=
  (s.begin rq.t).alive = true ∧ Passes op rq cls pl (s.begin rq.t) ∧ (s.begin rq.t).tollBars op pl = false ∧
    ((s.begin rq.t).executes || unitAllowed op pl (s.begin rq.t)) = true

/-- Check `n` of Table 16.4 passes for a request, steps 2 to 12. -/
def CheckPasses (op : Nat) (rq : Request) (s : State) : Nat → Prop
  | 2 => hasBit rq.flags flagReply = false ∧ (rq.link.svc = true ∨ rq.link.viaPeer = true ∨ rq.source = rq.link.src)
  | 3 => rq.version = 1
  | 4 => rq.payload.length ≤ 1024 ∧ (hasBit rq.flags flagAuth = true → 32 ≤ rq.payload.length)
  | 5 => hasBit rq.flags flagLocal = true ∨ rq.target = s.ponor.nodeAddr
  | 6 => s.addressed rq.flags = .here
  | 7 => opClass op ≠ none
  | 8 => if opClass op = some 0 then rq.session = 255 ∧ hasBit rq.flags flagAuth = false
      else (s.sessionFor rq.session rq.link).isSome = true
  | 9 => opClass op ≠ some 0 → ∀ ss, s.sessionFor rq.session rq.link = some ss →
      (2 ≤ classOf op (bareBytes rq) s → hasBit rq.flags flagAuth = true) ∧
      (hasBit rq.flags flagAuth = true →
        macOf ss.key { reqPacket rq op with payload := bareBytes rq } = rq.payload.drop (bareBytes rq).length)
  | 10 => opClass op ≠ some 0 → ∀ ss, s.sessionFor rq.session rq.link = some ss → classOf op (bareBytes rq) s ≤ ss.rights
  | 11 => opClass op ≠ some 0 → ∀ ss, s.sessionFor rq.session rq.link = some ss → FreshNumber rq.sequence ss
  | 12 => opClass op ≠ some 0 → ∀ ss, s.sessionFor rq.session rq.link = some ss →
      (ss.marks.filter fun m => decide (m.2 = SeqMark.outstanding)).length < 32
  | _ => True

/-- Check `n` is the first of Table 16.4 that fails. -/
def FirstFailed (op : Nat) (rq : Request) (s : State) (n : Nat) : Prop :=
  (∀ m < n, CheckPasses op rq s m) ∧ ¬CheckPasses op rq s n

/-- The state in which the owning chapter takes the request: its number outstanding, its arrival traced. -/
def begun (op : Nat) (rq : Request) (cls : Rights) (s : State) : State :=
  takenState cls rq (traceCmd 0x10 13 (reqPacket rq op) (bareBytes rq) (dequeue (reqPacket rq op) (s.begin rq.t)))

/-- A packet has been put on its way: sent on SVC or the packet lane, or in the reply queue of the rings. -/
def Sent (p : Packet) (s : State) : Prop :=
  .packet p ∈ s.out ∨ .peer 2 (packetBytes p) ∈ s.out ∨ p ∈ s.host.replyQueue ∨ p ∈ s.host.replyWait

/-- The reply to a request has been put on its way with a status and a payload, behind which a MAC may stand (R466). -/
def Replied (tk : Ticket) (status : Nat) (pl : List Byte) (s : State) : Prop :=
  ∃ p, Sent p s ∧ hasBit p.flags flagReply = true ∧ p.opcode = tk.opcode ∧ p.session = tk.session ∧ p.retry = tk.retry ∧
    p.sequence = tk.sequence ∧ p.target = tk.source ∧ p.status = status ∧ pl <+: p.payload

/-- The request is answered with a status and no payload, and nothing else comes of it. -/
def Declined (tk : Ticket) (status : Nat) (a b : State) : Prop := Quiet a b ∧ Replied tk status [] b

/-- The command `op` is served: whenever it is taken and its operands are such that `ok` holds, it answers a next state that is
`effect` of the state in which its chapter begins, but for what tracing, recording and replying touch, and DONE goes out with the
payload `bytes`. -/
def Serves (op : Nat) (row : Request → Instr) (ok : Ticket → List Byte → State → Prop)
    (bytes : Ticket → List Byte → State → List Byte) (effect : Ticket → List Byte → State → State) : Prop :=
  ∀ rq cls pl s, Taken op rq cls pl s → ok (reqTicket rq op) pl (begun op rq cls s) →
    ∃ t, exec (row rq) s = .next t ∧ Quiet (effect (reqTicket rq op) pl (begun op rq cls s)) t ∧
      Replied (reqTicket rq op) stDone (bytes (reqTicket rq op) pl (begun op rq cls s)) t

/-- A command that reads: it is served and changes nothing. -/
def Reads (op : Nat) (row : Request → Instr) (ok : List Byte → State → Prop) (bytes : List Byte → State → List Byte) : Prop :=
  Serves op row (fun _ pl s => ok pl s) (fun _ pl s => bytes pl s) (fun _ _ s => s)

/-- A command of reply kind B, W or L is accepted: whenever it is taken and `ok` holds of its operands, the next state is `effect` of
the state in which its chapter begins. -/
def Accepts (op : Nat) (row : Request → Instr) (ok : Ticket → List Byte → State → Prop)
    (effect : Rights → Ticket → List Byte → State → State) : Prop :=
  ∀ rq cls pl s, Taken op rq cls pl s → ok (reqTicket rq op) pl (begun op rq cls s) →
    exec (row rq) s = .next (effect cls (reqTicket rq op) pl (begun op rq cls s))

/-- An event at physical time `t` has its effect: where `guard` holds once time has moved on to `t`, the next state is `effect` of
that state. -/
def Happens (t : Nat) (s : State) (i : Instr) (guard : State → Prop) (effect : State → State) : Prop :=
  guard (s.begin t) → exec i s = .next (effect (s.begin t))

/-- The state in which a sweep that is due begins: the work of a boundary that falls with it is done (R23). -/
def State.atSweep (s : State) : State := if s.sweepDue then boundarySteps s else s

/-- An event of a sweep: where a sweep is due and what the event names comes about in it, the sweep runs. -/
def Sweeps (i : Micros → Instr) (names : State → Prop) : Prop :=
  ∀ t s, Happens t s (i t) (fun x => x.atSweep.sweepDue = true ∧ names x.atSweep)
    (fun x => dueFlips (runSweep x.atSweep.sweepStart x.atSweep))

/-- An event of a Hopper Bell tick: where a tick is due and what the event names comes about in it, the tick runs. -/
def Ticks (i : Micros → Instr) (names : State → Prop) : Prop :=
  ∀ t s, Happens t s (i t) (fun x => x.tickDue = true ∧ names x) (fun x => runTick x.tickStart x)

/-- The management plane serves an open session. -/
def SessionUp (k : Nat) (s : State) : Prop := s.alive = true ∧ s.nd.mgmtStalled = false ∧ (s.sess k).state ≠ .free

/-- The opcode and the row that set the setup of a subject. -/
def setRow : Subj → Nat × (Request → Instr)
  | .ch => (0x0201, .chSetup)
  | .meas => (0x0210, .measSet)
  | .curve => (0x0212, .curveSet)
  | .sup => (0x0220, .supSet)
  | .out => (0x0230, .outSet)
  | .hart => (0x0240, .hartSet)
  | .dio => (0x0250, .dioSet)
  | .lamp => (0x0260, .lampSet)
  | .bay => (0x0270, .baySet)
  | .lane => (0x0280, .laneSet)
  | .pt => (0x1001, .ptSet)
  | .grp => (0x1030, .grpSet)

/-- The opcode and the row that return it. -/
def getRow : Subj → Nat × (Request → Instr)
  | .ch => (0x0202, .chGet)
  | .meas => (0x0211, .measGet)
  | .curve => (0x0213, .curveGet)
  | .sup => (0x0221, .supGet)
  | .out => (0x0231, .outGet)
  | .hart => (0x0241, .hartGet)
  | .dio => (0x0251, .dioGet)
  | .lamp => (0x0261, .lampGet)
  | .bay => (0x0271, .bayGet)
  | .lane => (0x0281, .laneGet)
  | .pt => (0x1002, .ptGet)
  | .grp => (0x1031, .grpGet)

/-- Toll log entries number on from `n` and chain on from the hash `h` (Table 18.7, R543). -/
def ChainedFrom : List Byte → Nat → List TollEntry → Prop
  | _, _, [] => True
  | h, n, e :: es => e.no = n + 1 ∧ e.chain = (sha256 (h ++ e.body)).take 8 ∧ ChainedFrom e.chain (n + 1) es

/-- The Toll log's numbers rise by one from 1 and its hash chain is whole. -/
def TollLogWhole (log : List TollEntry) : Prop := ChainedFrom (zeros 8) 0 log

/-- What holds of a unit in every state: the partition is absent on the EVT-512M and nowhere else (R2, R527), the Toll log's
chain is whole (R543), USER of the backup RAM has its 64 bytes (Table 13.7), and the waiting commands have operands that can be. -/
def Sound (s : State) : Prop :=
  (s.toll.state = .absent ↔ s.nd.part = .m) ∧ TollLogWhole s.toll.log ∧ s.clk.user.length = 64 ∧
    ∀ i ∈ s.pending, i.wellFormed = true

end Sys2Proof.Machine
end

