-- ==== Sys2Proof/Certificates/Slice0/Obligations.lean ====
section
/-! DEFINITION. The statements for the provers. Each is about the model's `exec`, `step` or a shared operation; its docstring names the
rules or section files of the spec that it rests on. -/

open Sys2Proof Sys2Proof.Machine

/-- Each setup command stages the whole setup of its object and answers DONE. Rule: 04_universal_channel.md, 05_measurement_chain.md,
06_sensor_supervision.md, 07_analog_outputs_hart.md, 08_digital_io_lamps.md, 09_safety_lanes.md, 10_alarm_points.md,
11_groups_and_duty_call.md, 17_configuration_calibration.md. -/
def Obligations.SetupCommandsStage : Prop :=
  ∀ (j : Subj) (st : List Change), Accepts (setRow j).1 (setRow j).2
    (fun tk pl s => pl.length = j.size ∧ fieldAt pl 0 j.keyLen < j.count ∧
      (tollHeld (j.pid (fieldAt pl 0 j.keyLen) 0) && s.tollOwns) = false ∧ (reservedOf j pl).any (· != 0#8) = false ∧
      firstBad j pl = none ∧ stageTry tk.session (setupChanges j (fieldAt pl 0 j.keyLen) pl) s = .ok st)
    (fun cls tk _ s => finish cls tk stDone (setupReply j 255)
      { s with cfg := { s.cfg with staged := st, stageOwner := some tk.session } })

/-- Each setup read returns the setup of an object as the bank asked for holds it. Rule: 17_configuration_calibration.md,
04_universal_channel.md, 10_alarm_points.md, 11_groups_and_duty_call.md. -/
def Obligations.SetupsAreReturned : Prop :=
  ∀ (j : Subj) (c : Cfg), Serves (getRow j).1 (getRow j).2
    (fun _ pl s => pl.length = j.keyLen + 1 ∧ fieldAt pl 0 j.keyLen < j.count ∧ s.bankView (byteAt pl j.keyLen) = some c)
    (fun _ pl _ => setupBytes c j (fieldAt pl 0 j.keyLen)) (fun _ _ s => s)

/-- The reads of channels, outputs, lamps, bays and lanes answer with their bytes and change nothing. Rule: 04_universal_channel.md,
05_measurement_chain.md, 06_sensor_supervision.md, 07_analog_outputs_hart.md, 08_digital_io_lamps.md, 09_safety_lanes.md. -/
def Obligations.FieldReadsAnswer : Prop :=
  Reads 0x0203 .chStatus (fun pl _ => pl.length = 2 ∧ fieldAt pl 0 2 < 512) (fun pl s => chStatusBytes (fieldAt pl 0 2) s) ∧
  Reads 0x0204 .chBay (fun pl _ => pl.length = 1 ∧ fieldAt pl 0 1 < 16) (fun pl s => chBayBytes (fieldAt pl 0 1) s) ∧
  Reads 0x0215 .chRead (fun pl _ => pl.length = 2 ∧ fieldAt pl 0 2 < 512) (fun pl s => chReadBytes (fieldAt pl 0 2) s) ∧
  Reads 0x0222 .supRead (fun pl _ => pl.length = 2 ∧ fieldAt pl 0 2 < 512) (fun pl s => supBytes (fieldAt pl 0 2) s) ∧
  Reads 0x0233 .outRead (fun pl _ => pl.length = 2 ∧ fieldAt pl 0 2 < 512) (fun pl s => outReadBytes (fieldAt pl 0 2) s) ∧
  Reads 0x0243 .hartList (fun pl _ => pl.length = 2 ∧ fieldAt pl 0 2 < 512) (fun pl s => hartListBytes (fieldAt pl 0 2) s) ∧
  Reads 0x0253 .dioRead (fun pl _ => pl.length = 2 ∧ fieldAt pl 0 2 < 512) (fun pl s => dioReadBytes (fieldAt pl 0 2) s) ∧
  Reads 0x0263 .lampRead (fun pl _ => pl.length = 2 ∧ fieldAt pl 0 2 < 512) (fun pl s => lampReadBytes (fieldAt pl 0 2) s) ∧
  Reads 0x0285 .laneRead (fun pl _ => pl.length = 1 ∧ fieldAt pl 0 1 < 32) (fun pl s => laneReadBytes (fieldAt pl 0 1) s) ∧
  Reads 0x0272 .bayFs (fun pl _ => pl.length = 2 ∧ byteAt pl 0 < 16 ∧ hasBit (byteAt pl 1) 0 = false)
    (fun pl s => bayFsBytes (byteAt pl 0) s) ∧
  Serves 0x0272 .bayFs (fun _ pl _ => pl.length = 2 ∧ byteAt pl 0 < 16 ∧ hasBit (byteAt pl 1) 0 = true)
    (fun _ pl s => bayFsBytes (byteAt pl 0) s)
    (fun _ pl s => s.modBay (byteAt pl 0) fun y =>
      { y with ssExpired := false, latchLost := false, vFsMin := y.vFs, iFsPeak := y.iFs })

/-- The reads of the node, alarms, clock, rings, pair, sessions and stores answer and change nothing; GRN_STATUS first judges the
wear. Rule: 03_power_reset_modes.md, 10_alarm_points.md, 11_groups_and_duty_call.md, 12_granary.md, 13_clock.md, 14_ponor_link.md,
15_redundant_pair.md, 16_command_protocol.md, 17_configuration_calibration.md, 18_toll_partition.md, 19_notification_trace.md. -/
def Obligations.NodeReadsAnswer : Prop :=
  Reads 0x0301 .pwrStatus (fun pl _ => pl = []) (fun _ s => pwrStatusBytes s) ∧
  Reads 0x1003 .ptRead (fun pl _ => pl.length = 2) (fun pl s => ptReadBytes (fieldAt pl 0 2) s) ∧
  Reads 0x1004 .ptStates
    (fun pl _ => pl.length = 4 ∧ 1 ≤ fieldAt pl 2 2 ∧ fieldAt pl 2 2 ≤ 127 ∧ fieldAt pl 0 2 + fieldAt pl 2 2 ≤ 65536)
    (fun pl s => le 2 (fieldAt pl 0 2) ++ le 2 (fieldAt pl 2 2) ++
      (rangeFrom (fieldAt pl 0 2) (fieldAt pl 2 2)).flatMap fun q => ptBytes (s.imgPt q)) ∧
  Reads 0x1032 .grpRead (fun pl _ => pl.length = 2 ∧ fieldAt pl 0 2 < 16384) (fun pl s => grpReadBytes (fieldAt pl 0 2) s) ∧
  Reads 0x1101 .hbStatus (fun pl _ => pl = []) (fun _ s => hbStatusBytes s) ∧
  Serves 0x1201 .grnStatus (fun _ pl _ => pl = []) (fun tk _ s => (grnStatusBody tk [] s).2.1) (fun _ _ s => wearStep s) ∧
  Reads 0x1304 .clkStatus (fun pl _ => pl = []) (fun _ s => le 2 s.clkStatus ++ le 1 (bit (s.ring 0).isMaster) ++ le 1 0 ++
    leInt 4 s.clk.offset ++ leInt 4 s.slewPpb.1 ++ le 8 s.clk.lastLock ++ le 4 s.clk.ppsEdges ++ le 4 s.clk.senOk ++
    le 4 s.clk.senBad ++ le 4 s.clk.steps) ∧
  Reads 0x1401 .pnrStatus (fun pl _ => pl = []) (fun _ s => pnrStatusBytes s) ∧
  Reads 0x1403 .pnrSlot
    (fun pl _ => pl.length = 3 ∧ (byteAt pl 2 = 0 ∧ fieldAt pl 0 2 < 1024 ∨ byteAt pl 2 = 1 ∧ fieldAt pl 0 2 < 512))
    (fun pl s => slotBytes { tget RemoteSlot.initial s.ponor.slots (fieldAt pl 0 2 + 1024 * byteAt pl 2) with
      index := s.slotWhat (fieldAt pl 0 2 + 1024 * byteAt pl 2) % 65536 }) ∧
  Reads 0x1501 .pairStatus (fun pl _ => pl = []) (fun _ s => pairStatusBytes s) ∧
  Reads 0x1603 .sessStatus (fun pl _ => pl = []) (fun _ s => (List.range 8).flatMap fun k => sessBytes s.now (s.sess k)) ∧
  Reads 0x1604 .nodeIdent (fun pl _ => pl = []) (fun _ s => identBytes s) ∧
  (∀ c, Serves 0x1702 .cfgRead (fun _ pl s => pl.length = 5 ∧ byteAt pl 4 ≤ 2 ∧ s.bankRecords (byteAt pl 4) = some c)
    (fun tk pl _ => takeRecords (if hasBit tk.flags flagAuth then 992 else 1024) (c.filter fun x => decide (fieldAt pl 0 4 ≤ x.1)))
    (fun _ _ s => s)) ∧
  Reads 0x1705 .cfgStatus (fun pl _ => pl = []) (fun _ s => cfgStatusBytes s) ∧
  (∀ c, Reads 0x1710 .calStatus (fun pl s => pl = [] ∧ s.cal = some c)
    (fun _ s => c.header ++ le 1 (bitsOf [s.cfg.cal0.isSome, s.cfg.cal1.isSome]))) ∧
  Reads 0x1720 .fwStatus (fun pl _ => pl = []) (fun _ s => le 1 s.cfg.running ++ le 3 0 ++ fwSlotBytes 0 s ++ fwSlotBytes 1 s) ∧
  Reads 0x1801 .tollIdent (fun pl _ => pl = []) (fun _ s => tollHeader s) ∧
  Reads 0x1802 .tollRead
    (fun pl s => pl.length = 2 ∧ 1 ≤ byteAt pl 1 ∧ byteAt pl 0 + byteAt pl 1 ≤ 16 ∧ s.tollRuns = true)
    (fun pl s => (rangeFrom (byteAt pl 0) (byteAt pl 1)).flatMap fun p => tollPtBytes s.toll.gen (s.tollPt p)) ∧
  Serves 0x1903 .ntfStatus (fun _ pl _ => pl = [])
    (fun tk _ s => le 32 (s.sess tk.session).sub ++ le 32 (s.sess tk.session).hold ++ le 2 (s.sess tk.session).notifyHold ++
      le 2 (s.sess tk.session).items.length ++ le 4 (s.sess tk.session).notifySeq ++ le 4 (s.sess tk.session).notifySent)
    (fun _ _ s => s)

/-- The commands of reply kinds B and W are put where the next boundary, sweep or tick takes them. Rule: 01_architecture.md,
16_command_protocol.md, 07_analog_outputs_hart.md, 08_digital_io_lamps.md, 09_safety_lanes.md, 10_alarm_points.md,
11_groups_and_duty_call.md. -/
def Obligations.MailboxCommandsWait : Prop :=
  Accepts 0x0232 .outWrite (fun _ pl s => outWriteCheck pl s = none) (fun _ tk pl s => postWork (.command tk pl) s) ∧
  Accepts 0x0252 .doWrite (fun _ pl s => doWriteCheck pl s = none) (fun _ tk pl s => postWork (.command tk pl) s) ∧
  Accepts 0x0254 .cntPreset (fun _ pl s => pl.length = 8 ∧ fieldAt pl 0 2 < 512 ∧ s.fn (fieldAt pl 0 2) = .cnt ∧ s.nd.mode = .duty)
    (fun _ tk pl s => postWork (.command tk pl) s) ∧
  Accepts 0x0262 .lampWrite (fun _ pl s => lampWriteCheck pl s = none) (fun _ tk pl s => postWork (.command tk pl) s) ∧
  Accepts 0x0282 .laneArm (fun _ pl s => laneArmCheck pl s = none) (fun _ tk pl s => postWork (.command tk pl) s) ∧
  Accepts 0x0283 .laneDisarm (fun _ pl s => laneDisarmCheck pl s = none) (fun _ tk pl s => postWork (.command tk pl) s) ∧
  Accepts 0x0284 .laneReset (fun _ pl s => laneResetCheck pl s = none) (fun _ tk pl s => postWork (.command tk pl) s) ∧
  Accepts 0x1010 .ptAck (fun _ pl _ => pl.length = 4) (fun _ tk pl s => postWork (.command tk pl) s) ∧
  Accepts 0x1011 .ptShelve (fun _ pl _ => pl.length = 4) (fun _ tk pl s => postWork (.command tk pl) s) ∧
  Accepts 0x1012 .ptInhibit (fun _ pl _ => pl.length = 4 ∧ byteAt pl 2 ≤ 1 ∧ hasBit (byteAt pl 3) 0 = true)
    (fun _ tk pl s => postWork (.command tk pl) s) ∧
  Accepts 0x1033 .grpAck (fun _ pl _ => pl.length = 12 ∧ fieldAt pl 0 2 < 16384) (fun _ tk pl s => postWork (.command tk pl) s) ∧
  Accepts 0x1102 .hbOverride (fun _ pl _ => pl.length = 16 ∧ (byteAt pl 0 < 16 ∨ byteAt pl 0 = 255))
    (fun _ tk pl s => { s with host := { s.host with bellCmds := s.host.bellCmds ++ [(tk, pl)] } }) ∧
  Accepts 0x1103 .hbSysAck (fun _ pl _ => pl.length = 2)
    (fun _ tk pl s => { s with host := { s.host with bellCmds := s.host.bellCmds ++ [(tk, pl)] } })

/-- The commands that start work on a channel begin it, and LEAD_CAPTURE and LAMP_LEARN end with their results. Rule:
05_measurement_chain.md, 06_sensor_supervision.md, 07_analog_outputs_hart.md, 08_digital_io_lamps.md. -/
def Obligations.ChannelWorkBegins : Prop :=
  Accepts 0x0214 .leadCapture
    (fun _ pl s => pl.length = 2 ∧ fieldAt pl 0 2 < 512 ∧ (s.fn (fieldAt pl 0 2)).excited = true ∧
      wiringIn s.cfg.inForce (fieldAt pl 0 2) = 2 ∧ s.noCapture (fieldAt pl 0 2) = false ∧ (s.ch (fieldAt pl 0 2)).capture = none)
    (fun _ tk pl s => inProgress tk (s.modCh (fieldAt pl 0 2) fun r => { r with capture := some ⟨tk, 0, 0⟩ })) ∧
  (∀ t n c s, Happens t s (.leadCaptureDone t n) (fun x => (x.ch n).capture = some c ∧ 10 ≤ c.count) (endCapture n c)) ∧
  Serves 0x0223 .supBaseline
    (fun _ pl s => pl.length = 2 ∧ fieldAt pl 0 2 < 512 ∧ s.supervised (fieldAt pl 0 2) = true ∧
      s.gate (bayOf (fieldAt pl 0 2)) = true)
    (fun _ _ _ => []) (fun _ pl s => setSup (fieldAt pl 0 2) SupRun.capture s) ∧
  Serves 0x0223 .supBaseline
    (fun _ pl s => pl.length = 2 ∧ fieldAt pl 0 2 = 0xFFFF ∧ ∀ n < 512, s.supervised n = true → s.gate (bayOf n) = true)
    (fun _ _ _ => []) (fun _ _ s => (allChans.filter s.supervised).foldl (fun s n => setSup n SupRun.capture s) s) ∧
  Accepts 0x0224 .supCheck
    (fun _ pl s => pl.length = 2 ∧ fieldAt pl 0 2 < 512 ∧ s.supervised (fieldAt pl 0 2) = true ∧
      s.gate (bayOf (fieldAt pl 0 2)) = true ∧ (s.sup (fieldAt pl 0 2)).check = none)
    (fun _ tk pl s => inProgress tk (s.modSup (fieldAt pl 0 2) fun u =>
      { u with due := some (match u.due with | some d => min d s.node | none => s.node), waiting := u.waiting ++ [tk] })) ∧
  Accepts 0x0242 .hartScan
    (fun _ pl s => pl.length = 2 ∧ fieldAt pl 0 2 < 512 ∧ s.hartMode (fieldAt pl 0 2) ≠ 0 ∧ (s.ch (fieldAt pl 0 2)).modem < 8 ∧
      (s.hrt (fieldAt pl 0 2)).scan.isSome = true)
    (fun _ tk pl s => inProgress tk (s.modHart (fieldAt pl 0 2) fun h => { h with scanTickets := h.scanTickets ++ [tk] })) ∧
  Accepts 0x0242 .hartScan
    (fun tk pl s => pl.length = 2 ∧ fieldAt pl 0 2 < 512 ∧ s.hartMode (fieldAt pl 0 2) ≠ 0 ∧ (s.ch (fieldAt pl 0 2)).modem < 8 ∧
      ((s.modHart (fieldAt pl 0 2) fun h => { h with scanTickets := h.scanTickets ++ [tk] }).hrt (fieldAt pl 0 2)).scan = none)
    (fun _ tk pl s => inProgress tk (hartScan (fieldAt pl 0 2)
      (s.modHart (fieldAt pl 0 2) fun h => { h with scanTickets := h.scanTickets ++ [tk] }))) ∧
  Accepts 0x0244 .hartPass
    (fun _ pl s => 6 ≤ pl.length ∧ pl.length = 6 + byteAt pl 4 ∧ fieldAt pl 0 2 < 512 ∧ byteAt pl 2 ≤ 15 ∧
      s.hartMode (fieldAt pl 0 2) ≠ 0 ∧ s.gate (bayOf (fieldAt pl 0 2)) = true ∧ byteAt pl 3 ≠ 6 ∧ byteAt pl 3 ≠ 109 ∧
      (byteAt pl 3 = 0 ∨ ((s.hrt (fieldAt pl 0 2)).dev (byteAt pl 2)).isSome = true) ∧ (s.hrt (fieldAt pl 0 2)).queue.length < 4)
    (fun _ tk pl s => inProgress tk (s.modHart (fieldAt pl 0 2) fun h =>
      { h with queue := h.queue ++ [⟨tk, byteAt pl 2, byteAt pl 3, pl.drop 6⟩] })) ∧
  Accepts 0x0264 .lampLearn
    (fun _ pl s => pl.length = 2 ∧ fieldAt pl 0 2 < 512 ∧ s.fn (fieldAt pl 0 2) = .lamp ∧ (s.outp (fieldAt pl 0 2)).drive = 1 ∧
      (s.dio (fieldAt pl 0 2)).switch.closed = true ∧
      (s.lamp (fieldAt pl 0 2)).onAt + s.lampBlank (fieldAt pl 0 2) + 1000000 ≤ s.now ∧ (s.lamp (fieldAt pl 0 2)).learn = none)
    (fun _ tk pl s => inProgress tk (s.modLamp (fieldAt pl 0 2) fun l => { l with learn := some ⟨tk, 0, 0, 0⟩ })) ∧
  (∀ t n l s, Happens t s (.lampLearnDone t n) (fun x => (x.lamp n).learn = some l ∧ 1000 ≤ l.count) (endLearn n l))

/-- PWR_CLEAR, MODE_SET, NODE_RESET and NODE_DORMANT have their effects. Rule: 03_power_reset_modes.md, 15_redundant_pair.md. -/
def Obligations.PowerCommandsAct : Prop :=
  Serves 0x0305 .pwrClear (fun _ pl _ => pl.length = 4)
    (fun _ pl s => le 4 (s.modNd fun d => { d with cause := d.cause &&& ~~~(BitVec.ofNat 32 (fieldAt pl 0 4) &&& 0x7A#32) }).causeWord)
    (fun _ pl s => s.modNd fun d => { d with cause := d.cause &&& ~~~(BitVec.ofNat 32 (fieldAt pl 0 4) &&& 0x7A#32) }) ∧
  (∀ s', Accepts 0x0303 .modeSet
    (fun tk pl s => pl.length = 2 ∧ byteAt pl 0 < 8 ∧ ¬(s.nd.mode = .duty ∧ byteAt pl 0 = 4) ∧
      modeSet (byteAt pl 0) (hasBit (byteAt pl 1) 0) (inProgress tk s) = some s')
    (fun cls tk _ _ => finish cls tk stDone (le 1 s'.nd.mode.code) s')) ∧
  Accepts 0x0303 .modeSet
    (fun _ pl s => pl.length = 2 ∧ s.nd.mode = .duty ∧ byteAt pl 0 = 4 ∧ s.paired = true ∧ s.peerReady = true ∧
      s.host.afterHandover = none)
    (fun _ tk _ s => beginHandover tk 0 (inProgress tk s)) ∧
  Accepts 0x0302 .nodeReset
    (fun _ pl s => pl.length = 2 ∧ (byteAt pl 0 = 1 ∨ byteAt pl 0 = 2) ∧
      (hasBit (byteAt pl 1) 0 = true ∨ s.paired = false ∨ s.onDuty = false ∨ s.peerMode = 4))
    (fun cls tk pl s => commandedReset (byteAt pl 0) (finish cls tk stDone [] s)) ∧
  Accepts 0x0304 .nodeDormant
    (fun _ pl s => pl.length = 9 ∧ (s.paired = true ∧ s.onDuty = false ∨ s.paired = false ∧ hasBit (byteAt pl 8) 0 = true))
    (fun cls tk pl s => goDormant (fieldAt pl 0 8) (finish cls tk stDone [] s))

/-- GRN_READ renews the lease of its freeze, GRN_FREEZE takes a freeze, GRN_RELEASE ends it. Rule: 12_granary.md. -/
def Obligations.GranaryCommandsAct : Prop :=
  Serves 0x1202 .grnRead
    (fun tk pl s => pl.length = 6 ∧ 16 ≤ fieldAt pl 4 2 ∧ fieldAt pl 4 2 ≤ 1004 ∧ s.freezeOf tk.session = none)
    (fun tk pl s => (grnReadBody tk pl s).2.1) (fun _ _ s => s) ∧
  (∀ f, Serves 0x1202 .grnRead
    (fun tk pl s => pl.length = 6 ∧ 16 ≤ fieldAt pl 4 2 ∧ fieldAt pl 4 2 ≤ 1004 ∧ s.freezeOf tk.session = some f)
    (fun tk pl s => (grnReadBody tk pl s).2.1)
    (fun _ _ s => { s with grn := { s.grn with freeze := some { f with lease := s.now } } })) ∧
  Serves 0x1203 .grnFreeze (fun _ pl s => pl = [] ∧ s.grn.freeze = none)
    (fun _ _ s => le 4 s.grnRange.1.1 ++ le 4 s.grnRange.1.2)
    (fun tk _ s => { s with grn := { s.grn with
      freeze := some ⟨tk.session, s.grnRange.1.1, s.grnRange.1.2, s.now, s.now⟩ } }) ∧
  (∀ f, Serves 0x1203 .grnFreeze (fun tk pl s => pl = [] ∧ s.grn.freeze = some f ∧ f.holder = tk.session)
    (fun _ _ _ => le 4 f.oldest ++ le 4 f.newest)
    (fun _ _ s => { s with grn := { s.grn with freeze := some { f with lease := s.now } } })) ∧
  Serves 0x1204 .grnRelease (fun tk pl s => pl = [] ∧ (s.freezeOf tk.session).isSome = true) (fun _ _ _ => [])
    (fun _ _ s => { s with grn := { s.grn with freeze := none } })

/-- CLK_GET, CLK_SET, CLK_LEAP, BRAM_READ and BRAM_WRITE have their effects. Rule: 13_clock.md. -/
def Obligations.ClockCommandsAct : Prop :=
  Serves 0x1301 .clkGet (fun _ pl _ => pl = [])
    (fun tk _ s => (freezeBlock (lapseWindows s)).1 ++ (upperBytes tk.session (freezeBlock (lapseWindows s)).2).1)
    (fun tk _ s => (upperBytes tk.session (freezeBlock (lapseWindows s)).2).2) ∧
  Accepts 0x1302 .clkSet (fun _ pl _ => pl.length = 32 ∧ (byteAt pl 0 = 1 ∨ byteAt pl 0 = 2))
    (fun cls tk pl s =>
      let r := ctrlWrite tk.session (byteAt pl 0) (stageWrite tk.session 0x20 (pl.drop 8) s)
      finish cls tk r.1 (le 1 (tget 1 r.2.clk.wResult tk.session)) r.2) ∧
  Serves 0x1303 .clkLeap
    (fun _ pl s => pl.length = 8 ∧ (fieldAt pl 0 8 = 0 ∨ s.leapOk (fieldAt pl 0 8) = true) ∧ s.clk.source ≠ .ring)
    (fun _ pl _ => le 8 (fieldAt pl 0 8)) (fun _ pl s => armLeap (fieldAt pl 0 8) s) ∧
  Reads 0x1305 .bramRead (fun pl _ => pl.length = 2 ∧ 64 ≤ byteAt pl 0 ∧ 1 ≤ byteAt pl 1 ∧ byteAt pl 0 + byteAt pl 1 ≤ 128)
    (fun pl s => slice s.clk.user (byteAt pl 0 - 64) (byteAt pl 1)) ∧
  Serves 0x1306 .bramWrite
    (fun _ pl _ => pl.length = byteAt pl 1 + 2 ∧ 64 ≤ byteAt pl 0 ∧ 1 ≤ byteAt pl 1 ∧ byteAt pl 0 + byteAt pl 1 ≤ 128)
    (fun _ _ _ => []) (fun _ pl s => s.modClk fun c => { c with user := overlay c.user (byteAt pl 0 - 64) (pl.drop 2) })

/-- PNR_PORT, PAIR_CLEAR and PAIR_ADOPT answer and have their effects. Rule: 14_ponor_link.md, 15_redundant_pair.md. -/
def Obligations.PairAndPortCommandsAct : Prop :=
  Reads 0x1402 .pnrPort (fun pl _ => pl.length = 2 ∧ byteAt pl 0 < 4 ∧ hasBit (byteAt pl 1) 0 = false)
    (fun pl s => pnrPortBytes (byteAt pl 0) s) ∧
  Serves 0x1402 .pnrPort (fun _ pl _ => pl.length = 2 ∧ byteAt pl 0 < 4 ∧ hasBit (byteAt pl 1) 0 = true)
    (fun _ pl s => pnrPortBytes (byteAt pl 0) s)
    (fun _ pl s => s.modPort (byteAt pl 0) fun x => { x with fcsErr := 0, cuts := 0, rx := 0, tx := 0 }) ∧
  Accepts 0x1502 .pairClear (fun _ pl _ => pl.length = 1 ∧ hasBit (byteAt pl 0) 0 = true)
    (fun cls tk _ s => finish cls tk stDone (le 2 (pairClear s).pair.faults) (pairClear s)) ∧
  Accepts 0x1503 .pairAdopt (fun _ pl s => pl.length = 1 ∧ hasBit (byteAt pl 0) 0 = true ∧ s.peerMode = 4)
    (fun cls tk _ s => finish cls tk stDone
      (le 4 (setRefs s.liveCrc s.imageCrc s).pair.refConfig ++ le 4 (setRefs s.liveCrc s.imageCrc s).pair.refImage)
      (setRefs s.liveCrc s.imageCrc s))

/-- SESS_OPEN opens a session, SESS_CLOSE and idle time end one, and a copied table takes over its sessions. Rule:
16_command_protocol.md. -/
def Obligations.SessionsOpenAndClose : Prop :=
  (∀ key rights ports k, Accepts 0x1601 .sessOpen
    (fun tk pl s => pl.length = 36 ∧ byteAt pl 0 < 8 ∧ s.keySlot (byteAt pl 0) = (key, rights, ports) ∧ rights ≠ 0 ∧
      hasBit ports (bit tk.link.svc) = true ∧ s.sessionPlace = some (k, false))
    (fun _ tk pl s => openSession tk (byteAt pl 0) k rights key (slice pl 4 16) s)) ∧
  Accepts 0x1602 .sessClose (fun _ pl _ => pl = []) (fun cls tk _ s => endSession 3 tk.session (finish cls tk stDone [] s)) ∧
  (∀ t (k : Fin 8) s, Happens t s (.sessionIdleExpire t k)
    (fun x => x.alive = true ∧ (x.paired = false ∨ x.executes = true) ∧ (x.sess k).state ≠ .free ∧
      (x.sess k).lastValid + 1000000 * x.param 0x16000001 ≤ x.now)
    (endSession 4 k)) ∧
  (∀ t tab s, Happens t s (.sessionTableRx t tab) (fun x => x.alive = true ∧ x.paired = true ∧ x.onDuty = false)
    (fun x => (List.range 8).foldl (fun s k =>
      match tab.find? fun c => c.k.val == k with
      | some c => s.modSess k (takeCopy s.now c)
      | none => dropSession k s) x))

/-- MEM_PEEK, MEM_POKE and the clock window rows read and write the clock window of a session. Rule: 13_clock.md,
16_command_protocol.md. -/
def Obligations.WindowsArePeekedAndPoked : Prop :=
  Serves 0x1610 .memPeek
    (fun tk pl _ => pl.length = 8 ∧ 1 ≤ fieldAt pl 4 2 ∧ fieldAt pl 4 2 ≤ (if hasBit tk.flags flagAuth then 984 else 1016) ∧
      inWindow (fieldAt pl 0 2) (fieldAt pl 2 2) (fieldAt pl 4 2) = true)
    (fun tk pl s => pl.take 8 ++ (clkRead tk.session (fieldAt pl 2 2) (fieldAt pl 4 2) s).1)
    (fun tk pl s => (clkRead tk.session (fieldAt pl 2 2) (fieldAt pl 4 2) s).2) ∧
  (∀ done s', Accepts 0x1611 .memPoke
    (fun tk pl s => pl.length = 8 + fieldAt pl 4 2 ∧ 1 ≤ fieldAt pl 4 2 ∧ fieldAt pl 4 2 ≤ 984 ∧
      inWindow (fieldAt pl 0 2) (fieldAt pl 2 2) (fieldAt pl 4 2) = true ∧ wholeFields (fieldAt pl 2 2) (fieldAt pl 4 2) = true ∧
      ((fieldsIn (fieldAt pl 2 2) (fieldAt pl 4 2)).any fun f => decide (f.2.2 = .ro)) = false ∧
      pokeFields tk.session (fieldAt pl 2 2) (pl.drop 8) (fieldsIn (fieldAt pl 2 2) (fieldAt pl 4 2)) s = (stDone, done, s'))
    (fun cls tk pl _ => finish cls tk stDone (pl.take 4 ++ le 2 (done - fieldAt pl 2 2) ++ slice pl 6 2) s')) ∧
  (∀ t (k : Fin 8) (off len : Fin 28) s, Happens t s (.clkWindowRead t k off len) (SessionUp k)
    (fun x => (clkRead k off (len + 1) x).2)) ∧
  (∀ t (k : Fin 8) (off : Fin 24) bs s, Happens t s (.clkStagingWrite t k off bs) (SessionUp k)
    (stageWrite k (0x20 + off) (bs.take (24 - off)))) ∧
  (∀ t (k : Fin 8) s, Happens t s (.clkApplyCalendar t k) (SessionUp k) (fun x => (ctrlWrite k 1 x).2)) ∧
  (∀ t (k : Fin 8) s, Happens t s (.clkApplyBinary t k) (SessionUp k) (fun x => (ctrlWrite k 2 x).2)) ∧
  (∀ t (k : Fin 8) s, Happens t s (.clkDiscardStaging t k) (SessionUp k) (fun x => (ctrlWrite k 3 x).2)) ∧
  (∀ t (k : Fin 8) s, Happens t s (.clkFreezeLapse t k) (fun _ => True) (fun x => x.modClk fun c =>
    { c with shadows := c.shadows.filter fun y => !(y.session == k.val && decide (y.began + 2000 ≤ x.now)) })) ∧
  (∀ t (k : Fin 8) g s, Happens t s (.clkStagingLapse t k)
    (fun x => x.stagingOf k = some g ∧ g.began + 10000000 ≤ x.now)
    (fun x => x.modClk fun c =>
      { c with staging := c.staging.filter (·.session != k.val), lapsed := c.lapsed ++ [k.val] }))

/-- The bulk transfer commands open, write, read, report, close and time out a transfer. Rule: 16_command_protocol.md,
17_configuration_calibration.md. -/
def Obligations.BulkTransfersRun : Prop :=
  (∀ h, Serves 0x1620 .bulkOpen
    (fun tk pl s => pl.length = 8 ∧ byteAt pl 1 = 1 ∧ [0x01, 0x02, 0x03, 0x10, 0x11].contains (byteAt pl 0) = true ∧
      fieldAt pl 4 4 ≤ bulkSize (byteAt pl 0) ∧ (s.transfers.filter fun b => b.session == tk.session).length < 2 ∧
      (s.transfers.any fun b => b.write && b.object == byteAt pl 0) = false ∧
      ([0, 1, 2, 3].find? fun h => (s.bulkOf h).isNone) = some h ∧ writeRefused tk (byteAt pl 0) s = none)
    (fun tk pl s => (openTransfer tk h (byteAt pl 0) true (fieldAt pl 4 4) [] s).2.1)
    (fun tk pl s => (openTransfer tk h (byteAt pl 0) true (fieldAt pl 4 4) [] s).2.2)) ∧
  (∀ h bs s1, Serves 0x1620 .bulkOpen
    (fun tk pl s => pl.length = 8 ∧ byteAt pl 1 = 0 ∧ [0x01, 0x02, 0x10, 0x20].contains (byteAt pl 0) = true ∧
      (s.transfers.filter fun b => b.session == tk.session).length < 2 ∧
      ([0, 1, 2, 3].find? fun h => (s.bulkOf h).isNone) = some h ∧ readObject (byteAt pl 0) s = (some bs, s1))
    (fun tk pl _ => (openTransfer tk h (byteAt pl 0) false bs.length bs s1).2.1)
    (fun tk pl _ => (openTransfer tk h (byteAt pl 0) false bs.length bs s1).2.2)) ∧
  (∀ b, Serves 0x1621 .bulkWrite
    (fun _ pl s => (modBulk (byteAt pl 0) id s).bulkOf (byteAt pl 0) = some b ∧ s.nd.mode ≠ .hold ∧ b.closing = none ∧
      b.write = true ∧ pl.length = 8 + fieldAt pl 2 2 ∧ fieldAt pl 2 2 ≤ 984 ∧
      pieceOk b.total (fieldAt pl 4 4) (fieldAt pl 2 2) = true)
    (fun tk pl s => (bulkWriteBody tk pl s).2.1)
    (fun _ pl s => modBulk (byteAt pl 0) (fun b => { b with
      data := memWriteN 0#8 b.data (fieldAt pl 4 4) (pl.drop 8)
      written := addSpan (fieldAt pl 4 4) (fieldAt pl 4 4 + fieldAt pl 2 2) b.written }) (modBulk (byteAt pl 0) id s))) ∧
  (∀ b, Serves 0x1622 .bulkRead
    (fun _ pl s => (modBulk (byteAt pl 0) id s).bulkOf (byteAt pl 0) = some b ∧ b.write = false ∧ pl.length = 8)
    (fun tk pl _ => let bs := slice b.image (fieldAt pl 4 4) (min (fieldAt pl 2 2) (maxChunk tk false))
      le 1 (byteAt pl 0) ++ le 1 0 ++ le 2 bs.length ++ le 4 (fieldAt pl 4 4) ++ bs)
    (fun _ pl s => modBulk (byteAt pl 0) id s)) ∧
  (∀ b, Serves 0x1624 .bulkStatus (fun _ pl s => pl.length = 1 ∧ s.bulkOf (byteAt pl 0) = some b)
    (fun tk pl s => (bulkStatusBody tk pl s).2.1) (fun _ pl s => modBulk (byteAt pl 0) id s)) ∧
  (∀ b, Accepts 0x1623 .bulkClose
    (fun _ pl s => pl.length = 8 ∧ (byteAt pl 1 = 0 ∨ byteAt pl 1 = 1 ∧ b.write = false) ∧ b.closing = none ∧
      (modBulk (byteAt pl 0) id s).bulkOf (byteAt pl 0) = some b)
    (fun cls tk pl s => finish cls tk stDone (freeMissing (modBulk (byteAt pl 0) id s)).1
      (endBulk (if byteAt pl 1 = 0 then 3 else 2) (byteAt pl 0) (freeMissing (modBulk (byteAt pl 0) id s)).2))) ∧
  (∀ b, Accepts 0x1623 .bulkClose
    (fun _ pl s => pl.length = 8 ∧ byteAt pl 1 = 1 ∧ b.write = true ∧ b.closing = none ∧
      (modBulk (byteAt pl 0) id s).bulkOf (byteAt pl 0) = some b ∧
      closeRefused (fieldAt pl 4 4) b (modBulk (byteAt pl 0) id s) = none)
    (fun _ tk pl s => inProgress tk (modBulk (byteAt pl 0) (fun b => { b with closing := some tk })
      (modBulk (byteAt pl 0) (fun b => { b with crc := fieldAt pl 4 4 }) (modBulk (byteAt pl 0) id s))))) ∧
  (∀ t (h : Fin 4) b tk s, Happens t s (.bulkCloseDone t h)
    (fun x => x.bulkOf h = some b ∧ b.closing = some tk ∧ x.alive = true ∧ x.nd.mgmtStalled = false)
    (fun x =>
      let o := ownerHandles tk b x
      let m := freeMissing (endBulk 2 h o.2.2)
      finish ((bulkClass b.object b.write).getD 1) tk o.1 (if o.1 = stDone || !o.2.1.isEmpty then m.1 ++ o.2.1 else []) m.2)) ∧
  (∀ t (h : Fin 4) b s, Happens t s (.bulkIdleExpire t h)
    (fun x => x.bulkOf h = some b ∧ x.alive = true ∧ x.nd.mode ≠ .hold ∧ b.closing = none ∧ b.lastCmd + 60000000 ≤ x.now)
    (endBulk 4 h))

/-- CFG_WRITE stages, CFG_DISCARD discards, CFG_COMMIT and CFG_REVERT start a commit. Rule: 17_configuration_calibration.md. -/
def Obligations.ConfigurationCommandsAct : Prop :=
  (∀ recs st, Accepts 0x1701 .cfgWrite
    (fun tk pl s => parseChanges pl.length pl = (recs, true) ∧ recs ≠ [] ∧
      (s.cfg.stageOwner = none ∨ s.cfg.stageOwner = some tk.session) ∧ (∀ r ∈ recs, sentError s r = none) ∧
      stageTry tk.session (recs.map SentRecord.change) s = .ok st)
    (fun cls tk _ s => finish cls tk stDone (writeReply recs.length 255 (stageSet tk.session st s)) (stageSet tk.session st s))) ∧
  Accepts 0x1704 .cfgDiscard (fun tk pl s => pl = [] ∧ s.cfg.stageOwner = some tk.session)
    (fun cls tk _ s => finish cls tk stDone [] (endStaging tk.session s)) ∧
  Accepts 0x1703 .cfgCommit
    (fun tk pl s => pl = [] ∧ s.cfg.staged.isEmpty = false ∧ s.cfg.stageOwner = some tk.session ∧ s.mayCommit = true ∧
      commitCheck s s.stagedCfg = none ∧ (s.nd.mode = .duty → (planPhases s.liveRecords s.stagedCfg).length ≤ 160))
    (fun _ tk _ s => beginWrite tk false s.cfg.staged s.stagedCfg (planPhases s.liveRecords s.stagedCfg) s) ∧
  (∀ b, Accepts 0x1706 .cfgRevert
    (fun tk pl s => pl.length = 1 ∧ s.prev = some b ∧ hasBit (byteAt pl 0) 0 = true ∧ s.cfg.staged.isEmpty = true ∧
      (cfgDiff s.revertBase b.records).isEmpty = false ∧ s.mayCommit = true ∧
      commitCheck (stageSet tk.session (cfgDiff s.revertBase b.records) s) b.records = none ∧
      (s.nd.mode = .duty → (planPhases s.liveRecords b.records).length ≤ 160))
    (fun _ tk _ s => beginWrite tk true (cfgDiff s.revertBase b.records) b.records (planPhases s.liveRecords b.records)
      (stageSet tk.session (cfgDiff s.revertBase b.records) s)))

/-- FW_ACTIVATE and FW_ROLLBACK start a switch of images, FW_CONFIRM ends a trial, and an expired trial falls back. Rule:
17_configuration_calibration.md. -/
def Obligations.FirmwareCommandsAct : Prop :=
  Accepts 0x1721 .fwActivate
    (fun _ pl s => pl.length = 1 ∧ s.maySwitch = true ∧
      (hasBit (byteAt pl 0) 0 = true ∨ s.onDuty = false ∨ s.paired = true ∧ s.peerReady = true))
    (fun _ tk _ s => startSwitch true tk s) ∧
  Accepts 0x1723 .fwRollback (fun _ pl s => pl.length = 1 ∧ s.maySwitch = true ∧ hasBit (byteAt pl 0) 0 = true)
    (fun _ tk _ s => startSwitch false tk s) ∧
  Accepts 0x1722 .fwConfirm (fun _ pl s => pl = [] ∧ s.onTrial = true ∧ s.nd.mode ≠ .hold)
    (fun cls tk _ s =>
      let s1 := s.modFw s.cfg.running fun f => { f with state := .active }
      finish cls tk stDone (le 1 s.cfg.running)
        (firmwareRecord 4 s.cfg.running 0 { s1 with cfg := { s1.cfg with trialFrom := none } })) ∧
  (∀ t a s, Happens t s (.fwTrialExpire t)
    (fun x => x.cfg.trialFrom = some a ∧ x.alive = true ∧ x.onTrial = true ∧ x.nd.mode ≠ .boot ∧
      a + 1000000 * x.param 0x17000002 ≤ x.now)
    failTrial)

/-- TOLL_SEAL seals, TOLL_UNSEAL unseals, TOLL_LOG_READ marks what it returns, TOLL_LOG_CLEAR empties the log. Rule:
18_toll_partition.md. -/
def Obligations.TollCommandsAct : Prop :=
  Accepts 0x1803 .tollSeal (fun _ pl s => pl.length = 1 ∧ hasBit (byteAt pl 0) 0 = true ∧ s.maySeal = true)
    (fun cls tk _ s => finish cls tk stDone (sealPartition tk (inProgress tk s)).1 (sealPartition tk (inProgress tk s)).2) ∧
  Accepts 0x1804 .tollUnseal
    (fun _ pl s => pl.length = 1 ∧ hasBit (byteAt pl 0) 0 = true ∧ (s.toll.state = .sealed ∨ s.toll.state = .broken) ∧
      s.toll.switchOpen = true)
    (fun cls tk _ s => finish cls tk stDone (unsealPartition tk (inProgress tk s)).1 (unsealPartition tk (inProgress tk s)).2) ∧
  Accepts 0x1806 .tollLogClear
    (fun _ pl s => pl.length = 1 ∧ hasBit (byteAt pl 0) 0 = true ∧ s.toll.state = .unsealed ∧ s.toll.allRead = true)
    (fun cls tk _ s => finish cls tk stDone (clearLog tk (inProgress tk s)).1 (clearLog tk (inProgress tk s)).2) ∧
  Serves 0x1805 .tollLogRead
    (fun _ pl s => pl.length = 5 ∧ 1 ≤ byteAt pl 4 ∧ byteAt pl 4 ≤ 15 ∧ s.toll.state ≠ .absent)
    (fun _ pl s => le 4 s.toll.log.length ++ le 4 0 ++ (s.toll.log.filter fun e =>
      decide (fieldAt pl 0 4 ≤ e.no) && decide (e.no < fieldAt pl 0 4 + byteAt pl 4)).flatMap (·.bytes))
    (fun _ pl s => s.modToll fun t => { t with
      read := (s.toll.log.filter fun e =>
        decide (fieldAt pl 0 4 ≤ e.no) && decide (e.no < fieldAt pl 0 4 + byteAt pl 4)).foldl
          (fun r e => addSpan e.no (e.no + 1) r) s.toll.read })

/-- Subscriptions, holds, performance counters, notification packets and the trace's own records. Rule: 19_notification_trace.md. -/
def Obligations.NotificationCommandsAct : Prop :=
  Accepts 0x1901 .ntfSubscribe (fun _ pl _ => pl.length = 34 ∧ 10 ≤ fieldAt pl 32 2 ∧ fieldAt pl 32 2 ≤ 10000)
    (fun cls tk pl s => finish cls tk stDone pl (passTable (s.modSess tk.session fun ss =>
      { ss with sub := fieldAt pl 0 32, notifyHold := fieldAt pl 32 2
                items := ss.items.filter fun i => hasBit (fieldAt pl 0 32) i.source }))) ∧
  Accepts 0x1902 .ntfMask (fun _ pl _ => pl.length = 32)
    (fun cls tk pl s => finish cls tk stDone (le 2 (s.sess tk.session).items.length) (passTable (s.modSess tk.session fun ss =>
      { ss with hold := fieldAt pl 0 32
                items := ss.items.map fun i => { i with held := i.held || hasBit (fieldAt pl 0 32) i.source } }))) ∧
  Reads 0x1904 .perfRead (fun pl _ => pl.length = 2 ∧ 1 ≤ byteAt pl 1 ∧ byteAt pl 0 + byteAt pl 1 ≤ 24)
    (fun pl s => le 1 (byteAt pl 0) ++ le 1 (byteAt pl 1) ++ zeros 6 ++
      counterBytes (((takeCounters s).1.drop (byteAt pl 0)).take (byteAt pl 1))) ∧
  (∀ t (k : Fin 8) s, Happens t s (.notifyHoldExpire t k)
    (fun x => SessionUp k x ∧ (x.sess k).notifyDue x.now = true ∧
      ((x.sess k).link.svc = true ∨ x.host.replyQueue.length < 32 ∧ x.host.replyWait = []))
    (sendNotification k)) ∧
  (∀ t s, Happens t s (.traceSync t) (fun x => x.logicOn = true) (fun x => traceRec 0x01 (syncBytes x) x)) ∧
  (∀ t s, Happens t s (.traceCounters t) (fun x => x.alive = true)
    (fun x => traceRec 0x30 (counterBytes (takeCounters x).1) (takeCounters x).2))

/-- The supply rows: over-voltage, warning, hold, reset threshold, inputs, cell and backup. Rule: 03_power_reset_modes.md,
13_clock.md, 18_toll_partition.md. -/
def Obligations.SupplyEventsAct : Prop :=
  (∀ t sup s, Happens t s (.supplyOvervoltage t true sup) (fun x => x.logicOn = true ∧ x.nd.power.ovSet = false ∧ 33 ≤ sup.vMod)
    (fun x => hwEvent 8 (setCause 3 true (x.modPower fun p => { p with supply := sup, ovSet := true })))) ∧
  (∀ t sup s, Happens t s (.supplyOvervoltage t false sup) (fun x => x.logicOn = true ∧ sup.vMod < 65 / 2)
    (fun x => x.modPower fun p => { p with supply := sup, ovSet := false })) ∧
  (∀ t sup s, Happens t s (.supplyWarningConfirmed t sup)
    (fun x => x.logicOn = true ∧ x.nd.power.warnSet = false ∧ sup.vMod < 35 / 2 ∧ x.nd.mode.dips = true)
    (fun x =>
      let y := beginDip sup (x.modPower fun p => { p with supply := sup, warnSet := true })
      enterHold (if x.toll.fwOk then checkpoint y else y))) ∧
  (∀ t sup low ago s, Happens t s (.supplyWarningCleared t sup low ago)
    (fun x => x.logicOn = true ∧ x.nd.power.warnSet = true ∧ 18 ≤ sup.vMod ∧ x.nd.mode = .hold)
    (fun x => noteDip low ago (x.modPower fun p => { p with supply := sup, warnSet := false }))) ∧
  (∀ t sup low ago s, Happens t s (.supplyWarningCleared t sup low ago)
    (fun x => x.logicOn = true ∧ x.nd.power.warnSet = true ∧ 18 ≤ sup.vMod ∧ x.nd.mode ≠ .hold)
    (fun x =>
      let y := noteDip low ago (x.modPower fun p => { p with supply := sup, warnSet := false })
      dipRecord y.node (y.modNd fun d => { d with bootPaused := false }))) ∧
  (∀ arms s, s.cycling = true → s.holdOver = true →
    ∃ t, exec (.holdExit arms) s = .next t ∧ exec (.controlCycleBoundary arms) s = .next t) ∧
  (∀ t d s, Happens t s (.holdLimitExpire t)
    (fun x => x.nd.power.dip = some d ∧ x.nd.mode = .hold ∧ d.since + 1000 * x.param 0x03000001 ≤ x.now) (enterSafe 2)) ∧
  (∀ t sup low ago s, Happens t s (.resetThresholdConfirmed t sup low ago)
    (fun x => sup.vMod < 15 ∧ x.nd.power.resetSet = false ∧ x.logicOn = true)
    (fun x =>
      let y := x.modPower fun p => { p with supply := sup, resetSet := true, resetAt := some x.now }
      let z := if x.nd.power.warnSet then y else beginDip sup y
      tollPowerDown sup.vMod (dipRecord z.node (noteDip low ago z)))) ∧
  (∀ t sup low ago s, Happens t s (.resetThresholdConfirmed t sup low ago) (fun x => sup.vMod < 15 ∧ x.logicOn = false)
    (fun x => x.modPower fun p => { p with supply := sup, resetSet := true, fell := true })) ∧
  (∀ t r s, Happens t s (.logicDomainOff t) (fun x => x.nd.power.resetAt = some r ∧ x.logicOn = true ∧ r + 2000 ≤ x.now)
    (fun x => (powerOff x).modNd fun d => { d with wake := none })) ∧
  (∀ t sup pins lost s, Happens t s (.resetThresholdCleared t sup pins lost)
    (fun x => x.logicOn = false ∧ x.nd.power.resetSet = true ∧ 18 ≤ sup.vMod ∧ (x.nd.power.fell = true ∨ x.nd.wake = none))
    (fun x =>
      let y := usePins pins ((x.modPower fun p => { p with supply := sup, resetSet := false, warnSet := false }).modNd fun d =>
        { d with hasRun := false })
      powerOn (if lost then 1 else 2) (if lost then millpondLost y else y))) ∧
  (∀ t sup pins lost s, Happens t s (.resetThresholdCleared t sup pins lost)
    (fun x => x.logicOn = false ∧ x.nd.power.resetSet = true ∧ 18 ≤ sup.vMod ∧ x.nd.power.fell = false ∧ x.nd.wake.isSome = true ∧
      x.nd.woken = true)
    (fun x => powerOn 3 (x.modPower fun p => { p with supply := sup, resetSet := false, warnSet := false }))) ∧
  (∀ t v s, Happens t s (.inputLost t false true v) (fun x => x.logicOn = true ∧ x.nd.power.lostA = false ∧ v < 12)
    (fun x => sysUpdate (hwEvent 7 (setCause 5 true
      (x.modPower fun p => { p with lostA := true, supply := { p.supply with vA := v } }))))) ∧
  (∀ t v s, Happens t s (.inputLost t true true v) (fun x => x.logicOn = true ∧ x.nd.power.lostB = false ∧ v < 12)
    (fun x => sysUpdate (hwEvent 7 (setCause 4 true
      (x.modPower fun p => { p with lostB := true, supply := { p.supply with vB := v } }))))) ∧
  (∀ t v s, Happens t s (.inputLost t true false v) (fun x => x.logicOn = true ∧ x.nd.power.lostB = true ∧ 14 ≤ v)
    (fun x => sysUpdate (x.modPower fun p => { p with lostB := false, supply := { p.supply with vB := v } }))) ∧
  (∀ t v vRes s, Happens t s (.cellTest t v vRes)
    (fun x => x.alive = true ∧ x.nd.power.cellTestAt + 86400000000 ≤ x.now ∧ x.nd.power.cellLow = false ∧ 1 < v ∧ v ≤ 16 / 5)
    (fun x => hwEvent 9 (x.modPower fun p =>
      { p with vCell := v, vRes := vRes, cellLow := true, cellAbsent := false, cellTestAt := x.now }))) ∧
  (∀ t v s, Happens t s (.backupLow t true v) (fun x => x.nd.power.backupLow = false ∧ v < 14 / 5)
    (fun x => trustStep 1 ((x.modPower fun p => { p with backupLow := true }).modClk fun c => { c with lowBak := true }))) ∧
  (∀ t v s, Happens t s (.backupLow t false v) (fun x => x.nd.power.backupLow = true ∧ 3 ≤ v)
    (fun x => x.modPower fun p => { p with backupLow := false }))

/-- The reset rows: NRESET, lockstep, control plane, logic clock and rail, waking. Rule: 03_power_reset_modes.md, 01_architecture.md,
15_redundant_pair.md. -/
def Obligations.ResetEventsAct : Prop :=
  (∀ t v s, Happens t s (.nresetAssert ⟨t, v⟩) (fun x => x.nd.nresetLow = false ∧ x.nresetStuck = false ∧ x.logicOn = true)
    (fun x => coldReset 4 .cold (x.modNd fun d =>
      { d with nresetLow := true, nresetAt := x.now - 64, nresetHold := true }))) ∧
  (∀ t v s, Happens t s (.nresetAssert ⟨t, v⟩)
    (fun x => x.nd.nresetLow = false ∧ x.nresetStuck = false ∧ x.logicOn = false ∧ x.nd.wake.isSome = true ∧
      x.nd.power.resetSet = false ∧ 18 ≤ v)
    (fun x => powerOn 3 (x.modNd fun d => { d with nresetLow := true, nresetAt := x.now - 64 }))) ∧
  (∀ t s, Happens t s (.nresetShort t) (fun x => x.logicOn = true ∧ x.nd.nresetLow = false)
    (fun x => (x.modNd fun d => { d with nresetAt := x.now }).count 7 1)) ∧
  (∀ t s, Happens t s (.nresetRelease t) (fun x => x.nd.nresetLow = true)
    (fun x => releaseHold (x.modNd fun d => { d with nresetLow := false, nresetAt := x.now }))) ∧
  (∀ t s, Happens t s (.nresetStuck t)
    (fun x => x.logicOn = true ∧ x.nd.nresetLow = true ∧ x.nresetStuck = false ∧ x.nd.nresetAt + 5000000 ≤ x.now)
    (fun x => hwEvent 2 (releaseHold (setCause 7 true x)))) ∧
  (∀ t s, Happens t s (.nresetStuckClear t)
    (fun x => x.logicOn = true ∧ x.nd.nresetLow = false ∧ x.nresetStuck = true ∧ x.nd.nresetAt + 1000000 ≤ x.now)
    (fun x => hwEvent 3 (setCause 7 false x))) ∧
  (∀ t s, Happens t s (.lockstepMismatch t) (fun x => x.alive = true ∧ x.nd.ctrlStopped = false)
    (fun x => declareFault 1 (stopWrites (x.modNd fun d => { d with ctrlStopped := true })))) ∧
  (∀ t s, Happens t s (.controlPlaneFault t) (fun x => x.alive = true ∧ x.controlFaulty = true)
    controlFault) ∧
  (∀ t w s, Happens t s (.ctrlWindowExpire t) (fun x => x.nd.ctrlWindow = some w ∧ w ≤ x.now)
    (fun x => x.modNd fun d => { d with ctrlWindow := none })) ∧
  (∀ t s, Happens t s (.logicClockFail t) (fun x => x.logicOn = true) (coldReset 8 .cold)) ∧
  (∀ t s, Happens t s (.logicRailFail t) (fun x => x.logicOn = true ∧ x.nd.power.resetSet = false) (coldReset 9 .cold)) ∧
  (∀ t v w s, Happens t s (.dormantWake ⟨t, v⟩)
    (fun x => x.nd.wake = some w ∧ x.logicOn = false ∧ w ≠ 0 ∧ w ≤ x.clk.clock ∧ x.nd.power.resetSet = false ∧ 18 ≤ v)
    (powerOn 3)) ∧
  (∀ t v w s, Happens t s (.dormantWake ⟨t, v⟩)
    (fun x => x.nd.wake = some w ∧ x.logicOn = false ∧ w ≠ 0 ∧ w ≤ x.clk.clock ∧ (x.nd.power.resetSet = true ∨ v < 18))
    (fun x => x.modNd fun d => { d with woken := true, power := { d.power with resetSet := true } }))

/-- The seat contact, boot decision, thermal, governor and identity rows. Rule: 03_power_reset_modes.md, 15_redundant_pair.md,
02_module_and_ports.md. -/
def Obligations.SeatAndBootEventsAct : Prop :=
  (∀ t s, Happens t s (.seatContactOpen t) (fun x => x.nd.seatOpen = false ∧ x.alive = true)
    (fun x =>
      let y := endFreeze 5 (hwEvent 1 (x.modNd fun d =>
        { d with seatOpen := true, withdraw := .flash2, seatOpenedAt := x.now }))
      let z : State := { y with grn := { y.grn with urgent := true } }
      if x.onDuty && x.peerHealthy then
        declareFault 5 z else z)) ∧
  (∀ t s, Happens t s (.withdrawStagingDone t) (fun x => x.nd.withdraw = .flash2 ∧ x.grn.urgent = true ∧ x.drains = true)
    (fun x =>
      let y : State := { writeStaging x with grn := { (writeStaging x).grn with urgent := false } }
      y.modNd fun d => { d with withdraw :=
        if !x.paired then .flash8 else if !x.onDuty then .steady
        else if x.pair.declared && x.peerHealthy then .flash2 else .flash8 })) ∧
  (∀ t pins s, Happens t s (.seatContactClose t pins) (fun x => x.nd.seatOpen = true ∧ (x.logicOn = false ∨ x.nd.hasRun = true))
    (fun x =>
      let y := x.modNd fun d => { d with seatOpen := false, withdraw := .off }
      { y with grn := { y.grn with urgent := false } })) ∧
  (∀ t img0 img1 toll s, Happens t s (.bootDecision t true img0 img1 toll)
    (fun x => x.alive = true ∧ x.nd.mode = .boot ∧ x.nd.ctrlStopped = false ∧ x.nd.bootPaused = false ∧ x.pair.decideAt = none ∧
      (recovered x).nd.resetKind ≠ .warm ∧
      (bootImage (fun k => if k = 0 then img0 else img1) (recovered x)).1 = true ∧
      (bootToll toll (bootImage (fun k => if k = 0 then img0 else img1) (recovered x)).2).paired = false)
    (fun x => soloDecision (bootToll toll (bootImage (fun k => if k = 0 then img0 else img1) (recovered x)).2))) ∧
  (∀ t img0 img1 toll s, Happens t s (.bootDecision t true img0 img1 toll)
    (fun x => x.alive = true ∧ x.nd.mode = .boot ∧ x.nd.ctrlStopped = false ∧ x.nd.bootPaused = false ∧ x.pair.decideAt = none ∧
      (recovered x).nd.resetKind ≠ .warm ∧
      (bootImage (fun k => if k = 0 then img0 else img1) (recovered x)).1 = true ∧
      (bootToll toll (bootImage (fun k => if k = 0 then img0 else img1) (recovered x)).2).paired = true)
    (fun x =>
      let y := bootToll toll (bootImage (fun k => if k = 0 then img0 else img1) (recovered x)).2
      sendBeat (y.modPair fun p => { p with decideAt := some (y.now + 300000) }))) ∧
  (∀ t d s, Happens t s (.bootPairDecision t)
    (fun x => x.pair.decideAt = some d ∧ x.alive = true ∧ x.nd.mode = .boot ∧ x.nd.ctrlStopped = false ∧ x.nd.bootPaused = false ∧ d ≤ x.now ∧ x.paired = true)
    (fun x => leaveFor (x.bootRow x.clk.modeReq) x)) ∧
  (∀ t d s, Happens t s (.bootRedecide t)
    (fun x => x.pair.decideAt = some d ∧ x.alive = true ∧ x.nd.mode = .boot ∧ x.nd.ctrlStopped = false ∧ x.nd.bootPaused = false ∧ d ≤ x.now ∧ x.paired = true)
    (fun x => leaveFor (x.bootRow x.clk.modeReq) x)) ∧
  (∀ t tF s, Happens t s (.thermalTrip t tF) (fun x => x.alive = true ∧ x.nd.mode ≠ .safe ∧ 100 < tF)
    (fun x => enterSafe 2 (hwEvent 11 (setCause 1 true (x.modPower fun p => { p with tF := tF }))))) ∧
  (∀ t drawn tF loss pBay s, Happens t s (.governorTick t drawn tF loss pBay)
    (fun x => loss.length = 16 ∧ pBay.length = 16 ∧ x.alive = true ∧ x.nd.mode ≠ .boot ∧ x.nd.gov.tickAt + 100000 ≤ x.now ∧
      (noteDraw (loss.foldl (· + ·) drawn) tF pBay x).budgetNow < loss.foldl (· + ·) drawn)
    (fun x => takeStep ((noteDraw (loss.foldl (· + ·) drawn) tF pBay x).modNd fun d =>
      { d with gov := { d.gov with
          tickAt := x.now
          lowSince := if loss.foldl (· + ·) drawn + 10 ≤ (noteDraw (loss.foldl (· + ·) drawn) tF pBay x).budgetNow then
            some (x.nd.gov.lowSince.getD x.now) else none } }))) ∧
  (∀ t slot posB pres s, Happens t s (.identityScan t slot posB pres)
    (fun x => x.alive = true ∧ (x.nd.slotPins ≠ slot ∨ x.nd.posPin ≠ posB))
    (fun x => setPeerPres pres (hwEvent 4 (x.modNd fun d => { d with slotPins := slot, posPin := posB })))) ∧
  (∀ t b tied s, Happens t s (.strapChange t b tied) (fun x => tget false x.nd.strapTied b ≠ tied ∧ x.alive = true)
    (fun x => hwEvent 5 (x.modNd fun d => { d with strapTied := tset false d.strapTied b tied })))

/-- Control cycle boundaries, alarm sweeps and ring cycles run, and the events that a sweep brings about are that sweep. Rule:
01_architecture.md, 10_alarm_points.md, 14_ponor_link.md, 17_configuration_calibration.md. -/
def Obligations.CyclesAndSweepsRun : Prop :=
  (∀ arms s, s.beginCycle.cycling = true → exec (.controlCycleBoundary arms) s = .next (runCycle arms s.beginCycle)) ∧
  (∀ s, s.beginCycle.cycling = true →
    exec .cycleOverrun s = .next ((((boundaryStart s.beginCycle).count 0 1).count 1 1).modNd fun d =>
      { d with overrunRun := d.overrunRun + 1 })) ∧
  Sweeps .sweep (fun _ => True) ∧
  (∀ p, Sweeps (.pointOnDelayExpire · p) fun x => (x.pt p).active = false ∧ (x.afterSweep p).active = true) ∧
  (∀ p, Sweeps (.pointOffDelayExpire · p) fun x => (x.pt p).active = true ∧ (x.afterSweep p).active = false) ∧
  (∀ p, Sweeps (.shelveExpire · p) fun x => (x.pt p).shelveLeft = 1 ∧ (x.afterSweep p).shelveLeft = 0) ∧
  (∀ p, Sweeps (.blockDelayExpire · p) fun x => (x.pt p).blocked = true ∧ (x.afterSweep p).blocked = false) ∧
  (∀ t s, Happens t s (.sweepAbandoned t) (fun x => x.atSweep.sweepDue = true)
    (fun x => abandonSweep x.atSweep.sweepStart x.atSweep)) ∧
  (∀ t s, Happens t s (.freezeLimit t)
    (fun x => x.alive = true ∧ x.nd.mode ≠ .hold ∧ x.nd.mode ≠ .commission ∧ x.alarm.frozen ≠ [] ∧
      x.alarm.frozenAt + 200000 ≤ x.now ∧ x.cfg.commit = none)
    (fun x => configRecord 7 255 x.cfg.phases 0
      { x with alarm := { x.alarm with frozen := [] }, cfg := { x.cfg with freezeMs := 200 } })) ∧
  (∀ s, s.beginRing.logicOn = true → exec .ringCycle s =
    .next (let x := [0, 1, 2, 3].foldl (fun s p => policeEnd p s) (dataRestarted (dropRing 1 s.beginRing))
      countCycles (x.ringsInUse.foldl (fun s k => startCycle k (owedCopy k s)) x)))

/-- Hopper Bell ticks run, and keys, stage times, the dead man and duty changes are what such a tick takes. Rule:
11_groups_and_duty_call.md. -/
def Obligations.BellTicksRun : Prop :=
  Ticks .hbTick (fun _ => True) ∧
  Ticks .hbT1Expire (fun x => x.bell.stage = .stage1 ∧ x.afterTick.stage = .stage2) ∧
  Ticks .hbT2Expire (fun x => x.bell.stage = .stage2 ∧ x.afterTick.stage = .stage3) ∧
  Ticks .hbTAttendExpire (fun x => x.bell.stage = .attend ∧ x.afterTick.stage = .stage3) ∧
  Ticks .dmPrewarn (fun x => x.bell.dm = .armed ∧ x.afterTick.dm = .prewarn) ∧
  Ticks .dmExpired (fun x => x.bell.dm ≠ .expired ∧ x.afterTick.dm = .expired) ∧
  Ticks .rosterChange (fun x => x.bell.duty ≠ x.afterTick.duty) ∧
  Ticks .hbOverrideEnd (fun x => x.bell.overrideUntil.isSome = true ∧ x.afterTick.overrideUntil = none) ∧
  (∀ k e, Ticks (.keyAck · k) (fun x => (x.panel k).key = some e ∧ e.key = .ack)) ∧
  (∀ k e, Ticks (.keySilence · k) (fun x => (x.panel k).key = some e ∧ e.key = .silence)) ∧
  (∀ k e, Ticks (.keyAccept · k) (fun x => (x.panel k).key = some e ∧ e.key = .accept)) ∧
  (∀ k e, Ticks (.keyDmOn · k) (fun x => (x.panel k).key = some e ∧ e.key = .dmOn)) ∧
  (∀ k e, Ticks (.keyDmReset · k) (fun x => (x.panel k).key = some e ∧ e.key = .dmReset)) ∧
  (∀ k e, Ticks (.keyDmOff · k) (fun x => (x.panel k).key = some e ∧ e.key = .dmOff)) ∧
  (∀ k e, Ticks (.keyManned · k) (fun x => (x.panel k).key = some e ∧ e.key = .manned)) ∧
  (∀ k e, Ticks (.keyUnmanned · k) (fun x => (x.panel k).key = some e ∧ e.key = .unmanned))

/-- The panel bus rows, the copied Hopper Bell state, and the rows of a stalled part. Rule: 11_groups_and_duty_call.md,
01_architecture.md, 09_safety_lanes.md, 15_redundant_pair.md, 18_toll_partition.md. -/
def Obligations.PanelsAndStallsAct : Prop :=
  (∀ t busB k s, Happens t s (.panelPoll t busB)
    (fun x => x.polls = true ∧ x.bell.wait busB = none ∧ x.gapKept busB = true ∧ x.nextSlot busB (if busB then x.bell.nextB else x.bell.nextA) = some k)
    (fun x =>
      let seq := if busB then x.bell.seqB else x.bell.seqA
      frameEnd busB (setWait busB (some ⟨k, seq, x.now⟩)
        ((x.emit (.panel busB (panelFrame (x.slotField k 2) 1 seq (statusPayload x k)))).modBell fun b =>
          if busB then { b with nextB := k + 1, seqB := (seq + 1) % 256 } else { b with nextA := k + 1, seqA := (seq + 1) % 256 })))) ∧
  (∀ t busB bs w s, Happens t s (.panelReply t busB bs)
    (fun x => x.polls = true ∧ x.bell.wait busB = some w ∧ x.inWindow busB w = true ∧
      replyGood (x.slotField w.slot 2) w.seq bs = true ∧ byteAt bs 5 = x.slotField w.slot 0)
    (fun x => endPoll busB true w.slot (panelSays w.slot (slice bs 5 8) (frameEnd busB x)))) ∧
  (∀ t busB bs w s, Happens t s (.panelReply t busB bs)
    (fun x => x.polls = true ∧ x.bell.wait busB = some w ∧ x.inWindow busB w = true ∧
      replyGood (x.slotField w.slot 2) w.seq bs = true ∧ byteAt bs 5 ≠ x.slotField w.slot 0)
    (fun x => sysUpdate (classWrong w.slot (setWait busB none (frameEnd busB x))))) ∧
  (∀ t busB bs w s, Happens t s (.panelReply t busB bs)
    (fun x => x.polls = true ∧ x.bell.wait busB = some w ∧
      (x.inWindow busB w = false ∨ replyGood (x.slotField w.slot 2) w.seq bs = false))
    (fun x => endPoll busB false w.slot (frameEnd busB x))) ∧
  (∀ t busB w s, Happens t s (.panelReplyTimeout t busB)
    (fun x => x.bell.wait busB = some w ∧ x.mgmtUp = true ∧ w.sentAt + 1000 + 2 * x.charTime busB ≤ x.now)
    (fun x => endPoll busB false w.slot x)) ∧
  (∀ t m s, Happens t s (.hbStateSync t m) (fun x => x.alive = true ∧ x.paired = true ∧ x.onDuty = false) (takeBell m)) ∧
  (∀ t m s, Happens t s (.hbStateSync t m)
    (fun x => x.alive = true ∧ x.paired = true ∧ x.onDuty = true ∧ x.bell.syncAt + 1000000 ≤ x.now) sendBell) ∧
  (∀ t s, Happens t s (.ctrlStall t)
    (fun x => x.alive = true ∧ x.nd.mode ≠ .boot ∧ x.nd.ctrlStalled = false ∧
      max x.nd.regChannel.flip x.nd.runFrom + 3000 ≤ x.node)
    (fun x => flipService (setStall 0 true x))) ∧
  (∀ t s, Happens t s (.fabricStall t)
    (fun x => x.sweeps = true ∧ x.nd.fabricStalled = false ∧ usedPoints x.cfg.inForce ≠ [] ∧
      max x.alarm.offAt (max x.nd.regAlarm.flip x.nd.runFrom) + 30000 ≤ x.node)
    (fun x => flipService (setStall 1 true x))) ∧
  (∀ t bus s, Happens t s (.dataStall ⟨t, bus⟩)
    (fun x => x.logicOn = true ∧ x.nd.dataStalled = false ∧
      (bus = true ∨ max x.nd.regRemote.flip x.nd.upFrom + 1000 ≤ x.node))
    (fun x =>
      let y := markReset 0x0C .ring (setStall 2 true x)
      ringRestart (if x.onDuty then declareFault 6 y else y))) ∧
  (∀ t s, Happens t s (.mgmtStall t)
    (fun x => x.mgmtUp = true ∧ max x.nd.regService.flip x.nd.upFrom + 2000000 ≤ x.node) mgmtRestart) ∧
  (∀ t s, Happens t s (.tollStall t)
    (fun x => x.alive = true ∧ x.toll.state ≠ .absent ∧ x.nd.tollStalled = false ∧
      max x.nd.regToll.flip x.nd.runFrom + 1000000 ≤ x.node ∧ x.toll.fwOk = true)
    (fun x => tollEntry 0x000B (le 1 1) (setStall 3 true x))) ∧
  (∀ t (b : Bay) s, Happens t s (.ssTimeoutExpire t b)
    (fun x => (x.bay b).state = .running ∧ x.gate b = true ∧ (x.bay b).ssRun = false ∧
      (x.bay b).syncAt + 1000 * x.cf .bay b 0 ≤ x.now)
    (fun x =>
      let y := x.modBay b fun y => { y with ssRun := true, ssOwed := y.ssOwed + 1 }
      (List.range 32).foldl (fun s l =>
        if s.laneBay l = (b : Nat) && decide ((s.lane l).state ≠ .off) then laneResult l (s.modLane l LaneRun.openBoth) else s)
        (safeBay b y)))

/-- The rows of the measurement chain and of sensor supervision. Rule: 05_measurement_chain.md, 06_sensor_supervision.md,
04_universal_channel.md. -/
def Obligations.MeasurementEventsAct : Prop :=
  (∀ t n v v2 raws pip cm s, Happens t s (.conversionEnd t n v v2 raws pip cm)
    (fun x => x.alive = true ∧ (x.converting n || x.underWay n) = true ∧ (x.subFn n).converts = true ∧ x.ownReadings = true)
    (fun x => inputConversion n v v2 raws pip cm (if x.dropped n then x else noteAwake n (x.sampleTime n) x))) ∧
  (∀ t n v v2 raws pip cm s, Happens t s (.conversionEnd t n v v2 raws pip cm)
    (fun x => x.alive = true ∧ (x.converting n || x.underWay n) = true ∧ x.fn n = .iout ∧ (x.ch n).nextEnd ≤ x.node)
    (fun x => formReadback n (x.calLine n 160 v) (if x.dropped n then x else noteAwake n (x.sampleTime n) x))) ∧
  (∀ t n v v2 raws pip cm s, Happens t s (.conversionEnd t n v v2 raws pip cm)
    (fun x => x.alive = true ∧ (x.converting n || x.underWay n) = true ∧ x.fn n = .vout ∧ (x.ch n).nextEnd ≤ x.node)
    (fun x => formReadback n (x.calLine n 168 v) (if x.dropped n then x else noteAwake n (x.sampleTime n) x))) ∧
  (∀ t n v v2 raws pip cm s, Happens t s (.conversionEnd t n v v2 raws pip cm)
    (fun x => x.alive = true ∧ (x.converting n || x.underWay n) = true ∧ (x.fn n).repeater = true) (formReadback n v)) ∧
  (∀ t n v1 v2 d s, Happens t s (.refCheck t n v1 v2)
    (fun x => x.refReady n = some d ∧
      (∀ m ∈ bayChans (bayOf n), m ≠ n → ∀ e, x.refReady m = some e → d < e ∨ d = e ∧ (n : Nat) < m) ∧
      ∀ u e, (x.bay (bayOf n)).refUser = some (u, e) → e + 2200 ≤ x.node)
    (fun x =>
      let i1 := v1 / x.calBay (bayOf n) 0 * 1000000
      let i2 := v2 / x.calBay (bayOf n) 0 * 1000000
      let k := stepCurrent (x.iexStep n)
      let bad := decide (k * 5 / 100 < rabs (i1 - k)) || decide (k * 5 / 100 < rabs (i2 - k))
      let unlike := decide ((i1 + i2) / 200 < rabs (i1 - i2))
      afterBlock n 2200 x ((noteAwake n 2200 (x.modCh n fun r => { r with
        refFault := bad, matchFault := unlike, excFault := bad || unlike, iEx := if bad || unlike then r.iEx else some (i1, i2), refTime := x.node,
        refDue := some (x.node + 1000000 * x.cf .ch n 8) })).modBay (bayOf n) fun y =>
          { y with refUser := some ((n : Nat), x.node) }))) ∧
  (∀ t n v d g s, Happens t s (.leadConversion t n v)
    (fun x => (x.ch n).leadDue = some d ∧ x.slot n 1000 = some g ∧ d ≤ g ∧ x.leadChecks n = true ∧ x.converting n = true ∧
      x.gate (bayOf n) = true ∧ (x.sup n).check = none ∧ x.aheadBy n false g = false ∧ x.waitsSettled n 1000 d = false)
    (fun x =>
      let rl := (x.volts n v * 1000000 / (x.iex n).2 - x.calBay (bayOf n) 4) / 2
      afterBlock n 1000 x ((noteAwake n 1000 x).modCh n fun r => { r with
        leadR := some rl, leadHigh := decide (x.cr .meas n 8 < rl), leadDue := some (x.node + 1000000 * x.cf .meas n 4) }))) ∧
  (∀ t n d g len s, Happens t s (.impedanceCheck t n)
    (fun x => (x.sup n).due = some d ∧ len = blockTimeOf (x.segments n (x.supSetup n)) ∧ x.checkSlot n len = some g ∧ d ≤ g ∧
      (x.sup n).check = none ∧ x.supervised n = true ∧ x.running n = true ∧ x.nd.mode ≠ .hold ∧ x.gate (bayOf n) = true ∧
      (x.ch n).tripped = false ∧ x.checkWaits n len = false ∧ x.aheadBy n true g = false)
    (fun x => x.modSup n fun u =>
      { u with check := some ⟨x.node, x.node + len, u.waiting, x.supSetup n⟩, waiting := [], due := none })) ∧
  (∀ t n f1 f2 f3 g1 g3 c s, Happens t s (.impedanceCheckDone t n f1 f2 f3 g1 g3)
    (fun x => (x.sup n).check = some c ∧ c.endAt ≤ x.node ∧ c.tickets = [])
    (fun x =>
      let y := takeFigures n c.setup (x.figures n c.setup f1 f2 f3 g1 g3) x.draw.2
      let z := (noteAwake n (c.endAt - c.began) y).modSup n fun u => { u with check := none, due := some (y.nextCheck n) }
      if z.displacesBy n (c.endAt - c.began) then restart n z.node false 250 z
      else if (x.sup n).status &&& 0x18 ≠ 0 && (z.sup n).status &&& 0x18 = 0 then restart n z.node false 0 z else z)) ∧
  (∀ t n s, Happens t s (.complianceTrip t n) (fun x => x.sourcesOn n = true ∧ x.burst n = true)
    (fun x =>
      let drift := decide (9 * 1000000 / (x.iex n).1 < (x.ch n).lastRaw)
      dropLead n (setSup n (fun u => ({ u with
        comp := if drift then .drift else .broken, compAt := x.now, compClear := 0
        dropTo := some (x.node + x.toSample n) } : SupRun).rawBits) (noteAwake n (x.sampleTime n - x.toSample n) x)))) ∧
  (∀ t n s, Happens t s (.complianceTrip t n)
    (fun x => x.sourcesOn n = true ∧ x.burst n = false ∨ x.sourcesOn n = false ∧ x.leadRuns n = true)
    (fun x =>
      let drift := decide (9 * 1000000 / (x.iex n).1 < (x.ch n).lastRaw)
      dropLead n (setSup n (fun u => ({ u with
        comp := if drift then .drift else .broken, compAt := x.now, compClear := 0 } : SupRun).rawBits) x))) ∧
  (∀ t (b : Bay) v sensor s, Happens t s (.terminalMonitorScan t b v sensor)
    (fun x => v.length = 128 ∧ (x.bay b).state = .running)
    (fun x =>
      let y := (List.range 32).foldl (fun s c =>
        let n := 32 * (b : Nat) + c
        let vs := (rangeFrom (4 * c) 4).map fun i => s.calBayLine b 8 (v.getD i 0)
        s.modCh n (ChanRun.scan (connIn s.cfg.inForce n) s.now vs)) x
      y.modBay b fun r => { r with baySensor := sensor + x.calBay b 16 }))

/-- Protection trips and reconnections, and the start and fault of a bay. Rule: 04_universal_channel.md, 08_digital_io_lamps.md,
15_redundant_pair.md. -/
def Obligations.ProtectionAndBayEventsAct : Prop :=
  (∀ t n (k : Fin 4) v mA s, Happens t s (.protectionTrip t n k v mA)
    (fun x => x.running n = true ∧ (x.ch n).isOpen k = false ∧ x.connWord n k ≠ 0 ∧
      (insideWindows (x.connWord n k) v && insideCurrents (x.connWord n k) mA) = false ∧
      ((hartGuard n (tripChannel n k v mA x)).fn n).analogOut = false)
    (fun x => hartGuard n (tripChannel n k v mA x))) ∧
  (∀ t n (k : Fin 4) v mA s, Happens t s (.protectionTrip t n k v mA)
    (fun x => x.running n = true ∧ (x.ch n).isOpen k = false ∧ x.connWord n k ≠ 0 ∧
      (insideWindows (x.connWord n k) v && insideCurrents (x.connWord n k) mA) = false ∧
      ((hartGuard n (tripChannel n k v mA x)).fn n).analogOut = true ∧
      (hartGuard n (tripChannel n k v mA x)).outStatus n ≠ x.outStatus n)
    (fun x =>
      let y := hartGuard n (tripChannel n k v mA x)
      chanEvent 0x043 n (y.outp n).mode.code (y.outp n).mode.code (y.outStatus n) (y.img n).value y)) ∧
  (∀ t n s, Happens t s (.protectionReconnect t n)
    (fun x => x.running n = true ∧ (x.ch n).mayReconnect x.now = true ∧
      (restartDigital n (reconnect n x)).fn n ≠ .iout ∧ (restartDigital n (reconnect n x)).fn n ≠ .vout ∧
      ((restartDigital n (reconnect n x)).fn n).analogOut = false)
    (fun x => restartDigital n (reconnect n x))) ∧
  (∀ t n s, Happens t s (.protectionReconnect t n)
    (fun x => x.running n = true ∧ (x.ch n).mayReconnect x.now = true ∧ (restartDigital n (reconnect n x)).fn n = .iout ∧
      (((restartDigital n (reconnect n x)).modOut n fun o =>
        { o with vRail := 5 / 2, railGoal := 5 / 2, railAt := (restartDigital n (reconnect n x)).now }).fn n).analogOut = true)
    (fun x =>
      let z := restartDigital n (reconnect n x)
      let y := z.modOut n fun o => { o with vRail := 5 / 2, railGoal := 5 / 2, railAt := z.now }
      chanEvent 0x043 n (y.outp n).mode.code (y.outp n).mode.code (y.outStatus n) (y.img n).value y)) ∧
  (∀ t (b : Bay) s, Happens t s (.bayStart t b) (fun x => (x.bay b).state = .starting ∧ x.logicOn = true)
    (fun x =>
      let y := x.modBay b fun y =>
        { y with state := .running, startedAt := x.node, syncAt := x.now, refUser := none, iHist := [], over8Since := none,
                 shedding := false }
      (bayChans b).foldl (fun s n => startChan n s)
        (if (x.bay b).latchOwed then setBay b (fun y => { y with latchLost := true, latchOwed := false }) y else y))) ∧
  (∀ t (b : Bay) s, Happens t s (.bayFault t b)
    (fun x => x.alive = true ∧ ((x.bay b).state = .running ∨ (x.bay b).state = .starting) ∧ x.onDuty = false)
    (fun x => (bayChans b).foldl (fun s n => hartGuard n (engineLost n (abandonCheck n s)))
        (((bayChans b).foldl (fun s n => stopPulse n s) x).modBay b fun y => { y with state := .fault }))) ∧
  (∀ t (b : Bay) h s, Happens t s (.bayFault t b)
    (fun x => x.alive = true ∧ ((x.bay b).state = .running ∨ (x.bay b).state = .starting) ∧ x.onDuty = true ∧ x.paired = true ∧
      x.pair.hb = some h ∧ hasBit h.bayOk b = true ∧ x.peerLost = false)
    (fun x => declareFault 4
      ((bayChans b).foldl (fun s n => hartGuard n (engineLost n (abandonCheck n s)))
        (((bayChans b).foldl (fun s n => stopPulse n s) x).modBay b fun y => { y with state := .fault }))))

/-- The rows of the analog outputs and repeaters. Rule: 07_analog_outputs_hart.md. -/
def Obligations.OutputEventsAct : Prop :=
  (∀ t n mA v s, Happens t s (.railUpdate t n mA v)
    (fun x => (x.fn n = .iout ∨ x.fn n = .vout) ∧ x.running n = true ∧ (x.outp n).railAt + 100 ≤ x.now)
    (fun x =>
      let y := x.modOut n fun o =>
        { o with iTerm := mA, vTerm := v, vRail := o.rail x.now, railAt := x.now, pStage := (o.rail x.now - v) * mA / 1000 }
      y.modOut n fun o => { o with railGoal := y.railTarget n })) ∧
  (∀ t n (k : Fin 6) mA v s, Happens t s (.outputCondition t n k true mA v)
    (fun x => (if (k : Nat) < 3 then x.fn n = .iout else x.fn n = .vout) ∧ x.running n = true ∧ x.gate (bayOf n) = true ∧
      (x.ch n).tripped = false ∧ x.condition n k mA v = true ∧ hasBit (x.outp n).status (conditionBit k) = false)
    (fun x => hartGuard n (setOut n (fun o =>
      { o with iTerm := mA, vTerm := v, status := setBit o.status (conditionBit k) true,
               iHeld := if (k : Nat) = 0 then some mA else o.iHeld, reachSince := none, withinSince := none }) x))) ∧
  (∀ t n (k : Fin 6) mA v s, Happens t s (.outputCondition t n k false mA v)
    (fun x => (if (k : Nat) < 3 then x.fn n = .iout else x.fn n = .vout) ∧ x.running n = true ∧ x.gate (bayOf n) = true ∧
      (x.ch n).tripped = false ∧ x.conditionGone n k mA v = true)
    (setOut n fun o => { o with iTerm := mA, vTerm := v, status := setBit o.status (conditionBit k) false })) ∧
  (∀ t n mA v h s, Happens t s (.ioutReachUpdate t n mA v)
    (fun x => x.fn n = .iout ∧ hasBit (x.outp n).status 1 = true ∧ x.running n = true ∧ (x.outp n).iHeld = some h ∧
      mA ≠ 0 ∧ v ≠ 0)
    (fun x => setOut n (fun o =>
      { o.reach x.now o.drive h (((x.bay (bayOf n)).vFs - 21 / 10) * mA / v) with iTerm := mA, vTerm := v }) x.draw.2)) ∧
  (∀ t n mA s, Happens t s (.openLoopProbe t n mA)
    (fun x => x.fn n = .iout ∧ hasBit (x.outp n).status 2 = true ∧ x.running n = true ∧ hasBit (x.outp n).status 4 = false ∧
      hasBit (x.cf .out n 4) 0 = true ∧ 1 ≤ (x.outp n).drive ∧ (x.outp n).drive / 10 ≤ mA)
    (setOut n fun o => { o with iTerm := mA, status := setBit o.status 2 false })) ∧
  (∀ t n f s, Happens t s (.srcHoldExpire t n)
    (fun x => (x.outp n).failSince = some f ∧ x.cycling = true ∧ f + 1000 * x.of n (·.hold) ≤ x.now) (computeOut n)) ∧
  (∀ t n s, Happens t s (.cmdTimeoutExpire t n)
    (fun x => x.cycling = true ∧ x.of n (·.timeout) ≠ 0 ∧ x.of n (·.src) = 0 ∧
      (x.outp n).writtenAt + 1000 * x.of n (·.timeout) ≤ x.now) (computeOut n)) ∧
  (∀ t n stuck held s, Happens t s (.repeaterStuck t n ⟨stuck, held⟩)
    (fun x => (x.fn n).repeater = true ∧ x.running n = true ∧ x.gate (bayOf n) = true ∧ (x.dio n).switch.trippedAt = none ∧
      (x.ch n).tripped = false ∧ (x.stuckRule n stuck).2 = true ∧ (x.stuckRule n stuck).1 ≤ (held : Rat))
    (setOut n fun o => { o with status := setBit o.status 8 stuck }))

/-- The rows of the HART loops. Rule: 07_analog_outputs_hart.md. -/
def Obligations.HartEventsAct : Prop :=
  (∀ t n s, Happens t s (.hartPoll t n) (fun x => (x.hrt n).trans = none ∧ x.hartBlocked n = false) (hartNext n)) ∧
  (∀ t n a y s, Happens t s (.hartReply t n a) (fun x => (x.hrt n).trans = some y ∧ y.sentAt ≤ x.now)
    (fun x => hartAnswer n y a (x.modHart n fun h => { h with trans := none }))) ∧
  (∀ t n bad y s, Happens t s (.hartReplyTimeout t n bad)
    (fun x => (x.hrt n).trans = some y ∧ y.sentAt + 305000 ≤ x.now ∧ y.tries < x.cf .hart n 3)
    (hartSend n { y with allBad := y.allBad && bad, tries := y.tries + 1 })) ∧
  (∀ t n bad y s, Happens t s (.hartReplyTimeout t n bad)
    (fun x => (x.hrt n).trans = some y ∧ y.sentAt + 305000 ≤ x.now ∧ x.cf .hart n 3 ≤ y.tries)
    (fun x => hartFail n { y with allBad := y.allBad && bad } (x.modHart n fun h => { h with trans := none }))) ∧
  (∀ t n (a : Fin 16) (uid : BitVec 40) s, Happens t s (.hartBurstFrame t n ⟨a, uid⟩)
    (fun x => x.hartMode n ≠ 0 ∧ (x.ch n).modem < 8 ∧ x.running n = true ∧ x.gate (bayOf n) = true ∧ (x.hrt n).told.contains uid.toNat = false)
    (fun x => x.modHart n (·.tell a uid.toNat))) ∧
  (∀ t n (a : Fin 16) (uid : BitVec 40) s, Happens t s (.hartBurstFrame t n ⟨a, uid⟩)
    (fun x => x.hartMode n ≠ 0 ∧ (x.ch n).modem < 8 ∧ x.running n = true ∧ x.gate (bayOf n) = true ∧ (x.hrt n).told.contains uid.toNat = true ∧
      (x.hrt n).ending a = false)
    (fun x => setDev n a (fun d => { d with
      state := .burst
      uid := if ((x.hrt n).dev a).isSome then d.uid else uid.toNat
      liveUid := if ((x.hrt n).dev a).isSome then d.liveUid else uid.toNat }) x))

/-- The rows of the digital inputs, counters, frequency inputs and switched outputs. Rule: 08_digital_io_lamps.md. -/
def Obligations.DigitalEventsAct : Prop :=
  (∀ t n v te s, Happens t s (.diSample t n v false)
    (fun x => x.subFn n = .di ∧ x.converting n = true ∧ x.gate (bayOf n) = true ∧ (x.ch n).tripped = false ∧
      x.decides n false = some te ∧ (diThresholds (x.cf .ch n 2)).2 ≤ v ∧ x.filterOf n ≤ ((x.dio n).sampled true te).run ∧
      ((x.dio n).sampled true te).state = some false)
    (fun x =>
      let d : DioRun := { (x.dio n).sampled true te with pulseAt := some te }
      eventResult n (if x.dioFlag n 2 then 0 else 1) 0 0 d.runAt
        ((x.modDio n fun _ => d).modDio n fun d => { d with state := some true, changes := wrap32 (d.changes + 1) }))) ∧
  (∀ t n vTA vTB c te s, Happens t s (.diSupervisionPulse t n vTA vTB)
    (fun x => x.subFn n = .di ∧ x.converting n = true ∧ x.gate (bayOf n) = true ∧ x.decides n true = some te ∧
      lineClassOf (vTB - vTA) = some c ∧ (x.dio n).lineRun ≠ 0 ∧ (x.dio n).lineCand = c)
    (setDio n fun d =>
      { d with lineCand := c, lineRun := 2, line := c, pulseAt := some te, status := setBit d.status 6 (decide (c = .broken)) })) ∧
  (∀ t n s, Happens t s (.sensorSupplyTrip t n)
    (fun x => (x.subFn n = .di ∨ x.subFn n = .cnt ∨ x.subFn n = .frq) ∧ x.dioFlag n 4 = true ∧ x.running n = true ∧
      x.gate (bayOf n) = true ∧ (x.dio n).supply.closed = true)
    (fun x => tripDio n (fun d => { d with supply := d.supply.trip x.now, status := setBit d.status 7 true }) x)) ∧
  (∀ t n rising v held s, Happens t s (.cntEdge t n ⟨rising, v, held⟩)
    (fun x => x.fn n = .cnt ∧ x.running n = true ∧ (x.ch n).tripped = false ∧ x.edgeCounts n ⟨rising, v, held⟩ = true)
    (fun x => x.modDio n fun d => { d with
      state := some rising
      count := if edgeTaken (x.edgeSel n) rising then (d.count + 1) % 281474976710656 else d.count })) ∧
  (∀ t n rising (k : Fin 100) v held s, Happens t s (.frqEdge t n ⟨rising, v, held⟩ k)
    (fun x => x.fn n = .frq ∧ x.running n = true ∧ (x.ch n).tripped = false ∧ x.edgeCounts n ⟨rising, v, held⟩ = true ∧
      edgeTaken (x.edgeSel n) rising = true)
    (fun x => (x.modDio n fun d => { d with state := some rising }).modDio n fun d => match d.edge0 with
      | none => { d with edge0 := some (100 * x.node + k), edgeN := some (100 * x.node + k), periods := 0 }
      | some _ => { d with edgeN := some (100 * x.node + k), periods := d.periods + 1 })) ∧
  (∀ t n s, Happens t s (.frqGateEnd t n)
    (fun x => x.fn n = .frq ∧ x.running n = true ∧
      (x.dio n).gateEnd < x.node / (1000 * x.cf .dio n 8) * (1000 * x.cf .dio n 8))
    (fun x =>
      let te := x.node / (1000 * x.cf .dio n 8) * (1000 * x.cf .dio n 8)
      let f := gateFreq (100 * te) (1000000 * x.cf .dio n 9) (x.dio n)
      let excess := decide (100000 < f)
      eventResult n ((if excess then 100000 else f) * x.cr .dio n 7) (if excess then 4 else 0) (if excess then 4 else 0) te
        (setDio n (fun d => { d with freq := f, gateEnd := te, edge0 := d.edgeN, periods := 0,
                                     status := setBit d.status 1 excess }) x))) ∧
  (∀ t n excess mA held s, Happens t s (.switchTrip t n ⟨excess, mA, held⟩)
    (fun x => (x.fn n).retries = true ∧ x.running n = true ∧ x.gate (bayOf n) = true ∧ x.switchClosed n = true ∧
      x.trips n ⟨excess, mA, held⟩ = true ∧ x.fn n ≠ .lamp)
    (tripSwitch n excess)) ∧
  (∀ t n excess mA held s, Happens t s (.switchTrip t n ⟨excess, mA, held⟩)
    (fun x => (x.fn n).retries = true ∧ x.running n = true ∧ x.gate (bayOf n) = true ∧ x.switchClosed n = true ∧
      x.trips n ⟨excess, mA, held⟩ = true ∧ x.fn n = .lamp)
    (fun x => dropLearn n (setLamp n .tripped
      ((tripSwitch n excess x).modLamp n fun l => { l with tripCount := wrap16 (l.tripCount + 1), run := 0 })))) ∧
  (∀ t n s, Happens t s (.switchRetry t n true)
    (fun x => x.running n = true ∧ x.gate (bayOf n) = true ∧ (x.dio n).supply.mayRetry x.now = true ∧ x.dioFlag n 4 = true)
    (fun x => x.modDio n fun d => { d with supply := d.supply.close x.now true })) ∧
  (∀ t n s, Happens t s (.switchRetry t n false)
    (fun x => x.running n = true ∧ x.gate (bayOf n) = true ∧ (x.fn n).retries = true ∧ (x.dio n).switch.mayRetry x.now = true ∧
      ((x.fn n).repeater = true ∨ (x.outp n).drive ≠ 0) ∧ x.fn n ≠ .lamp)
    (closeSwitch n true)) ∧
  (∀ t n ext on mA v s, Happens t s (.doFaultDetect t n ext on mA v)
    (fun x => (x.fn n).switched = true ∧ x.converting n = true ∧ x.gate (bayOf n) = true ∧
      (x.modDio n fun d => { d with iSw := mA }).doFault n ext mA v = on)
    (fun x => setDioBit n (if ext then 5 else 4) on (x.modDio n fun d => { d with iSw := mA }))) ∧
  (∀ t n mJ s, Happens t s (.demagLimit t n mJ) (fun x => (x.fn n).retries = true ∧ x.running n = true)
    (fun x => demagLimits (bayOf n) (x.modDio n fun d =>
      { d with demag := (if 0 < mJ then [(x.now, mJ)] else []) ++ d.demag.filter fun y => x.now < y.1 + 10000000 })))

/-- The rows of the lamps and of the field supply of a bay. Rule: 08_digital_io_lamps.md, 04_universal_channel.md. -/
def Obligations.LampAndSupplyEventsAct : Prop :=
  (∀ t n mA s, Happens t s (.lampSample t n mA)
    (fun x => x.fn n = .lamp ∧ x.running n = true ∧ x.gate (bayOf n) = true ∧ (x.lamp n).phaseOn = true ∧
      (x.dio n).switch.closed = true ∧ (x.lamp n).learn = none ∧ (x.lamp n).onAt + x.lampBlank n ≤ x.now ∧
      (x.bay (bayOf n)).fsLost = false ∧ x.pair.claiming = none ∧ x.cr .lamp n 15 ≠ 0)
    (fun x => lampClassify n (x.lampExp n) mA (eventResult n mA 0 0 x.node
      ((x.modLamp n fun l => { l with iLamp := mA, iExp := x.lampExp n }).modDio n fun d => { d with iSw := mA })))) ∧
  (∀ t n mA s, Happens t s (.lampColdTest t n mA)
    (fun x => x.fn n = .lamp ∧ x.coldTest n = true ∧ x.running n = true ∧ x.gate (bayOf n) = true ∧ x.coldFits n = true ∧
      (x.bay (bayOf n)).fsLost = false ∧ (x.outp n).drive = 0)
    (fun x => coldResult n (decide (x.coldMin n ≤ mA))
      (eventResult n mA 0 0 x.node (x.modLamp n fun l => { l with iCold := mA, tTest := x.node })))) ∧
  (∀ t n v s, Happens t s (.lampExtV t n v)
    (fun x => x.fn n = .lamp ∧ x.running n = true ∧ (x.outp n).drive = 0 ∧ (5 : Rat) ≤ v) (setLamp n .extV)) ∧
  (∀ t n v s, Happens t s (.lampExtV t n v)
    (fun x => x.fn n = .lamp ∧ x.running n = true ∧ (x.outp n).drive = 0 ∧ v < (5 : Rat) ∧ (x.lamp n).state = .extV) (lampOff n)) ∧
  (∀ t n s, Happens t s (.flashPhase t n)
    (fun x => x.fn n = .lamp ∧ (x.outp n).drive = 2 ∧ x.gate (bayOf n) = true ∧
      ((x.outp n).latched && (x.outp n).isLamp && (x.outp n).pulse.isSome) = false) (flashStep n)) ∧
  (∀ t n s, Happens t s (.flashPhase t n)
    (fun x => (x.outp n).drive = 2 ∧ x.gate (bayOf n) = true ∧
      ((x.outp n).latched && (x.outp n).isLamp && (x.outp n).pulse.isSome) = true) (flashFree n)) ∧
  (∀ t (b : Bay) (w : Fin 4) on v s, Happens t s (.fieldSupplyThreshold t b w on v)
    (fun x => (x.bay b).fsFlag w ≠ on ∧ fsCrossed w on v = true)
    (fun x => if (w : Nat) = 3 then supplyStages b on (changeBay b (fun y => (y.measure v).setFs w on) x)
      else changeBay b (fun y => (y.measure v).setFs w on) x)) ∧
  (∀ t (b : Bay) v s, Happens t s (.latchFloorPassed ⟨t, v⟩ b) (fun _ => v < 6)
    (fun x =>
      let run := decide ((x.bay b).state = .running)
      let y := (bayChans b).foldl (fun s n => hartGuard n (lockStage n (latchGone n (s.modOut n fun o => { o with latched := false }))))
        (changeBay b (fun y => { y.measure v with
          latchLost := y.latchLost || run, latchOwed := y.latchOwed || !run, claim := false }) x)
      (List.range 32).foldl (fun s l =>
        if s.laneBay l = (b : Nat) && decide ((s.lane l).state ≠ .off) then laneResult l (s.modLane l LaneRun.openBoth) else s) y)) ∧
  (∀ t (b : Bay) amps v isOpen loads s, Happens t s (.bayCurrentSample t b amps ⟨v, isOpen⟩ loads)
    (fun x => loads.length = 32 ∧ (x.bay b).state = .running ∧
      ((noteSense b isOpen ((noteLoads b loads x).modBay b (·.current amps v x.now))).bay b).shedding = false)
    (fun x => noteSense b isOpen ((noteLoads b loads x).modBay b (·.current amps v x.now)))) ∧
  (∀ t (b : Bay) amps v isOpen loads n y s, Happens t s (.bayCurrentSample t b amps ⟨v, isOpen⟩ loads)
    (fun x => loads.length = 32 ∧ (x.bay b).state = .running ∧ 
      y = noteSense b isOpen ((noteLoads b loads x).modBay b (·.current amps v x.now)) ∧
      (y.bay b).shedding = true ∧ y.gate b = true ∧ shedChoice b loads y = some n)
    (fun _ => shedSwitch n y))

/-- The rows of the safety lanes. Rule: 09_safety_lanes.md. -/
def Obligations.LaneEventsAct : Prop :=
  (∀ t (b : Bay) flip s, Happens t s (.laneWordArrival t b false true flip) (fun x => x.cycling = true)
    (fun x => (List.range 32).foldl (fun s l =>
      if (s.lane l).state = .off || s.laneBay l ≠ (b : Nat) then s
      else laneResult l (s.modLane l fun r => { r with hs := r.hs.word (r.hs.sent != hasBit flip l) s.now })) x)) ∧
  (∀ t (b : Bay) flip s, Happens t s (.laneWordArrival t b true true flip) (fun x => x.cycling = true)
    (fun x => (List.range 32).foldl (fun s l =>
      if (s.lane l).state = .off || s.laneBay l ≠ (b : Nat) then s
      else laneResult l (compareLines l (s.modLane l fun r =>
        { r with ls := r.ls.word (r.ls.sent != hasBit flip l) s.now }))) x)) ∧
  (∀ t (l : Lane) s, Happens t s (.laneWdExpire t l true)
    (fun x => (x.lane l).state ≠ .off ∧ (x.lane l).ls.expired = false ∧
      (x.lane l).ls.validAt + 1000 * x.cf .lane l 10 ≤ x.now)
    (fun x => setLane l (fun r => ({ r with driveDisc := true } : LaneRun).tripped 6 x.node)
      (laneResult l (x.modLane l fun r => { r with ls := { r.ls with expired := true, closed := false } })))) ∧
  (∀ t (l : Lane) s, Happens t s (.laneWdExpire t l false)
    (fun x => (x.lane l).state ≠ .off ∧ (x.lane l).hs.expired = false ∧
      (x.lane l).hs.validAt + 1000 * x.cf .lane l 10 ≤ x.now)
    (fun x => setLane l (fun r => ({ r with driveDisc := true } : LaneRun).tripped 6 x.node)
      (laneResult l (x.modLane l fun r => { r with hs := { r.hs with expired := true, closed := false } })))) ∧
  (∀ t (l : Lane) mA held s, Happens t s (.laneOutputTrip t l ⟨2, mA, held⟩)
    (fun x => mA < 10 ∧ 100000 ≤ held ∧ (x.lane l).state ≠ .off ∧ (x.lane l).hs.closed = true ∧ (x.lane l).ls.closed = true)
    (fun x => laneResult l (setLane l (fun r => ({ r.openBoth with outFault := true } : LaneRun).tripped 5 x.node) x))) ∧
  (∀ t (l : Lane) mA held s, Happens t s (.laneOutputTrip t l ⟨1, mA, held⟩)
    (fun x => 650 < mA ∧ 10000 ≤ held ∧ (x.lane l).state ≠ .off ∧ ((x.lane l).hs.closed = true ∨ (x.lane l).ls.closed = true))
    (fun x =>
      let y := setLane l (fun r => ({ r.openBoth with outFault := true } : LaneRun).tripped 7 x.node) x
      laneResult l (tripDio (y.laneChan l 3) (fun d => { d with status := setBit d.status 3 true }) y))) ∧
  (∀ t (l : Lane) mA held s, Happens t s (.laneOutputTrip t l ⟨0, mA, held⟩)
    (fun x => 1500 ≤ mA ∧ 100 ≤ held ∧ (x.lane l).state ≠ .off ∧ ((x.lane l).hs.closed = true ∨ (x.lane l).ls.closed = true))
    (fun x =>
      let y := setLane l (fun r => ({ r.openBoth with outFault := true } : LaneRun).tripped 7 x.node) x
      laneResult l (tripDio (y.laneChan l 3) (fun d => { d with status := setBit d.status 2 true }) y))) ∧
  (∀ t (l : Lane) v s, Happens t s (.lanePulseTest t l v)
    (fun x => (x.lane l).state = .armed ∧ x.laneFlag l 3 = true ∧ (x.lane l).hs.closed = true ∧ (x.lane l).ls.closed = true ∧
      (x.lane l).pulseAt + 1000000 * x.cf .lane l 11 ≤ x.node ∧ 5 < v)
    (fun x => x.modLane l fun r =>
      { r with pulseAt := x.node, pulseHs := !(x.lane l).pulseHs, pulseCount := wrap16 (r.pulseCount + 1) })) ∧
  (∀ t (l : Lane) v s, Happens t s (.lanePulseTest t l v)
    (fun x => (x.lane l).state = .armed ∧ x.laneFlag l 3 = true ∧ (x.lane l).hs.closed = true ∧ (x.lane l).ls.closed = true ∧
      (x.lane l).pulseAt + 1000000 * x.cf .lane l 11 ≤ x.node ∧ v ≤ 5 ∧ (x.lane l).pulseHs = false)
    (fun x => laneResult l (setLane l
      (fun r => ({ r with stuckHs := true, ls := { r.ls with closed := false } } : LaneRun).tripped 5 x.node)
      (x.modLane l fun r => { r with pulseAt := x.node, pulseHs := true })))) ∧
  (∀ t (l : Lane) s, Happens t s (.laneDegradeExpire t l)
    (fun x => (x.lane l).state = .armed ∧ (x.lane l).overdue (x.degradeLimit l) x.node = true)
    (fun x => setLane l (·.tripped 4 x.node) x)) ∧
  (∀ t (l : Lane) s, Happens t s (.laneDisc t l) (fun x => (x.lane l).state ≠ .off) (discStep l))

/-- The rows of the Granary: submission, losses, drain, erase, floods, freeze limits, wear. Rule: 12_granary.md, 01_architecture.md. -/
def Obligations.GranaryEventsAct : Prop :=
  (∀ t (port : Fin 4) r rest y z s, Happens t s (.granarySubmit t port)
    (fun x => x.alive = true ∧ z = wearStep x ∧ (tget PortRun.initial z.grn.ports port).queue = r :: rest ∧
      z.alive = true ∧ z.executes = true ∧
      intakeRec r (setPort port { tget PortRun.initial z.grn.ports port with queue := rest } z) = some y)
    (fun _ => y)) ∧
  (∀ t (port : Fin 4) r rest z s, Happens t s (.granarySubmit t port)
    (fun x => x.alive = true ∧ z = wearStep x ∧ (tget PortRun.initial z.grn.ports port).queue = r :: rest ∧
      z.alive = true ∧ z.executes = false)
    (fun _ => (setPort port { tget PortRun.initial z.grn.ports port with queue := rest } z).emit
      (.peer 6 (recBytes ⟨r.code, 0, r.time, r.payload⟩)))) ∧
  (∀ t (port : Fin 4) s, Happens t s (.lossRecord t port) (fun x => x.alive = true)
    (fun x =>
      let p := tget PortRun.initial x.grn.ports port
      let q := lossRecords port x.node p.refused (p, 0)
      let y := setPort port q.1 x
      { y with grn := { y.grn with lost := wrap32 (y.grn.lost + q.2) } })) ∧
  (∀ t s, Happens t s (.granaryDrainPage t) (fun x => x.drains = true ∧ x.grn.pageFull = true) drainPage) ∧
  (∀ t r rs s, Happens t s (.granaryFlush t)
    (fun x => x.grn.staged.drop x.grn.bodies = r :: rs ∧ x.drains = true ∧ (x.drainsAtOnce = true ∨ r.1 + x.flushTime ≤ x.now)) drainPage) ∧
  (∀ t s, Happens t s (.sectorErase t) (fun x => x.grn.eraseDue.isSome = true ∧ x.drains = true)
    (fun x => { x with grn := { x.grn.erase ((x.grn.sector + 1) % 768) with eraseDue := none } })) ∧
  (∀ t (code : Fin 1024) b s, Happens t s (.floodEnd t code)
    (fun x => tfind x.grn.buckets code = some b ∧ x.alive = true ∧ b.flood = true ∧ b.at_ ≤ x.node / 1000000 * 1000 ∧
      x.grnDepth code ≤ (x.bucketAt code (x.node / 1000000 * 1000)).tokens)
    (fun x => summaryRecord code { x.bucketAt code (x.node / 1000000 * 1000) with flood := false } x)) ∧
  (∀ t (code : Fin 1024) b s, Happens t s (.floodSummary t code)
    (fun x => tfind x.grn.buckets code = some b ∧ x.alive = true ∧ b.flood = true ∧ b.since + 60000000 ≤ x.now)
    (summaryRecord code b)) ∧
  (∀ t f s, Happens t s (.grnLeaseExpire t)
    (fun x => x.grn.freeze = some f ∧ x.alive = true ∧ f.lease + 2000000 ≤ x.now) (endFreeze 3)) ∧
  (∀ t f s, Happens t s (.grnFreezeLimit t)
    (fun x => x.grn.freeze = some f ∧ x.alive = true ∧ f.began + 60000000 ≤ x.now) (endFreeze 6)) ∧
  (∀ t s, Happens t s (.wearReport t) (fun x => x.alive = true ∧ x.grn.wearAt + 86400000000 ≤ x.now)
    (fun x => wearStep (wearRecord { x with grn := { x.grn with wearAt := x.now } })))

/-- The rows of the clock and its sources. Rule: 13_clock.md. -/
def Obligations.TimeEventsAct : Prop :=
  (∀ t (ns : Fin 1000) rising s, Happens t s (.ppsEdge t ⟨ns, rising⟩)
    (fun x => x.logicOn = true ∧ x.nd.dataStalled = false ∧ rising = !hasBit (x.param 0x13000004) 0)
    (fun x => x.modClk fun c =>
      { c with ppsStamp := some (x.stamp ns : Nat), ppsAt := x.now, ppsLabelled := false,
               labelRun := if c.ppsLabelled then c.labelRun else 0, ppsEdges := wrap32 (c.ppsEdges + 1) })) ∧
  (∀ t x s, Happens t s (.timeSentence t x)
    (fun y => y.logicOn = true ∧ x.known = true ∧ x.fast = (y.param 0x13000005 == 38400) ∧ x.checksum = false)
    (fun y => y.modClk fun c => { c with senBad := wrap32 (c.senBad + 1) })) ∧
  (∀ t x st label s, Happens t s (.timeSentence t x)
    (fun y => y.logicOn = true ∧ x.known = true ∧ x.fast = (y.param 0x13000005 == 38400) ∧ x.checksum = true ∧
      (x.zda = true ∨ x.statusA = true) ∧ y.clk.ppsStamp = some st ∧
      sentenceLabel x (y.modClk fun c => { c with senOk := wrap32 (c.senOk + 1) }) = some (label, false) ∧
      50000 ≤ y.now - y.clk.ppsAt ∧ y.now - y.clk.ppsAt ≤ 950000 ∧ y.clk.ppsLabelled = false)
    (fun y => labelEdge label st (y.modClk fun c => { c with senOk := wrap32 (c.senOk + 1) }))) ∧
  (∀ t s, Happens t s (.timeLockLoss t) (fun x => x.clk.timeLock = true ∧ x.clk.labelAt + 3000000 ≤ x.now)
    (fun x => sourceStep (x.modClk fun c => { c with timeLock := false, labelRun := 0 }))) ∧
  (∀ t s, Happens t s (.ringLockLoss t) (fun x => x.clk.ringLock = true ∧ x.clk.ringAt + 1000000 ≤ x.now)
    (fun x => sourceStep (x.modClk fun c => { c with ringLock := false }))) ∧
  (∀ t s, Happens t s (.timeStep t)
    (fun x => x.clk.step.isSome = true) (fun x => stepNow (atSweepStart x))) ∧
  (∀ t s, Happens t s (.leapHold t) (fun x => x.logicOn = true ∧ x.leapDue = true)
    (fun x => leapHold (atSweepStart x))) ∧
  (∀ t s, Happens t s (.clockSlaveSecond t)
    (fun x => x.logicOn = true ∧ x.nd.dataStalled = false ∧ x.clk.rangeEnd = false ∧ x.node % 1000000 = 0)
    (fun x => x.draw.2.modClk fun c => { c with clock := x.node - Config.freeNat x.free % 31 })) ∧
  (∀ t s, Happens t s (.oscStopDetect t) (fun _ => True)
    (fun x => trustStep 1 (x.modClk fun c => { c with oscStop := true }))) ∧
  (∀ t s, Happens t s (.clockRangeEnd t)
    (fun x => clockLimit ≤ x.clk.clock ∧ x.clk.rangeEnd = false ∧ ∀ p, x.clk.step = some p → p.apply = none)
    (fun x => trustStep 1 (x.modClk fun c => { c with clock := clockLimit - 1, rangeEnd := true })))

/-- The six frame types of a ring, received whole and for the first time, are taken. Rule: 14_ponor_link.md. -/
def Obligations.FramesAreTaken : Prop :=
  (∀ t (ns : Fin 1000) (p : Port) f s, Happens t s (.syncFrame t ns p f)
    (fun x => (receive 1 p f x).1 = true ∧ f.unit ≠ Config.unitAddress)
    (fun x => takeSync p (x.stamp ns : Nat) f (receive 1 p f x).2)) ∧
  (∀ t (ns : Fin 1000) (p : Port) f s, Happens t s (.syncFrame t ns p f)
    (fun x => (receive 1 p f x).1 = true ∧ f.unit = Config.unitAddress)
    (fun x => (receive 1 p f x).2.modRing (p.val / 2) fun r =>
      { r with syncPorts := if r.syncPorts.contains p.val then r.syncPorts else r.syncPorts ++ [p.val],
               tRing := (((x.stamp ns : Nat) : Int) - r.syncTx).toNat })) ∧
  (∀ t (ns : Fin 1000) (p : Port) f s, Happens t s (.linkFrame t ns p f)
    (fun x => x.logicOn = true ∧ x.nd.dataStalled = false ∧ x.portState p ≠ .disabled ∧ x.portState p ≠ .down ∧
      foreignFrame f = false ∧ f.good = true)
    (fun x => takeLink p ((police p f x).stamp ns) f (police p f x))) ∧
  (∀ t (ns : Fin 1000) (p : Port) f s, Happens t s (.linkFrame t ns p f)
    (fun x => x.logicOn = true ∧ x.nd.dataStalled = false ∧ x.portState p ≠ .disabled ∧ x.portState p ≠ .down ∧
      foreignFrame f = false ∧ f.good = false)
    (fun x => (police p f x).modPort p fun y => { y with linkRun := 0, fcsErr := wrap32 (y.fcsErr + 1) })) ∧
  (∀ t (ns : Fin 1000) (p : Port) f s, Happens t s (.linkFrame t ns p f)
    (fun x => x.logicOn = true ∧ x.nd.dataStalled = false ∧ x.portState p ≠ .disabled ∧ x.portState p ≠ .down ∧
      foreignFrame f = true)
    (fun x => police p f (x.count 20 1))) ∧
  (∀ t (p : Port) f s, Happens t s (.dataFrame t p f)
    (fun x => (receive 3 p f x).1 = true ∧ f.unit ≠ Config.unitAddress ∧ (firstCopy 3 p f (receive 3 p f x).2).1 = true)
    (fun x =>
      let y := (firstCopy 3 p f (receive 3 p f x).2).2
      let z := if y.clashes f then setClash true (p.val / 2) f.unit y else y
      takeData (p.val / 2) f (if z.fromPeer f then copyData (p.val / 2) f.payload z else z))) ∧
  (∀ t (p : Port) f s, Happens t s (.pollFrame t p f)
    (fun x => (receive 4 p f x).1 = true ∧ f.unit ≠ Config.unitAddress ∧ fieldAt f.payload 0 6 = Config.unitAddress ∧
      (firstCopy 4 p f (lateCopy (p.val / 2) (receive 4 p f x).2)).1 = true)
    (fun x => pollReply (p.val / 2) (firstCopy 4 p f (lateCopy (p.val / 2) (receive 4 p f x).2)).2)) ∧
  (∀ t (p : Port) f s, Happens t s (.nilFrame t p f)
    (fun x => (receive 5 p f x).1 = true ∧ f.unit ≠ Config.unitAddress ∧ (firstCopy 5 p f (receive 5 p f x).2).1 = true)
    (fun x => noteMore (p.val / 2) f (firstCopy 5 p f (receive 5 p f x).2).2)) ∧
  (∀ t (p : Port) f s, Happens t s (.acycFrame t p f)
    (fun x => (receive 6 p f x).1 = true ∧ f.unit ≠ Config.unitAddress ∧ (firstCopy 6 p f (receive 6 p f x).2).1 = true ∧
      (noteMore (p.val / 2) f (firstCopy 6 p f (receive 6 p f x).2).2).copying = false)
    (fun x => deliverAcyc p f (bridgeAcyc (p.val / 2) f
      (noteMore (p.val / 2) f (firstCopy 6 p f (receive 6 p f x).2).2))))

/-- The rows of the ring ports, the node address and the optics. Rule: 14_ponor_link.md, 02_module_and_ports.md. -/
def Obligations.PortEventsAct : Prop :=
  (∀ t (p : Port) s, Happens t s (.babbleReopen t p)
    (fun x => x.portState p = .cut ∧ (x.port p).cutAt + (x.port p).cutHold ≤ x.now)
    (fun x => submit .data 0x143
      (le 1 p.val ++ le 1 2 ++ le 2 ((x.port p).cutHold / 1000000) ++ le 4 (x.port p).bytes)
      (setPortState p (if (x.port p).sync = false then .down else if 8 ≤ (x.port p).linkRun then upState p (x.port p).nPort else .silent)
        (x.modPort p fun y => { y with reopenAt := some x.now, bytes := 0 })))) ∧
  (∀ t (p : Port) s, Happens t s (.portSilent t p)
    (fun x => x.logicOn = true ∧ ((x.portState p).works = true ∨ x.portState p = .miscabled) ∧ (x.port p).linkAt + 1000 ≤ x.now)
    (fun x => setPortState p .silent (x.modPort p fun y => { y with linkRun := 0 }))) ∧
  (∀ t (p : Port) up s, Happens t s (.portSyncLoss t p up) (fun x => x.logicOn = true) (setSync p up)) ∧
  (∀ t s, Happens t s (.dataStart t)
    (fun x => x.alive = true ∧ x.ponor.dataStarted = false ∧ 8 ≤ x.ponor.dataWait ∧ x.ponor.addrClash = false)
    (fun x => { x with ponor := { x.ponor with dataStarted := true } })) ∧
  (∀ t s, Happens t s (.addrClashClear t) (fun x => x.ponor.addrClash = true ∧ 400 ≤ x.ponor.clashFree)
    (fun x => setClash false x.ponor.clashRing x.ponor.clashUnit x)) ∧
  (∀ t (p : Port) v w z s, Happens t s (.sfpInsert t p true v w z) (fun x => x.logicOn = true)
    (fun x => (x.modSfp p fun _ => ⟨true, false, fit 16 v, fit 16 w, fit 16 z, [], none⟩).emit
      (.report (.sfpIdentity p (fit 16 v) (fit 16 w) (fit 16 z))))) ∧
  (∀ t (p : Port) v w z y s, Happens t s (.sfpInsert t p false v w z)
    (fun x => y = followPort p (x.portState p)
        (x.modSfp p fun _ => ⟨true, true, fit 16 v, fit 16 w, fit 16 z, [], none⟩) ∧
      y.logicOn = true)
    (fun _ => hwEvent 6 (y.emit (.report (.sfpIdentity p (fit 16 v) (fit 16 w) (fit 16 z)))))) ∧
  (∀ t (p : Port) s, Happens t s (.sfpRemove t p) (fun x => x.logicOn = true)
    (fun x => followPort p ((setSync p false x).portState p) ((setSync p false x).modSfp p fun _ => Sfp.none))) ∧
  (∀ t (p : Port) d s, Happens t s (.sfpDiagPoll t p d)
    (fun x => x.logicOn = true ∧ (tget Sfp.none x.nd.sfp p).fitted = true ∧ (tget Sfp.none x.nd.sfp p).refused = false ∧
      x.portEnabled p = true ∧ d ≠ [] ∧ ∀ a, (tget Sfp.none x.nd.sfp p).diagAt = some a → a + 1000000 ≤ x.now)
    (fun x => (x.modSfp p fun y => { y with diag := d.take 5, diagAt := some x.now }).emit (.report (.sfpDiag p (d.take 5)))))

/-- The rows of the pair's traffic, its checks and its lane. Rule: 15_redundant_pair.md. -/
def Obligations.PairEventsAct : Prop :=
  (∀ t pkt h s, Happens t s (.heartbeatRx t pkt h) (fun x => x.alive = true ∧ x.paired = true) (receiveBeat pkt h)) ∧
  (∀ t s, Happens t s (.heartbeatLoss t)
    (fun x => x.alive = true ∧ x.paired = true ∧ x.pair.lostAt = none ∧ x.nd.resetTime + 2800 ≤ x.now ∧
      laneOld x.pair.hbPairAt x.now = true ∧ laneOld x.pair.hbPktAt x.now = true)
    (fun x =>
      let y := setPairFault 0 true (x.modPair fun p =>
        { p with lostAt := some x.now, lostAsserted := p.peerLine, offered := none })
      judge (if y.nd.mode = .resync && y.pair.step < 4 then
        (resyncRecord y.pair.step 4 y).modPair fun p => { p with step := 1 } else y))) ∧
  (∀ t a s, Happens t s (.heartbeatLoss t)
    (fun x => x.alive = true ∧ x.paired = true ∧ x.pair.lostAt = some a ∧ hasBit x.pair.faults 0 = false ∧
      x.nd.resetTime + 2800 ≤ x.now ∧ laneOld x.pair.hbPairAt x.now = true ∧ laneOld x.pair.hbPktAt x.now = true)
    (fun x => judge (setPairFault 0 true x))) ∧
  (∀ t m s, Happens t s (.partIRx t m)
    (fun x => x.alive = true ∧ x.paired = true ∧ x.shadows = true ∧ (x.peerMode = 3 ∨ x.peerMode = 6) ∧ x.pair.partI = none)
    (fun x => x.modPair fun p => { p with
      partI := some m, partAt := x.node
      partsFrom := if x.pair.partAt + 2000 < x.node then some x.node else some (p.partsFrom.getD x.node) })) ∧
  (∀ t c s, Happens t s (.partCRx t c)
    (fun x => x.alive = true ∧ x.paired = true ∧ x.shadows = true ∧ (x.peerMode = 3 ∨ x.peerMode = 6))
    (fun x => x.modPair fun p => { p with partC := some c })) ∧
  (∀ t a s, Happens t s (.pairLaneFallback t)
    (fun x => x.alive = true ∧ x.paired = true ∧ x.peerLost = false ∧ x.pair.onPkt = false ∧ x.pair.hbPairAt = some a ∧
      a + 3000 ≤ x.now)
    (fun x => setPairFault 1 true (x.modPair fun p => { p with onPkt := true, clean := 0 }))) ∧
  (∀ t n s, Happens t s (.readbackMismatch t n false)
    (fun x => x.alive = true ∧ x.paired = true ∧ x.nd.mode = .duty ∧ x.gate (bayOf n) = true ∧
      3 ≤ tget 0 x.pair.readback n ∧ x.pair.declared = false) (declareFault 3)) ∧
  (∀ t k s, Happens t s (.disagree t k)
    (fun x => x.alive = true ∧ x.paired = true ∧ k < 66560 ∧
      (x.waits = true ∧ x.peerMode = 3 ∧ x.peerStuck = false ∧ x.param 0x15000004 ≤ tget 0 x.pair.disagree k ∨ x.nd.mode = .duty ∧ x.peerMode = 4))
    (disagreed k)) ∧
  (∀ t c i s, Happens t s (.pairRefCheck t ⟨some (c, i), none⟩) (fun x => x.alive = true ∧ x.paired = true)
    (fun x => compareRefs (x.modPair fun p => { p with refConfig := wrap32 c, refImage := wrap32 i }))) ∧
  (∀ t i s, Happens t s (.pairRefCheck t ⟨none, some i⟩) (fun x => x.alive = true ∧ x.paired = true)
    (fun x => compareRefs (x.modPair fun p => { p with peerImage := wrap32 i }))) ∧
  (∀ t s, Happens t s (.pairRefCheck t ⟨none, none⟩) (fun x => x.alive = true ∧ x.paired = true)
    (fun x => compareRefs (x.emit (.peer 15 (le 4 x.imageCrc))))) ∧
  (∀ t s, Happens t s (.peerPresOpen t) (fun x => x.alive = true) (setPeerPres false)) ∧
  (∀ t m s, Happens t s (.resyncStep t m)
    (fun x => x.alive = true ∧ x.paired = true ∧ x.nd.mode = .resync ∧ x.peerMode = 3) (resyncStep m)) ∧
  (∀ t r y s, Happens t s (.pairRecordRx t r)
    (fun x => x.alive = true ∧ x.paired = true ∧ x.executes = true ∧ intakeRec ⟨r.code, r.time, r.payload⟩ x = some y)
    (fun _ => y)) ∧
  (∀ t r s, Happens t s (.pairRecordRx t r)
    (fun x => x.alive = true ∧ x.paired = true ∧ x.executes = false ∧ x.stageRoom ⟨r.code, r.time, r.payload⟩ = true)
    (fun x => breakFreeze (stageRec ⟨r.code, r.seq, r.time, r.payload⟩ x)))

/-- The rows of the sluice lines, takeover and handover. Rule: 15_redundant_pair.md. -/
def Obligations.SluiceEventsAct : Prop :=
  (∀ t a s, Happens t s (.forcedRelease t)
    (fun x => x.alive = true ∧ x.paired = true ∧ x.waits = true ∧ x.pair.lostAt = some a ∧ a + 10000 ≤ x.now ∧
      x.pair.lostAsserted = true ∧ x.pair.peerLine = true ∧ x.peerDrove = true) (takeover 3 0 true)) ∧
  (∀ t c s, Happens t s (.takeoverYieldCheck t)
    (fun x => x.pair.claiming = some c ∧ x.alive = true ∧ x.paired = true ∧ x.stillHeld c = true)
    (fun x => reclaim c.cause x)) ∧
  (∀ t c s, Happens t s (.takeoverYieldCheck t)
    (fun x => x.pair.claiming = some c ∧ x.alive = true ∧ x.paired = true ∧ x.stillHeld c = false ∧ c.began + 2000 ≤ x.now)
    (fun x => x.modPair fun p => { p with claiming := none })) ∧
  (∀ t s, Happens t s (.sluiceYield t) (fun x => x.nd.pairBase = true ∧ x.pair.peerLine = false)
    (fun x => completeHandover (peerRises x))) ∧
  (∀ t c s, Happens t s (.sluiceReclaim t)
    (fun x => x.pair.yieldAt = some c ∧ x.cycling = true ∧ x.paired = true ∧
      c.began + (if x.atB then 300 else 100) ≤ x.now ∧ (x.atB = true → x.pair.peerLine = false) ∧ x.pair.shutIn = false)
    (fun x => claimDuty c.kind c.cause false x)) ∧
  (∀ t c s, Happens t s (.sluiceReclaim t)
    (fun x => x.pair.yieldAt = some c ∧ x.cycling = true ∧ x.paired = true ∧
      c.began + (if x.atB then 300 else 100) ≤ x.now ∧ (x.atB = true ∧ x.pair.peerLine = true ∨ x.pair.shutIn = true))
    (fun x => x.modPair fun p => { p with yieldAt := none })) ∧
  (∀ t s, Happens t s (.sluiceShutIn t true) (fun x => x.nd.pairBase = true ∧ x.pair.shutIn = false ∧ x.alive = true)
    (fun x => stepDown true (clearClaims (releaseOwn ((setPairFault 10 true (x.modPair fun p => { p with shutIn := true })).modPair
      fun p => { p with claimReq := false, claiming := none }))))) ∧
  (∀ t s, Happens t s (.sluiceShutIn t false) (fun x => x.nd.pairBase = true ∧ x.pair.shutIn = true ∧ x.alive = true)
    (fun x => gatesMoved (setPairFault 10 false (x.modPair fun p => { p with shutIn := false })))) ∧
  (∀ t s, Happens t s (.sluiceWatchdogExpire t)
    (fun x => x.logicOn = true ∧ x.pair.own = true ∧ x.pair.servedAt + 2000 ≤ x.now) releaseOwn) ∧
  (∀ t mA s, Happens t s (.sluiceLoopFault t true mA)
    (fun x => x.alive = true ∧ x.nd.pairBase = true ∧ (x.pair.shutOut = true ∧ mA < 5 ∨ 15 < mA))
    (fun x => setPairFault 4 true (x.modPair fun p => { p with shutLoop := if mA < 5 then .opened else .shorted }))) ∧
  (∀ t mA s, Happens t s (.sluiceLoopFault t false mA)
    (fun x => x.alive = true ∧ x.nd.pairBase = true ∧ (x.pair.own = true ∧ mA < 5 ∨ 15 < mA))
    (fun x => followOwnLoop (setPairFault 3 true
      (x.modPair fun p => { p with ownLoop := if mA < 5 then .opened else .shorted })))) ∧
  (∀ t mA s, Happens t s (.sluiceLoopFault t true mA)
    (fun x => x.alive = true ∧ x.nd.pairBase = true ∧ x.pair.shutOut = true ∧ 5 ≤ mA ∧ mA ≤ 15)
    (fun x => x.modPair fun p => { p with shutLoop := .sound })) ∧
  (∀ t mA s, Happens t s (.sluiceLoopFault t false mA)
    (fun x => x.alive = true ∧ x.nd.pairBase = true ∧ x.pair.own = true ∧ 5 ≤ mA ∧ mA ≤ 15)
    (fun x => followOwnLoop (x.modPair fun p => { p with ownLoop := .sound }))) ∧
  (∀ t o s, Happens t s (.handoverClaim t)
    (fun x => x.pair.offered = some o ∧ x.alive = true ∧ x.paired = true ∧ x.eligible = true ∧ x.peerMode = 3 ∧
      o / 1000 < x.node / 1000 ∧ 50 ≤ x.node % 1000) (claimDuty 4 0 false)) ∧
  (∀ t tk limit w s, Happens t s (.handoverTimeout t)
    (fun x => x.host.afterHandover = some (tk, limit, w) ∧ x.alive = true ∧ x.onDuty = true ∧ limit ≤ x.now)
    (fun x =>
      let y := x.modPair fun p => { p with handover := none }
      reply tk stState [] { y with host := { y.host with afterHandover := none } })) ∧
  (∀ t s, Happens t s (.sluicePeerReleased t) (fun x => x.nd.pairBase = true ∧ x.pair.peerLine = true ∧
      (gatesMoved (x.modPair fun p => { p with peerLine := false, peerFreeAt := x.now, lostAsserted := false })).alive = true)
    (fun x => judge (gatesMoved (x.modPair fun p =>
      { p with peerLine := false, peerFreeAt := x.now, lostAsserted := false }))))

/-- The rows of a commit under way, of the mailbox, of passed replies and of datagrams on SVC. Rule: 17_configuration_calibration.md,
01_architecture.md, 16_command_protocol.md, 15_redundant_pair.md. -/
def Obligations.CommitAndServiceEventsAct : Prop :=
  (∀ t c s, Happens t s (.commitBankWritten t)
    (fun x => x.cfg.commit = some c ∧ x.alive = true ∧ x.nd.mgmtStalled = false ∧ c.own = true ∧ c.step = 3 ∧ c.bankWritten = false)
    (fun x => beginPhases (programBank x))) ∧
  (∀ t c s, Happens t s (.commitPeerAck t)
    (fun x => x.cfg.commit = some c ∧ x.alive = true ∧ c.own = true ∧ x.paired = true) (peerSettled true)) ∧
  (∀ t c s, Happens t s (.commitPeerTimeout t)
    (fun x => x.cfg.commit = some c ∧ x.alive = true ∧ c.own = true ∧ c.peerDone = false ∧ c.began + 5000000 ≤ x.now)
    (peerSettled false)) ∧
  (∀ t epoch chs s, Happens t s (.peerCommitRx t epoch chs)
    (fun x => x.alive = true ∧ x.paired = true ∧ x.executes = false ∧ x.nd.mode ≠ .hold)
    (fun x =>
      let old := x.liveRecords
      let target := applyChanges old chs
      let phases := planPhases old target
      let c : Commit :=
        { step := 4, session := 255, ticket := none, own := false, revert := false, changes := chs, phases := phases,
          target := target, bank := x.spareBank, bankWritten := true, peerAcked := true, peerDone := true, began := x.now,
          lanes := lanesTouched old target (cfgDiff old target) }
      let y : State := { x with cfg := { x.cfg with commit := some c, phases := phases.length, phaseDone := 0 } }
      (y.modBank x.spareBank fun _ =>
        ⟨true, false, 1, wrap32 ((x.bank (1 - x.spareBank)).gen + 1), epoch, target, x.node⟩).emit (.peer 8 (le 4 epoch)))) ∧
  (∀ t xs s, Happens t s (.mailboxAck t)
    (fun x => x.host.mbx = .acked xs ∧ x.alive = true ∧ x.nd.mgmtStalled = false ∧
      (x.nd.mode = .hold → ∀ y ∈ xs, x.endsCommit y = false))
    (fun x => nextRequest (xs.foldl (fun s x => readAck x s) x))) ∧
  (∀ t op r tk s, Happens t s (.peerReplyRx t op r)
    (fun x => x.alive = true ∧ x.paired = true ∧ x.host.passed = [tk] ∧ op ≠ 0x1601 ∧ hasBit r.flags flagReply = true ∧
      tk.opcode = op ∧ tk.session = r.session ∧ tk.retry = r.retry ∧ tk.sequence = r.sequence)
    (fun x => send { reqPacket r op with link := tk.link } { x with host := { x.host with passed := [] } })) ∧
  (∀ t s a, Happens t s (.svcDatagram t (.arp a)) (fun x => x.alive = true ∧ a = x.svcAddress ∧ x.nd.mgmtStalled = false)
    (fun x => x.emit (.arp a))) ∧
  (∀ t s a bs, Happens t s (.svcDatagram t (.echo a bs))
    (fun x => x.alive = true ∧ a = x.svcAddress ∧ x.nd.mgmtStalled = false) (fun x => x.emit (.echo bs))) ∧
  (∀ t s src port dest destPort sound bs, Happens t s (.svcDatagram t (.udp src port dest destPort sound bs))
    (fun x => x.alive = true ∧ (dest = x.svcAddress ∨ dest = 0xFFFFFFFF) ∧ destPort = x.param 0x16000002)
    (takeDatagram src port dest sound bs))

/-- The rows of the Toll partition's seal, its peer, its checkpoints, captures and faults. Rule: 18_toll_partition.md. -/
def Obligations.TollEventsAct : Prop :=
  (∀ t cover s, Happens t s (.tollSealBroken t cover true)
    (fun x => x.toll.state ≠ .absent ∧
      (x.modToll fun t => if cover then { t with coverOpen := true } else { t with switchOpen := true }).tollActs = true)
    (fun x => tollBreak (if cover then 1 else 2) x.clk.clock
      (x.modToll fun t => if cover then { t with coverOpen := true } else { t with switchOpen := true }))) ∧
  (∀ t cover s, Happens t s (.tollSealBroken t cover false) (fun x => x.toll.state ≠ .absent)
    (fun x => x.modToll fun t => if cover then { t with coverOpen := false } else { t with switchOpen := false })) ∧
  (∀ t f s, Happens t s (.tollPeerPresent t)
    (fun x => x.toll.peerSince = some f ∧ x.tollActs = true ∧ x.nd.peerPres = true ∧ f + 100000 ≤ x.now) (tollBreak 3 0)) ∧
  (∀ t s, Happens t s (.tollCheckpoint t) (fun x => x.tollActs = true ∧ x.toll.checkAt + 10000000 ≤ x.clk.clock) checkpoint) ∧
  (∀ t s, Happens t s (.tollCapture t) (fun x => x.tollActs = true) tollCapture) ∧
  (∀ t p s, Happens t s (.tollFault t)
    (fun x => x.tollActs = true ∧ x.tollOwns = true ∧ p < 16 ∧ (x.tollPt p).faultNow ≠ ((tollCapture x).tollPt p).faultNow)
    tollCapture)

/-- A step runs the command at the front of the queue on the state with the rest of the queue. Rule: 95_what_each_step_holds.md. -/
def Obligations.StepRunsTheFrontCommand : Prop :=
  ∀ (c : Instr) (rest : List Instr) (s : State), s.pending = c :: rest → step s = exec c { s with pending := rest }

/-- With no command waiting a step leaves the state as it is. Rule: 95_what_each_step_holds.md. -/
def Obligations.StepIdlesOnAnEmptyQueue : Prop :=
  ∀ s : State, s.pending = [] → step s = .next s

/-- Every command with operands that can be completes in every state; a wrong number of readings is the only stop. Rule:
95_what_each_step_holds.md, 98_reader.md. -/
def Obligations.WellFormedCommandsComplete : Prop :=
  (∀ (i : Instr) (s : State), i.wellFormed = true → Completes i s) ∧
  (∀ t b amps v isOpen (loads : List Rat) s, loads.length ≠ 32 → exec (.bayCurrentSample t b amps ⟨v, isOpen⟩ loads) s = .fault .illFormed) ∧
  (∀ t b (v : List Rat) sensor s, v.length ≠ 128 → exec (.terminalMonitorScan t b v sensor) s = .fault .illFormed) ∧
  (∀ t drawn tF (loss pBay : List Rat) s, (loss.length ≠ 16 ∨ pBay.length ≠ 16) →
    exec (.governorTick t drawn tF loss pBay) s = .fault .illFormed)

/-- The state after reset meets the invariant that every step keeps. Rule: 18_toll_partition.md, 13_clock.md, 00_scope.md. -/
def Obligations.ResetIsSound : Prop :=
  Sound State.reset

/-- Every step keeps the unit sound: the Toll log is never broken, whatever command runs. Rule: 18_toll_partition.md, 13_clock.md,
00_scope.md, 03_power_reset_modes.md. -/
def Obligations.StepKeepsTheUnitSound : Prop :=
  ∀ s t : State, Sound s → step s = .next t → Sound t

/-- No command changes the Toll parameters of a partition that is SEALED or BROKEN. Rule: 18_toll_partition.md. -/
def Obligations.SealedParametersNeverChange : Prop :=
  ∀ (i : Instr) (s t : State), s.tollOwns = true → exec i s = .next t →
    t.toll.set = s.toll.set ∧ t.toll.gen = s.toll.gen ∧ t.toll.params = s.toll.params

/-- A packet read from the bytes of a packet is that packet, and one with a wrong length, MAGIC or CRC is refused. Rule:
16_command_protocol.md. -/
def Obligations.PacketsAreReadAsTheyAreWritten : Prop :=
  (∀ p : Packet, p.version < 256 → p.flags < 256 → p.opcode < 65536 → p.session < 256 → p.retry < 256 → p.status < 65536 →
    p.sequence < 4294967296 → p.target < 65536 → p.source < 65536 → p.reserved < 65536 → p.payload.length < 65536 →
    parsePacket p.link (packetBytes p) = some p) ∧
  (∀ l (bs : List Byte), bs.length ≠ 28 + fieldAt bs 20 2 ∨ fieldAt bs 0 4 ≠ 0x31545645 ∨
      fieldAt bs (24 + fieldAt bs 20 2) 4 ≠ crc32 (bs.take (24 + fieldAt bs 20 2)) →
    parsePacket l bs = none)

/-- A setup that staging accepts reads back byte for byte from the staged configuration. Rule: 17_configuration_calibration.md,
04_universal_channel.md, 10_alarm_points.md. -/
def Obligations.StagedSetupsReadBack : Prop :=
  ∀ (j : Subj) (pl : List Byte) (k session : Nat) (st : List Change) (s : State),
    pl.length = j.size → fieldAt pl 0 j.keyLen = k → k < j.count → (j = .grp → k ≠ 0) →
    (reservedOf j pl).any (· != 0#8) = false → stageTry session (setupChanges j k pl) s = .ok st →
    setupBytes (stageSet session st s).stagedCfg j k = pl

/-- The first check of Table 16.4 that fails decides the answer, and only a request that passes all is taken. Rule: R474. -/
def Obligations.ChecksStopRequestsInOrder : Prop :=
  ∀ (op : Nat) (rq : Request) (body : Rights → Ticket → List Byte → State → State) (s : State),
    (s.begin rq.t).alive = true → (s.begin rq.t).nd.mgmtStalled = false →
    let x := s.begin rq.t
    let y := runPacket op rq body s
    let tk := reqTicket rq op
    (FirstFailed op rq x 2 → Quiet (discard x) y) ∧
    (FirstFailed op rq x 3 → Declined tk stBadVersion x y) ∧
    (FirstFailed op rq x 4 → Declined tk stBadLength x y) ∧
    (FirstFailed op rq x 5 → Declined tk stWrongNode x y) ∧
    (FirstFailed op rq x 6 →
      (x.addressed rq.flags = .wrongUnit → Declined tk stWrongUnit x y) ∧
      (x.addressed rq.flags = .unreachable → Declined tk stUnreachable x y) ∧
      (x.addressed rq.flags = .pass → Emission.peer 1 (packetBytes (reqPacket rq op)) ∈ y.out)) ∧
    (FirstFailed op rq x 7 → Declined tk stUnknownOpcode x y) ∧
    (FirstFailed op rq x 8 → Declined tk stNoSession x y) ∧
    (FirstFailed op rq x 9 →
      (hasBit rq.flags flagAuth = false → Declined tk stAuthRequired x y) ∧
      (hasBit rq.flags flagAuth = true → (x.sess rq.session).authFails = [] → Declined tk stAuthFail x y)) ∧
    (FirstFailed op rq x 10 → Declined tk stRights x y) ∧
    (FirstFailed op rq x 11 → ∀ ss, x.sessionFor rq.session rq.link = some ss →
      (markOf ss rq.sequence = none → Declined tk (if seqDiff rq.sequence ss.high < 2147483648 then stSeqRange else stSeqStale) x y) ∧
      (64 > seqDiff ss.high rq.sequence → markOf ss rq.sequence = some .outstanding → Declined tk stInProgress x y) ∧
      (∀ st r, 64 > seqDiff ss.high rq.sequence → markOf ss rq.sequence = some (.complete st r) → Quiet x y ∧ Replied tk st r y)) ∧
    (FirstFailed op rq x 12 → Declined tk stBusy x y) ∧
    ((∀ n, CheckPasses op rq x n) → ∃ cls pl, Passes op rq cls pl x ∧
      (opClass op ≠ some 0 → markOf ((begun op rq cls s).sess rq.session) rq.sequence = some .outstanding))

/-- A request that Table 18.9 bars from a SEALED or BROKEN partition answers REFUSED_TOLL and changes nothing. Rule:
18_toll_partition.md. -/
def Obligations.SealedPartitionRefusesItsChannels : Prop :=
  ∀ (op : Nat) (rq : Request) (cls : Rights) (pl : List Byte) (body : Rights → Ticket → List Byte → State → State) (s : State),
    (s.begin rq.t).alive = true → Passes op rq cls pl (s.begin rq.t) → (s.begin rq.t).tollBars op pl = true →
    Declined (reqTicket rq op) stToll (s.begin rq.t) (runPacket op rq body s)

/-- A sweep changes the state of an alarm point only along Table 10.5, and a frozen or suppressed point not at all. Rule:
10_alarm_points.md. -/
def Obligations.PointsChangeByTheirTable : Prop :=
  ∀ (s : State) (at_ p : Nat) (cmds : List SweepCmd), ((s.pt p).suppress ≠ 0 → (s.pt p).state = .normal) →
    let r := s.pt p
    let w := (sweepPoint s at_ p cmds).1
    (r.state = .normal → w.r.state = .normal ∨ w.r.state = .actUnack) ∧
    (r.state = .actAck → w.r.state = .actAck ∨ w.r.state = .normal) ∧
    (r.state = .rtnUnack → w.r.state ≠ .actAck) ∧
    (w.r.raiseSeq = r.raiseSeq ∨
      w.r.raiseSeq = (if r.raiseSeq = 65535 then 1 else r.raiseSeq + 1) ∧ w.r.state = .actUnack ∧ w.r.active = true) ∧
    (w.r.suppress ≠ 0 → w.r.state = .normal) ∧
    (s.ptKind p = 0 → s.alarm.frozen.contains p = false → w.r.state = .normal ∧ w.r.suppress = 0 ∧ w.r.active = false) ∧
    (s.alarm.frozen.contains p = true → w.r.state = r.state ∧ w.r.suppress = r.suppress) ∧
    (w.r.state ≠ r.state ∨ w.r.suppress ≠ r.suppress → w.recs ≠ [])

/-- The compute phase changes a safety lane only along Table 9.2, and an armed lane with a leg in demand trips. Rule:
09_safety_lanes.md. -/
def Obligations.LanesChangeByTheirTable : Prop :=
  ∀ (l : Nat) (arms : List ArmReading) (s : State),
    let e := evalLegs l s (s.lane l)
    let old := (s.lane l).state
    let new := ((laneCompute l arms s).lane l).state
    (old = .armed → e.legA.trips = true ∨ e.legB.trips = true → new = .tripped) ∧
    (new = .armed → old = .armed ∧ e.legA.trips = false ∧ e.legB.trips = false ∨
      old = .ready ∧ s.nd.mode = .duty ∧ e.legsClear = true) ∧
    (new = .tripped → old = .armed ∨ old = .tripped) ∧
    (new = .unproven → old = .unproven) ∧
    (new = .off ↔ old = .off)

/-- A safety leg in fault counts as neither in demand nor out of demand and keeps its last demand state. Rule: R293. -/
def Obligations.LegsInFaultAreNeitherInNorOutOfDemand : Prop :=
  ∀ (low : Bool) (lim hyst : Rat) (confirm : Nat) (node : Micros) (x : Result) (g : LegRun),
    let e := g.eval low lim hyst confirm node x
    (e.fault = true ↔ x.quality = 8 ∨ x.quality = 2 ∨ x.quality = 3 ∨ x.quality = 6 ∨ x.quality = 1 ∨ x.quality = 10) ∧
    (x.quality = 7 → e.fault = false) ∧
    (e.fault = true → e.trips = false ∧ e.demand = false ∧ e.held = g.held ∧ e.tDemand = g.tDemand ∧
      ∀ r : LaneRun, r.legA = e ∨ r.legB = e → r.legsClear = false) ∧
    (e.fault = false → e.held = e.demand ∧ e.tDemand = if e.demand = true ∧ g.held = false then node else g.tDemand)

/-- The live bank is the sound committed bank of the higher generation, the other such bank is the previous one. Rule: R505. -/
def Obligations.TheHigherSoundBankIsLive : Prop :=
  ∀ s : State,
    let ok (b : Bank) := b.sound = true ∧ b.committed = true
    (ok s.cfg.bank0 → ok s.cfg.bank1 → s.cfg.bank1.gen < s.cfg.bank0.gen →
      s.live = some (0, s.cfg.bank0) ∧ s.prev = some s.cfg.bank1) ∧
    (ok s.cfg.bank0 → ok s.cfg.bank1 → s.cfg.bank0.gen < s.cfg.bank1.gen →
      s.live = some (1, s.cfg.bank1) ∧ s.prev = some s.cfg.bank0) ∧
    (ok s.cfg.bank0 → ¬ok s.cfg.bank1 → s.live = some (0, s.cfg.bank0) ∧ s.prev = none) ∧
    (¬ok s.cfg.bank0 → ok s.cfg.bank1 → s.live = some (1, s.cfg.bank1) ∧ s.prev = none) ∧
    (¬ok s.cfg.bank0 → ¬ok s.cfg.bank1 → s.live = none ∧ s.prev = none ∧ (∀ pid, cget s.liveCfg pid = pdefault [] pid) ∧
      (s.keySlot 0).1 = Config.deliveryKey)

/-- A year is a leap year by the rule of four, a hundred and four hundred, and February has 29 days in it. Rule: R384. -/
def Obligations.LeapYears : Prop :=
  (∀ k : Nat, leapYear k = true ↔ (2000 + k) % 4 = 0 ∧ ¬((2000 + k) % 100 = 0 ∧ (2000 + k) % 400 ≠ 0)) ∧
  leapYear 0 = true ∧ leapYear 100 = false ∧ leapYear 200 = false ∧ leapYear 300 = false ∧
  (∀ k : Nat, (monthLens k).getD 1 0 = if leapYear k then 29 else 28)

/-- The calendar time and the binary time of an instant give each other, over the whole range of the clock. Rule: 13_clock.md. -/
def Obligations.CalendarAndBinaryTimeAgree : Prop :=
  (∀ t : Nat, t < clockLimit → (Cal.of t).ok = true ∧ (Cal.of t).binary = t) ∧
  (∀ c : Cal, c.ok = true → c.binary < clockLimit ∧ Cal.of c.binary = c)

/-- The Granary numbers records in the order taken, never suppresses an exempt one, and counts what it suppresses. Rule:
12_granary.md. -/
def Obligations.GranaryKeepsItsOrder : Prop :=
  ∀ (r : Submission) (s : State),
    (∀ t, intakeRec r s = some t → (exempt r.code = true ∨ 1 ≤ (s.bucketAt r.code (s.node / 1000)).tokens) →
      t.grn.staged = s.grn.staged ++ [(s.now, ⟨r.code, s.grn.nextSeq, r.time, r.payload⟩)] ∧
      t.grn.nextSeq = wrap32 (s.grn.nextSeq + 1)) ∧
    (∀ t, intakeRec r s = some t → exempt r.code = false → (s.bucketAt r.code (s.node / 1000)).tokens < 1 →
      t.grn.staged = s.grn.staged ∧ t.grn.nextSeq = s.grn.nextSeq ∧ t.grn.suppressed = wrap32 (s.grn.suppressed + 1)) ∧
    (intakeRec r s = none ↔ s.stageRoom r = false ∧
      (exempt r.code = true ∨ 1 ≤ (s.bucketAt r.code (s.node / 1000)).tokens))

/-- A frame with a bad FCS or of another ring is not taken: slots, peers, sessions and clock stay as they are. Rule: 14_ponor_link.md. -/
def Obligations.FramesThatDoNotBelongAreNotTaken : Prop :=
  ∀ (t : Nat) (ns : Fin 1000) (p : Port) (f : Frame) (s : State) (i : Instr),
    i = .syncFrame t ns p f ∨ i = .dataFrame t p f ∨ i = .pollFrame t p f ∨ i = .nilFrame t p f ∨ i = .acycFrame t p f →
    f.good = false ∨ f.ringId ≠ (s.begin t).ringId (p.val / 2) →
    ∃ u, exec i s = .next u ∧ u.ponor.work = (s.begin t).ponor.work ∧ u.ponor.slots = (s.begin t).ponor.slots ∧
      u.clk = (s.begin t).clk ∧ u.nd.mode = (s.begin t).nd.mode ∧ u.host.cmdQueue = (s.begin t).host.cmdQueue ∧
      u.host.sessions = (s.begin t).host.sessions

/-- A failed logic clock resets the unit: what Table 3.12 keeps is kept, what it loses is lost. Rule: 03_power_reset_modes.md,
10_alarm_points.md, 12_granary.md, 17_configuration_calibration.md, 18_toll_partition.md. -/
def Obligations.ColdResetKeepsAndLoses : Prop :=
  ∀ (t : Nat) (s : State), (s.begin t).logicOn = true →
    ∃ u, exec (.logicClockFail t) s = .next u ∧
      u.nd.mode = .boot ∧ u.cfg.bank0 = (s.begin t).cfg.bank0 ∧ u.cfg.bank1 = (s.begin t).cfg.bank1 ∧
      u.cal = (s.begin t).cal ∧ u.grn.sectors = (s.begin t).grn.sectors ∧
      u.clk.user = (s.begin t).clk.user ∧ (s.begin t).toll.log <+: u.toll.log ∧
      (∀ k, (u.sess k).state = .free) ∧ u.cfg.staged = [] ∧ u.cfg.stageOwner = none ∧ u.cfg.commit = none ∧
      u.grn.freeze = none ∧ u.grn.staged = [] ∧
      (∀ p, (u.pt p).state = .normal ∧ (u.pt p).active = false ∧ (u.pt p).shelveLeft = ((s.begin t).pt p).shelveLeft ∧
        (u.pt p).inhibited = ((s.begin t).pt p).inhibited)

/-- A unit whose SLUICE_SHUT_IN is asserted holds every gate shut, releases SLUICE_OWN and is not on duty. Rule: 15_redundant_pair.md. -/
def Obligations.ShutInTakesTheField : Prop :=
  ∀ (t : Nat) (s : State), (s.begin t).nd.pairBase = true → (s.begin t).pair.shutIn = false → (s.begin t).alive = true →
    ∃ u, exec (.sluiceShutIn t true) s = .next u ∧ u.pair.shutIn = true ∧ u.pair.own = false ∧ u.onDuty = false ∧
      ∀ b < 16, (u.bay b).claim = false ∧ u.gate b = false

/-- BRAM_WRITE stores its bytes at its offset in USER and leaves every other byte, and a BULK_WRITE so in its object. Rule:
13_clock.md, 16_command_protocol.md. -/
def Obligations.BackupRamHoldsWhatIsWritten : Prop :=
  (∀ (rq : Request) (cls : Rights) (pl : List Byte) (s : State), Taken 0x1306 rq cls pl s →
    pl.length = byteAt pl 1 + 2 → 64 ≤ byteAt pl 0 → 1 ≤ byteAt pl 1 → byteAt pl 0 + byteAt pl 1 ≤ 128 →
    (begun 0x1306 rq cls s).clk.user.length = 64 →
    ∃ t, exec (.bramWrite rq) s = .next t ∧ ∀ i < 64, t.clk.user.getD i 0 =
      if byteAt pl 0 ≤ 64 + i ∧ 64 + i < byteAt pl 0 + byteAt pl 1 then pl.getD (2 + (64 + i - byteAt pl 0)) 0
      else (begun 0x1306 rq cls s).clk.user.getD i 0) ∧
  (∀ (m : ByteMem) (a : Nat) (bs : List Byte), Memory.wf 0#8 m = true →
    Memory.wf 0#8 (memWriteN 0#8 m a bs) = true ∧ memReadN 0#8 (memWriteN 0#8 m a bs) a bs.length = bs ∧
    ∀ b, b < a ∨ a + bs.length ≤ b → memRead 0#8 (memWriteN 0#8 m a bs) b = memRead 0#8 m b)
end

