-- ==== Sys2Proof/Laws/Bytes.lean ====
section
/-! SUPPORT. What the byte-order helpers do: little-endian bytes read back, and lengths. -/

namespace Sys2Proof.Machine

@[simp] theorem le_length (n v : Nat) : (le n v).length = n := by
  induction n generalizing v with
  | zero => rfl
  | succ n ih => simp [le, ih]

/-- The bytes of a number spell that number, taken modulo its width. -/
@[simp] theorem ofLe_le (n v : Nat) : ofLe (le n v) = v % 256 ^ n := by
  induction n generalizing v with
  | zero => simp [le, ofLe, Nat.mod_one]
  | succ n ih =>
    have h : v % 256 ^ (n + 1) = v % 256 + 256 * (v / 256 % 256 ^ n) := by
      rw [Nat.pow_succ', Nat.mod_mul]
    simp [le, ofLe, ih, h]

theorem fieldAt_le (n v : Nat) (bs : List Byte) : fieldAt (le n v ++ bs) 0 n = v % 256 ^ n := by
  have h : (le n v ++ bs).take n = le n v := by
    rw [List.take_append_of_le_length (by simp)]
    exact List.take_of_length_le (by simp)
  simp [fieldAt, slice, h]

@[simp] theorem zeros_length (n : Nat) : (zeros n).length = n := by simp [zeros]

@[simp] theorem fit_length (n : Nat) (bs : List Byte) : (fit n bs).length = n := by
  simp only [fit, List.length_take, List.length_append, zeros_length]
  omega

end Sys2Proof.Machine
end

