-- ==== Sys2Proof/Laws/Keep.lean ====
section
/-! SUPPORT. What almost every operation keeps: the waiting commands, the part, whether the Toll partition is there, the Toll log's
chain, the length of USER, and the Toll parameter set. -/

namespace Sys2Proof.Machine

/-- The parts of a state that few operations touch. -/
def key (s : State) : List Instr × Part × Bool × Prop × Nat × Option (List Byte) × Nat × Cfg :=
  (s.pending, s.nd.part, decide (s.toll.state = .absent), TollLogWhole s.toll.log, s.clk.user.length, s.toll.set, s.toll.gen,
    s.toll.params)

@[simp] theorem key_mk (pd out fr nw nt nd ho cf fi al be gr ck po pr tl tr) :
    key ⟨pd, out, fr, nw, nt, nd, ho, cf, fi, al, be, gr, ck, po, pr, tl, tr⟩ =
      (pd, nd.part, decide (tl.state = .absent), TollLogWhole tl.log, ck.user.length, tl.set, tl.gen, tl.params) := (rfl)

@[simp] theorem key_eta (s : State) :
    (s.pending, s.nd.part, decide (s.toll.state = .absent), TollLogWhole s.toll.log, s.clk.user.length, s.toll.set, s.toll.gen,
      s.toll.params) = key s := (rfl)

@[simp] theorem key_ite (c : Prop) [Decidable c] (a b : State) : key (if c then a else b) = if c then key a else key b := by
  split <;> rfl

@[simp] theorem key_foldl {α : Type} (f : State → α → State) (h : ∀ s x, key (f s x) = key s) (l : List α) (s : State) :
    key (l.foldl f s) = key s := by
  induction l generalizing s with
  | nil => rfl
  | cons x l ih => simp [ih, h]

theorem present_of_key {a b : State} (h : key a = key b) (hb : b.toll.state ≠ .absent) : a.toll.state ≠ .absent := by
  simp only [key, Prod.mk.injEq, decide_eq_decide] at h
  exact fun ha => hb (h.2.2.1.mp ha)

/-- Every next state of an outcome has the key of `s`. -/
def Keeps (s : State) (o : Res) : Prop := ∀ t, o = .next t → key t = key s

@[simp] theorem keeps_next (s t : State) : Keeps s (.next t) ↔ key t = key s := by simp [Keeps]

@[simp] theorem keeps_fault (s : State) (f : Fault) : Keeps s (.fault f) := by simp [Keeps]

@[simp] theorem keeps_ite (s : State) (c : Prop) [Decidable c] (a b : Res) :
    Keeps s (if c then a else b) ↔ if c then Keeps s a else Keeps s b := by split <;> rfl

end Sys2Proof.Machine
end

