-- ==== Sys2Proof/Laws/KeepProtocol.lean ====
section
/-! SUPPORT. Key lemmas: tracing, submitting, replying, the checks of a request and the passing of time. -/

namespace Sys2Proof.Machine

@[simp] theorem State.modCh_key : ∀ s a0 a1, key (State.modCh s a0 a1) = key s := by intros; simp [State.modCh]

@[simp] theorem State.modSup_key : ∀ s a0 a1, key (State.modSup s a0 a1) = key s := by intros; simp [State.modSup]

@[simp] theorem State.modOut_key : ∀ s a0 a1, key (State.modOut s a0 a1) = key s := by intros; simp [State.modOut]

@[simp] theorem State.modHart_key : ∀ s a0 a1, key (State.modHart s a0 a1) = key s := by intros; simp [State.modHart]

@[simp] theorem State.modDio_key : ∀ s a0 a1, key (State.modDio s a0 a1) = key s := by intros; simp [State.modDio]

@[simp] theorem State.modLamp_key : ∀ s a0 a1, key (State.modLamp s a0 a1) = key s := by intros; simp [State.modLamp]

@[simp] theorem State.modBay_key : ∀ s a0 a1, key (State.modBay s a0 a1) = key s := by intros; simp [State.modBay]

@[simp] theorem State.modLane_key : ∀ s a0 a1, key (State.modLane s a0 a1) = key s := by intros; simp [State.modLane]

@[simp] theorem State.modPt_key : ∀ s a0 a1, key (State.modPt s a0 a1) = key s := by intros; simp [State.modPt]

@[simp] theorem State.modRing_key : ∀ s a0 a1, key (State.modRing s a0 a1) = key s := by intros; simp [State.modRing]

@[simp] theorem State.modPort_key : ∀ s a0 a1, key (State.modPort s a0 a1) = key s := by intros; simp [State.modPort]

@[simp] theorem State.modSess_key : ∀ s a0 a1, key (State.modSess s a0 a1) = key s := by intros; simp [State.modSess]

@[simp] theorem State.modTollPt_key : ∀ s a0 a1, key (State.modTollPt s a0 a1) = key s := by intros; simp [State.modTollPt]

@[simp] theorem State.modNd_key (s : State) (f : NodeSt → NodeSt) :
    key (s.modNd f) = (s.pending, (f s.nd).part, decide (s.toll.state = .absent), TollLogWhole s.toll.log, s.clk.user.length,
      s.toll.set, s.toll.gen, s.toll.params) := (rfl)

@[simp] theorem part_ite (c : Prop) [Decidable c] (a b : NodeSt) : (if c then a else b).part = if c then a.part else b.part := by
  split <;> rfl

@[simp] theorem State.modPower_key : ∀ s a0, key (State.modPower s a0) = key s := by intros; simp [State.modPower]

@[simp] theorem State.modPair_key : ∀ s a0, key (State.modPair s a0) = key s := by intros; simp [State.modPair]

@[simp] theorem State.count_key : ∀ s a0 a1, key (State.count s a0 a1) = key s := by intros; simp [State.count]

@[simp] theorem State.peak_key : ∀ s a0 a1, key (State.peak s a0 a1) = key s := by intros; simp [State.peak]

@[simp] theorem State.draw_key : ∀ s, key (State.draw s).2 = key s := by intros; simp [State.draw]

@[simp] theorem State.emit_key : ∀ s a0, key (State.emit s a0) = key s := by intros; simp [State.emit]

@[simp] theorem State.modBank_key : ∀ s a0 a1, key (State.modBank s a0 a1) = key s := by intros; simp [State.modBank]

@[simp] theorem State.modFw_key : ∀ s a0 a1, key (State.modFw s a0 a1) = key s := by intros; simp [State.modFw]

@[simp] theorem tracePut_key : ∀ a0 a1 s, key (tracePut a0 a1 s) = key s := by intros; simp [tracePut]

@[simp] theorem traceDropped_key : ∀ s, key (traceDropped s) = key s := by intros; simp [traceDropped]

@[simp] theorem traceRec_key : ∀ a0 a1 s, key (traceRec a0 a1 s) = key s := by intros; simp [traceRec]

@[simp] theorem traceFlip_key : ∀ a0 a1 a2 s, key (traceFlip a0 a1 a2 s) = key s := by intros; simp [traceFlip]

@[simp] theorem submitAt_key : ∀ a0 a1 a2 a3 s, key (submitAt a0 a1 a2 a3 s) = key s := by intros; simp [submitAt]

@[simp] theorem submit_key : ∀ a0 a1 a2 s, key (submit a0 a1 a2 s) = key s := by intros; simp [submit]

@[simp] theorem hwEvent_key : ∀ a0 s, key (hwEvent a0 s) = key s := by intros; simp [hwEvent]

@[simp] theorem chanEvent_key : ∀ a0 a1 a2 a3 a4 a5 s, key (chanEvent a0 a1 a2 a3 a4 a5 s) = key s := by intros; simp [chanEvent]

@[simp] theorem freeEvent_key : ∀ a0 a1 a2 a3 s, key (freeEvent a0 a1 a2 a3 s) = key s := by intros; simp [freeEvent]

@[simp] theorem State.modBell_key : ∀ s a0, key (State.modBell s a0) = key s := by intros; simp [State.modBell]

@[simp] theorem flipService_key : ∀ s, key (flipService s) = key s := by intros; simp [flipService]

@[simp] theorem sysTo_key : ∀ a0 a1 a2 s, key (sysTo a0 a1 a2 s) = key s := by intros; simp [sysTo]

@[simp] theorem sysFollow_key : ∀ a0 s, key (sysFollow a0 s) = key s := by intros; simp [sysFollow]

@[simp] theorem sysFollowAll_key : ∀ s, key (sysFollowAll s) = key s := by intros; simp [sysFollowAll]

@[simp] theorem sendBell_key : ∀ s, key (sendBell s) = key s := by intros; simp [sendBell]

@[simp] theorem sendChange_key (old s : State) : key (sendChange old s) = key s := by
  simp only [sendChange]; split <;> simp

@[simp] theorem sysUpdate_key : ∀ s, key (sysUpdate s) = key s := by intros; simp [sysUpdate]

@[simp] theorem sourceRecord_key : ∀ a0 a1 s, key (sourceRecord a0 a1 s) = key s := by intros; simp [sourceRecord]

@[simp] theorem setMode_key : ∀ a0 a1 s, key (setMode a0 a1 s) = key s := by intros; simp [setMode]

@[simp] theorem setStall_key : ∀ a0 a1 s, key (setStall a0 a1 s) = key s := by
  intros; simp only [setStall]; (repeat' split) <;> simp

@[simp] theorem stallEnds_key : ∀ a0 s, key (stallEnds a0 s) = key s := by intros; simp [stallEnds]

@[simp] theorem traceCmd_key : ∀ a0 a1 a2 a3 s, key (traceCmd a0 a1 a2 a3 s) = key s := by intros; simp [traceCmd]

@[simp] theorem sessionRecord_key : ∀ a0 a1 a2 s, key (sessionRecord a0 a1 a2 s) = key s := by intros; simp [sessionRecord]

@[simp] theorem commandRecord_key : ∀ a0 a1 s, key (commandRecord a0 a1 s) = key s := by intros; simp [commandRecord]

@[simp] theorem send_key : ∀ a0 s, key (send a0 s) = key s := by intros; simp [send]

@[simp] theorem answer_key : ∀ a0 a1 a2 s, key (answer a0 a1 a2 s) = key s := by intros; simp [answer]

@[simp] theorem passTable_key : ∀ s, key (passTable s) = key s := by intros; simp [passTable]

@[simp] theorem finish_key : ∀ a0 a1 a2 a3 s, key (finish a0 a1 a2 a3 s) = key s := by intros; simp [finish]

@[simp] theorem reply_key : ∀ a0 a1 a2 s, key (reply a0 a1 a2 s) = key s := by intros; simp [reply]

@[simp] theorem inProgress_key : ∀ a0 s, key (inProgress a0 s) = key s := by intros; simp [inProgress]

@[simp] theorem bulkRecord_key : ∀ a0 a1 a2 s, key (bulkRecord a0 a1 a2 s) = key s := by intros; simp [bulkRecord]

@[simp] theorem endBulk_key : ∀ a0 a1 s, key (endBulk a0 a1 s) = key s := by
  intros; simp only [endBulk]; split <;> simp

@[simp] theorem endBulks_key (event : Nat) (p : Bulk → Bool) (s : State) : key (endBulks event p s) = key s :=
  key_foldl _ (by intros; split <;> simp) _ _

@[simp] theorem configRecord_key : ∀ a0 a1 a2 a3 s, key (configRecord a0 a1 a2 a3 s) = key s := by intros; simp [configRecord]

@[simp] theorem endStaging_key : ∀ a0 s, key (endStaging a0 s) = key s := by intros; simp [endStaging]

@[simp] theorem endFreeze_key : ∀ a0 s, key (endFreeze a0 s) = key s := by
  intros; simp only [endFreeze]; split <;> simp

@[simp] theorem dropSession_key (k : Nat) (s : State) : key (dropSession k s) = key s := by
  simp only [dropSession]
  split
  · rfl
  · split <;> (try split) <;> (try split) <;> simp

@[simp] theorem endSession_key : ∀ a0 a1 s, key (endSession a0 a1 s) = key s := by intros; simp [endSession]

@[simp] theorem authFail_key : ∀ a0 a1 s, key (authFail a0 a1 s) = key s := by intros; simp [authFail]

@[simp] theorem dequeue_key : ∀ a0 s, key (dequeue a0 s) = key s := by intros; simp [dequeue]

@[simp] theorem discard_key : ∀ s, key (discard s) = key s := by intros; simp [discard]

@[simp] theorem passOn_key : ∀ a0 a1 s, key (passOn a0 a1 s) = key s := by intros; simp [passOn]

@[simp] theorem heard_key : ∀ a0 s, key (heard a0 s) = key s := by intros; simp [heard]

@[simp] theorem settleVerdict_key : ∀ a0 a1 s a2, key (settleVerdict a0 a1 s a2) = key s := by
  intros; simp only [settleVerdict]; split <;> simp

@[simp] theorem takenState_key : ∀ a0 a1 s, key (takenState a0 a1 s) = key s := by intros; simp [takenState]

@[simp] theorem runRequest_key (op : Nat) (rq : Request) (body : Rights → Ticket → List Byte → State → State)
    (h : ∀ c tk pl s, key (body c tk pl s) = key s) (s : State) : key (runRequest op rq body s) = key s := by
  simp only [runRequest]
  split
  · split
    · simp
    · split <;> simp [h]
  · simp

@[simp] theorem slewPart_key : ∀ a0 s, key (slewPart a0 s).2 = key s := by
  intros; simp only [slewPart]; split <;> simp

@[simp] theorem slewNode_key : ∀ a0 a1 s, key (slewNode a0 a1 s) = key s := by intros; simp [slewNode]

@[simp] theorem clockAfter_key : ∀ a0 s, key (clockAfter a0 s) = key s := by intros; simp [clockAfter]

@[simp] theorem passTime_key : ∀ a0 a1 s, key (passTime a0 a1 s) = key s := by intros; simp [passTime]

@[simp] theorem elapse_key : ∀ a0 s, key (elapse a0 s) = key s := by intros; simp [elapse]

@[simp] theorem elapseTo_key : ∀ a0 s, key (elapseTo a0 s) = key s := by intros; simp [elapseTo]

@[simp] theorem traceChannels_key : ∀ a0 a1 s, key (traceChannels a0 a1 s) = key s := by intros; simp [traceChannels]

@[simp] theorem flipChannel_key : ∀ s, key (flipChannel s) = key s := by
  intros; simp only [flipChannel]; split <;> simp

@[simp] theorem traceEntries_key {α : Type} (kind : Nat) (d : α) (enc : α → List Byte) (old new : Tbl α) (s : State) :
    key (traceEntries kind d enc old new s) = key s := by
  simp [traceEntries]

@[simp] theorem submitAll_key : ∀ a0 a1 s, key (submitAll a0 a1 s) = key s := by intros; simp [submitAll]

@[simp] theorem replyAll_key : ∀ a0 s, key (replyAll a0 s) = key s := by intros; simp [replyAll]

@[simp] theorem flipAlarm_key : ∀ s, key (flipAlarm s) = key s := by
  intros; simp only [flipAlarm]; split <;> simp

@[simp] theorem flipRemote_key : ∀ s, key (flipRemote s) = key s := by
  intros; simp only [flipRemote]; split <;> simp

@[simp] theorem dueFlips_key : ∀ s, key (dueFlips s) = key s := by intros; simp [dueFlips]

@[simp] theorem State.begin_key : ∀ s a0, key (State.begin s a0) = key s := by intros; simp [State.begin]

@[simp] theorem State.beginAt_key : ∀ s a0 a1, key (State.beginAt s a0 a1) = key s := by intros; simp [State.beginAt]

@[simp] theorem State.beginCycle_key : ∀ s, key (State.beginCycle s) = key s := by intros; simp [State.beginCycle]

@[simp] theorem State.beginRing_key : ∀ s, key (State.beginRing s) = key s := by intros; simp [State.beginRing]

@[simp] theorem runPacket_key (op : Nat) (rq : Request) (body : Rights → Ticket → List Byte → State → State)
    (h : ∀ c tk pl s, key (body c tk pl s) = key s) (s : State) : key (runPacket op rq body s) = key s := by
  simp only [runPacket]
  split <;> simp [h]

@[simp] theorem answerNow_key (op : Nat) (rq : Request) (f : Ticket → List Byte → State → Nat × List Byte × State)
    (h : ∀ tk pl s, key (f tk pl s).2.2 = key s) (s : State) : Keeps s (answerNow op rq f s) := by
  simp [answerNow, h]

@[simp] theorem postWork_key : ∀ a0 s, key (postWork a0 s) = key s := by intros; simp [postWork]

@[simp] theorem answerMailbox_key (op : Nat) (rq : Request) (check : List Byte → State → Option Nat) (s : State) :
    Keeps s (answerMailbox op rq check s) := by
  simp only [answerMailbox, keeps_next]
  exact runPacket_key _ _ _ (by intros; split <;> simp) _

@[simp] theorem plainRead_key (f : State → List Byte) (tk : Ticket) (pl : List Byte) (s : State) :
    key (plainRead f tk pl s).2.2 = key s := by
  simp only [plainRead]
  split <;> rfl

@[simp] theorem stageSet_key : ∀ a0 a1 s, key (stageSet a0 a1 s) = key s := by intros; simp [stageSet]

@[simp] theorem setupBody_key : ∀ a0 a1 a2 s, key (setupBody a0 a1 a2 s).2.2 = key s := by
  intros; simp only [setupBody]; (repeat' split) <;> simp

@[simp] theorem setupCommand_key : ∀ a0 a1 a2 s, Keeps s (setupCommand a0 a1 a2 s) := by intros; simp [setupCommand]

@[simp] theorem setupReadBody_key : ∀ a0 a1 a2 s, key (setupReadBody a0 a1 a2 s).2.2 = key s := by
  intros; simp only [setupReadBody]; (repeat' split) <;> simp

@[simp] theorem setupRead_key : ∀ a0 a1 a2 s, Keeps s (setupRead a0 a1 a2 s) := by intros; simp [setupRead]

end Sys2Proof.Machine
end

