-- ==== Sys2Proof/Laws/KeepField.lean ====
section
/-! SUPPORT. Key lemmas: channels, outputs, digital channels, lamps and bays. -/

namespace Sys2Proof.Machine

@[simp] theorem abandonCheck_key : ∀ a0 s, key (abandonCheck a0 s) = key s := by
  intros; simp only [abandonCheck]; split <;> simp

@[simp] theorem failCapture_key : ∀ a0 s, key (failCapture a0 s) = key s := by
  intros; simp only [failCapture]; (repeat' split) <;> simp

@[simp] theorem restart_key : ∀ a0 a1 a2 a3 s, key (restart a0 a1 a2 a3 s) = key s := by intros; simp [restart]

@[simp] theorem execChSetup_key : ∀ a0 s, Keeps s (execChSetup a0 s) := by intros; simp [execChSetup]

@[simp] theorem execChGet_key : ∀ a0 s, Keeps s (execChGet a0 s) := by intros; simp [execChGet]

@[simp] theorem readBody_key : ∀ a0 a1 a2 a3 a4 s, key (readBody a0 a1 a2 a3 a4 s).2.2 = key s := by
  intros; simp only [readBody]; split <;> simp

@[simp] theorem execChStatus_key : ∀ a0 s, Keeps s (execChStatus a0 s) := by intros; simp [execChStatus]

@[simp] theorem execChBay_key : ∀ a0 s, Keeps s (execChBay a0 s) := by intros; simp [execChBay]

@[simp] theorem tripChannel_key : ∀ a0 a1 a2 a3 s, key (tripChannel a0 a1 a2 a3 s) = key s := by intros; simp [tripChannel]

@[simp] theorem execTerminalMonitorScan_key : ∀ a0 a1 a2 a3 s, Keeps s (execTerminalMonitorScan a0 a1 a2 a3 s) := by intros; simp [execTerminalMonitorScan]

@[simp] theorem reconnect_key : ∀ a0 s, key (reconnect a0 s) = key s := by intros; simp [reconnect]

@[simp] theorem formResult_key : ∀ a0 a1 a2 a3 s, key (formResult a0 a1 a2 a3 s) = key s := by intros; simp [formResult]

@[simp] theorem captureOnly_key : ∀ a0 a1 s, key (captureOnly a0 a1 s) = key s := by intros; simp [captureOnly]

@[simp] theorem afterBlock_key (n len : Nat) (s0 s : State) : key (afterBlock n len s0 s) = key s := by
  simp only [afterBlock]; split <;> simp

@[simp] theorem noteAwake_key : ∀ a0 a1 s, key (noteAwake a0 a1 s) = key s := by
  intros; simp only [noteAwake]; (repeat' split) <;> simp

@[simp] theorem execRefCheck_key : ∀ a0 a1 a2 a3 s, Keeps s (execRefCheck a0 a1 a2 a3 s) := by
  intros; simp only [execRefCheck]; split <;> simp

@[simp] theorem execLeadConversion_key : ∀ a0 a1 a2 s, Keeps s (execLeadConversion a0 a1 a2 s) := by
  intros; simp only [execLeadConversion]; split <;> simp

@[simp] theorem execMeasSet_key : ∀ a0 s, Keeps s (execMeasSet a0 s) := by intros; simp [execMeasSet]

@[simp] theorem execMeasGet_key : ∀ a0 s, Keeps s (execMeasGet a0 s) := by intros; simp [execMeasGet]

@[simp] theorem execCurveSet_key : ∀ a0 s, Keeps s (execCurveSet a0 s) := by intros; simp [execCurveSet]

@[simp] theorem execCurveGet_key : ∀ a0 s, Keeps s (execCurveGet a0 s) := by intros; simp [execCurveGet]

@[simp] theorem leadCaptureBody_key : ∀ a0 a1 a2 s, key (leadCaptureBody a0 a1 a2 s) = key s := by intros; simp [leadCaptureBody]

@[simp] theorem execLeadCapture_key : ∀ a0 s, Keeps s (execLeadCapture a0 s) := by intros; simp [execLeadCapture]

@[simp] theorem endCapture_key : ∀ a0 a1 s, key (endCapture a0 a1 s) = key s := by
  intros; simp only [endCapture]; (repeat' split) <;> simp

@[simp] theorem execLeadCaptureDone_key : ∀ a0 a1 s, Keeps s (execLeadCaptureDone a0 a1 s) := by
  intros; simp only [execLeadCaptureDone]; split <;> simp

@[simp] theorem chReadBody_key : ∀ a0 a1 s, key (chReadBody a0 a1 s).2.2 = key s := by
  intros; simp only [chReadBody]; split <;> simp

@[simp] theorem execChRead_key : ∀ a0 s, Keeps s (execChRead a0 s) := by intros; simp [execChRead]

@[simp] theorem setSup_key : ∀ a0 a1 s, key (setSup a0 a1 s) = key s := by intros; simp [setSup]

@[simp] theorem captureSup_key : ∀ a0 s, key (captureSup a0 s) = key s := by intros; simp [captureSup]

@[simp] theorem startSup_key : ∀ a0 s, key (startSup a0 s) = key s := by intros; simp [startSup]

@[simp] theorem respaceCheck_key : ∀ a0 a1 s, key (respaceCheck a0 a1 s) = key s := by intros; simp [respaceCheck]

@[simp] theorem rawCheck_key : ∀ a0 a1 a2 a3 s, key (rawCheck a0 a1 a2 a3 s) = key s := by intros; simp [rawCheck]

@[simp] theorem dropLead_key : ∀ a0 s, key (dropLead a0 s) = key s := by
  intros; simp only [dropLead]; (repeat' split) <;> simp

@[simp] theorem execComplianceTrip_key : ∀ a0 a1 s, Keeps s (execComplianceTrip a0 a1 s) := by intros; simp [execComplianceTrip]

@[simp] theorem execImpedanceCheck_key : ∀ a0 a1 s, Keeps s (execImpedanceCheck a0 a1 s) := by
  intros; simp only [execImpedanceCheck]; split <;> simp

@[simp] theorem supRecord_key : ∀ a0 a1 s, key (supRecord a0 a1 s) = key s := by intros; simp [supRecord]

@[simp] theorem takeFigures_key : ∀ a0 a1 a2 s, key (takeFigures a0 a1 a2 s) = key s := by intros; simp [takeFigures]

@[simp] theorem execImpedanceCheckDone_key : ∀ a0 a1 a2 a3 a4 a5 a6 s, Keeps s (execImpedanceCheckDone a0 a1 a2 a3 a4 a5 a6 s) := by
  intros; simp only [execImpedanceCheckDone]; (repeat' split) <;> simp

@[simp] theorem execSupSet_key : ∀ a0 s, Keeps s (execSupSet a0 s) := by intros; simp [execSupSet]

@[simp] theorem execSupGet_key : ∀ a0 s, Keeps s (execSupGet a0 s) := by intros; simp [execSupGet]

@[simp] theorem execSupRead_key : ∀ a0 s, Keeps s (execSupRead a0 s) := by intros; simp [execSupRead]

@[simp] theorem supBaselineBody_key : ∀ a0 a1 s, key (supBaselineBody a0 a1 s).2.2 = key s := by
  intros; simp only [supBaselineBody]; (repeat' split) <;> simp

@[simp] theorem execSupBaseline_key : ∀ a0 s, Keeps s (execSupBaseline a0 s) := by intros; simp [execSupBaseline]

@[simp] theorem supCheckBody_key : ∀ a0 a1 a2 s, key (supCheckBody a0 a1 a2 s) = key s := by intros; simp [supCheckBody]

@[simp] theorem execSupCheck_key : ∀ a0 s, Keeps s (execSupCheck a0 s) := by intros; simp [execSupCheck]

@[simp] theorem setDio_key : ∀ a0 a1 s, key (setDio a0 a1 s) = key s := by intros; simp [setDio]

@[simp] theorem setDioBit_key : ∀ a0 a1 a2 s, key (setDioBit a0 a1 a2 s) = key s := by intros; simp [setDioBit]

@[simp] theorem eventResult_key : ∀ a0 a1 a2 a3 a4 s, key (eventResult a0 a1 a2 a3 a4 s) = key s := by intros; simp [eventResult]

@[simp] theorem restartDigital_key : ∀ a0 s, key (restartDigital a0 s) = key s := by intros; simp [restartDigital]

@[simp] theorem settleNext_key : ∀ a0 s, key (settleNext a0 s) = key s := by intros; simp [settleNext]

@[simp] theorem execDiSample_key (t : Nat) (n : Chan) (v : Rat) (crossed : Bool) (s : State) :
    Keeps s (execDiSample t n v crossed s) := by
  simp only [execDiSample]
  split
  · simp only [keeps_ite, keeps_next]; (repeat' split) <;> simp
  · simp

@[simp] theorem execDiSupervisionPulse_key : ∀ a0 a1 a2 a3 s, Keeps s (execDiSupervisionPulse a0 a1 a2 a3 s) := by
  intros; simp only [execDiSupervisionPulse]; (repeat' split) <;> simp

@[simp] theorem tripDio_key : ∀ a0 a1 s, key (tripDio a0 a1 s) = key s := by intros; simp [tripDio]

@[simp] theorem execSensorSupplyTrip_key : ∀ a0 a1 s, Keeps s (execSensorSupplyTrip a0 a1 s) := by intros; simp [execSensorSupplyTrip]

@[simp] theorem execCntEdge_key : ∀ a0 a1 a2 s, Keeps s (execCntEdge a0 a1 a2 s) := by intros; simp [execCntEdge]

@[simp] theorem captureCount_key : ∀ a0 a1 a2 s, key (captureCount a0 a1 a2 s) = key s := by intros; simp [captureCount]

@[simp] theorem execFrqEdge_key : ∀ a0 a1 a2 a3 s, Keeps s (execFrqEdge a0 a1 a2 a3 s) := by intros; simp [execFrqEdge]

@[simp] theorem execFrqGateEnd_key : ∀ a0 a1 s, Keeps s (execFrqGateEnd a0 a1 s) := by intros; simp [execFrqGateEnd]

@[simp] theorem setDev_key : ∀ a0 a1 a2 s, key (setDev a0 a1 a2 s) = key s := by intros; simp [setDev]

@[simp] theorem abortHart_key : ∀ a0 a1 s, key (abortHart a0 a1 s) = key s := by
  intros; simp only [abortHart]; (repeat' split) <;> simp

@[simp] theorem hartGuard_key : ∀ a0 s, key (hartGuard a0 s) = key s := by intros; simp [hartGuard]

@[simp] theorem hartReset_key : ∀ a0 s, key (hartReset a0 s) = key s := by intros; simp [hartReset]

@[simp] theorem hartScan_key : ∀ a0 s, key (hartScan a0 s) = key s := by intros; simp [hartScan]

@[simp] theorem scanReplies_key : ∀ a0 s, key (scanReplies a0 s) = key s := by intros; simp [scanReplies]

@[simp] theorem scanNext_key : ∀ a0 a1 s, key (scanNext a0 a1 s) = key s := by intros; simp [scanNext]

@[simp] theorem hartSend_key : ∀ a0 a1 s, key (hartSend a0 a1 s) = key s := by intros; simp [hartSend]

@[simp] theorem hartStart_key : ∀ a0 a1 a2 a3 a4 a5 s, key (hartStart a0 a1 a2 a3 a4 a5 s) = key s := by intros; simp [hartStart]

@[simp] theorem hartNext_key : ∀ a0 s, key (hartNext a0 s) = key s := by
  intros; simp only [hartNext]; (repeat' split) <;> simp

@[simp] theorem execHartPoll_key : ∀ a0 a1 s, Keeps s (execHartPoll a0 a1 s) := by intros; simp [execHartPoll]

@[simp] theorem parkFound_key : ∀ a0 a1 a2 s, key (parkFound a0 a1 a2 s) = key s := by intros; simp [parkFound]

@[simp] theorem devAnswers_key : ∀ a0 a1 a2 s, key (devAnswers a0 a1 a2 s) = key s := by
  intros; simp only [devAnswers]; (repeat' split) <;> simp

@[simp] theorem hartAnswer_key : ∀ a0 a1 a2 s, key (hartAnswer a0 a1 a2 s) = key s := by
  intros; simp only [hartAnswer]; split <;> simp

@[simp] theorem execHartReply_key : ∀ a0 a1 a2 s, Keeps s (execHartReply a0 a1 a2 s) := by
  intros; simp only [execHartReply]; split <;> simp

@[simp] theorem missing_key : ∀ a0 a1 s, key (missing a0 a1 s) = key s := by intros; simp [missing]

@[simp] theorem hartFail_key : ∀ a0 a1 s, key (hartFail a0 a1 s) = key s := by
  intros; simp only [hartFail]; split <;> simp

@[simp] theorem execHartReplyTimeout_key : ∀ a0 a1 a2 s, Keeps s (execHartReplyTimeout a0 a1 a2 s) := by
  intros; simp only [execHartReplyTimeout]; split <;> simp

@[simp] theorem execHartBurstFrame_key : ∀ a0 a1 a2 s, Keeps s (execHartBurstFrame a0 a1 a2 s) := by
  intros; simp only [execHartBurstFrame]; split <;> simp

@[simp] theorem execHartSet_key : ∀ a0 s, Keeps s (execHartSet a0 s) := by intros; simp [execHartSet]

@[simp] theorem execHartGet_key : ∀ a0 s, Keeps s (execHartGet a0 s) := by intros; simp [execHartGet]

@[simp] theorem hartScanBody_key : ∀ a0 a1 a2 s, key (hartScanBody a0 a1 a2 s) = key s := by intros; simp [hartScanBody]

@[simp] theorem execHartScan_key : ∀ a0 s, Keeps s (execHartScan a0 s) := by intros; simp [execHartScan]

@[simp] theorem execHartList_key : ∀ a0 s, Keeps s (execHartList a0 s) := by intros; simp [execHartList]

@[simp] theorem hartPassBody_key : ∀ a0 a1 a2 s, key (hartPassBody a0 a1 a2 s) = key s := by intros; simp [hartPassBody]

@[simp] theorem execHartPass_key : ∀ a0 s, Keeps s (execHartPass a0 s) := by intros; simp [execHartPass]

@[simp] theorem setPulse_key : ∀ a0 a1 s, key (setPulse a0 a1 s) = key s := by intros; simp [setPulse]

@[simp] theorem stopPulse_key : ∀ a0 s, key (stopPulse a0 s) = key s := by
  intros; simp only [stopPulse]; split <;> simp

@[simp] theorem latchOut_key : ∀ a0 a1 a2 a3 s, key (latchOut a0 a1 a2 a3 s) = key s := by intros; simp [latchOut]

@[simp] theorem setOut_key : ∀ a0 a1 s, key (setOut a0 a1 s) = key s := by intros; simp [setOut]

@[simp] theorem setSrcFail_key : ∀ a0 a1 s, key (setSrcFail a0 a1 s) = key s := by intros; simp [setSrcFail]

@[simp] theorem transfer_key : ∀ a0 a1 a2 s, key (transfer a0 a1 a2 s) = key s := by intros; simp [transfer]

@[simp] theorem computeSource_key : ∀ a0 s, key (computeSource a0 s) = key s := by
  intros; simp only [computeSource]; split <;> simp

@[simp] theorem computeOut_key : ∀ a0 s, key (computeOut a0 s) = key s := by
  intros; simp only [computeOut]; (repeat' split) <;> simp

@[simp] theorem execSrcHoldExpire_key : ∀ a0 a1 s, Keeps s (execSrcHoldExpire a0 a1 s) := by
  intros; simp only [execSrcHoldExpire]; split <;> simp

@[simp] theorem execCmdTimeoutExpire_key : ∀ a0 a1 s, Keeps s (execCmdTimeoutExpire a0 a1 s) := by intros; simp [execCmdTimeoutExpire]

@[simp] theorem startOutput_key : ∀ a0 s, key (startOutput a0 s) = key s := by intros; simp [startOutput]

@[simp] theorem execRailUpdate_key : ∀ a0 a1 a2 a3 s, Keeps s (execRailUpdate a0 a1 a2 a3 s) := by intros; simp [execRailUpdate]

@[simp] theorem execOutputCondition_key : ∀ a0 a1 a2 a3 a4 a5 s, Keeps s (execOutputCondition a0 a1 a2 a3 a4 a5 s) := by intros; simp [execOutputCondition]

@[simp] theorem execIoutReachUpdate_key : ∀ a0 a1 a2 a3 s, Keeps s (execIoutReachUpdate a0 a1 a2 a3 s) := by
  intros; simp only [execIoutReachUpdate]; split <;> simp

@[simp] theorem execOpenLoopProbe_key : ∀ a0 a1 a2 s, Keeps s (execOpenLoopProbe a0 a1 a2 s) := by intros; simp [execOpenLoopProbe]

@[simp] theorem execRepeaterStuck_key : ∀ a0 a1 a2 s, Keeps s (execRepeaterStuck a0 a1 a2 s) := by intros; simp [execRepeaterStuck]

@[simp] theorem formReadback_key : ∀ a0 a1 s, key (formReadback a0 a1 s) = key s := by intros; simp [formReadback]

@[simp] theorem applyAnalog_key : ∀ a0 a1 a2 s, key (applyAnalog a0 a1 a2 s) = key s := by
  intros; simp only [applyAnalog]; split <;> simp

@[simp] theorem execOutSet_key : ∀ a0 s, Keeps s (execOutSet a0 s) := by intros; simp [execOutSet]

@[simp] theorem execOutGet_key : ∀ a0 s, Keeps s (execOutGet a0 s) := by intros; simp [execOutGet]

@[simp] theorem takeWrite_key : ∀ a0 a1 s, key (takeWrite a0 a1 s) = key s := by intros; simp [takeWrite]

@[simp] theorem execOutWrite_key : ∀ a0 s, Keeps s (execOutWrite a0 s) := by intros; simp [execOutWrite]

@[simp] theorem takeOutWrite_key : ∀ a0 s, key (takeOutWrite a0 s).2.2 = key s := by
  intros; simp only [takeOutWrite]; split <;> simp

@[simp] theorem outReadBody_key : ∀ a0 a1 s, key (outReadBody a0 a1 s).2.2 = key s := by
  intros; simp only [outReadBody]; split <;> simp

@[simp] theorem execOutRead_key : ∀ a0 s, Keeps s (execOutRead a0 s) := by intros; simp [execOutRead]

@[simp] theorem switchResult_key : ∀ a0 s, key (switchResult a0 s) = key s := by intros; simp [switchResult]

@[simp] theorem closeSwitch_key : ∀ a0 a1 s, key (closeSwitch a0 a1 s) = key s := by intros; simp [closeSwitch]

@[simp] theorem openSwitch_key : ∀ a0 s, key (openSwitch a0 s) = key s := by intros; simp [openSwitch]

@[simp] theorem applySwitched_key : ∀ a0 a1 a2 s, key (applySwitched a0 a1 a2 s) = key s := by intros; simp [applySwitched]

@[simp] theorem clearTrips_key : ∀ a0 s, key (clearTrips a0 s) = key s := by intros; simp [clearTrips]

@[simp] theorem tripSwitch_key : ∀ a0 a1 s, key (tripSwitch a0 a1 s) = key s := by intros; simp [tripSwitch]

@[simp] theorem shedSwitch_key : ∀ a0 s, key (shedSwitch a0 s) = key s := by intros; simp [shedSwitch]

@[simp] theorem execDoFaultDetect_key : ∀ a0 a1 a2 a3 a4 a5 s, Keeps s (execDoFaultDetect a0 a1 a2 a3 a4 a5 s) := by intros; simp [execDoFaultDetect]

@[simp] theorem demagLimits_key : ∀ a0 s, key (demagLimits a0 s) = key s := by intros; simp [demagLimits]

@[simp] theorem execDemagLimit_key : ∀ a0 a1 a2 s, Keeps s (execDemagLimit a0 a1 a2 s) := by intros; simp [execDemagLimit]

@[simp] theorem execDioSet_key : ∀ a0 s, Keeps s (execDioSet a0 s) := by intros; simp [execDioSet]

@[simp] theorem execDioGet_key : ∀ a0 s, Keeps s (execDioGet a0 s) := by intros; simp [execDioGet]

@[simp] theorem execDoWrite_key : ∀ a0 s, Keeps s (execDoWrite a0 s) := by intros; simp [execDoWrite]

@[simp] theorem takeDoWrite_key : ∀ a0 s, key (takeDoWrite a0 s).2.2 = key s := by
  intros; simp only [takeDoWrite]; split <;> simp

@[simp] theorem execDioRead_key : ∀ a0 s, Keeps s (execDioRead a0 s) := by intros; simp [execDioRead]

@[simp] theorem execCntPreset_key : ∀ a0 s, Keeps s (execCntPreset a0 s) := by intros; simp [execCntPreset]

@[simp] theorem takeCntPreset_key : ∀ a0 s, key (takeCntPreset a0 s).2.2 = key s := by
  intros; simp only [takeCntPreset]; split <;> simp

@[simp] theorem setLamp_key : ∀ a0 a1 s, key (setLamp a0 a1 s) = key s := by intros; simp [setLamp]

@[simp] theorem dropLearn_key : ∀ a0 s, key (dropLearn a0 s) = key s := by
  intros; simp only [dropLearn]; split <;> simp

@[simp] theorem lampOn_key : ∀ a0 a1 s, key (lampOn a0 a1 s) = key s := by intros; simp [lampOn]

@[simp] theorem lampDark_key : ∀ a0 s, key (lampDark a0 s) = key s := by intros; simp [lampDark]

@[simp] theorem lampOff_key : ∀ a0 s, key (lampOff a0 s) = key s := by intros; simp [lampOff]

@[simp] theorem flashStep_key : ∀ a0 s, key (flashStep a0 s) = key s := by intros; simp [flashStep]

@[simp] theorem lampLit_key : ∀ a0 a1 a2 s, key (lampLit a0 a1 a2 s) = key s := by intros; simp [lampLit]

@[simp] theorem lampSupply_key : ∀ a0 s, key (lampSupply a0 s) = key s := by intros; simp [lampSupply]

@[simp] theorem relight_key : ∀ a0 a1 s, key (relight a0 a1 s) = key s := by
  intros; simp only [relight]; (repeat' split) <;> simp

@[simp] theorem applyLamp_key : ∀ a0 a1 a2 s, key (applyLamp a0 a1 a2 s) = key s := by intros; simp [applyLamp]

@[simp] theorem startLamp_key : ∀ a0 s, key (startLamp a0 s) = key s := by intros; simp [startLamp]

@[simp] theorem lampClassify_key : ∀ a0 a1 a2 s, key (lampClassify a0 a1 a2 s) = key s := by intros; simp [lampClassify]

@[simp] theorem execLampSample_key : ∀ a0 a1 a2 s, Keeps s (execLampSample a0 a1 a2 s) := by intros; simp [execLampSample]

@[simp] theorem coldResult_key : ∀ a0 a1 s, key (coldResult a0 a1 s) = key s := by intros; simp [coldResult]

@[simp] theorem execLampColdTest_key : ∀ a0 a1 a2 s, Keeps s (execLampColdTest a0 a1 a2 s) := by intros; simp [execLampColdTest]

@[simp] theorem execLampExtV_key : ∀ a0 a1 a2 s, Keeps s (execLampExtV a0 a1 a2 s) := by intros; simp [execLampExtV]

@[simp] theorem flashFree_key : ∀ a0 s, key (flashFree a0 s) = key s := by intros; simp [flashFree]

@[simp] theorem execFlashPhase_key : ∀ a0 a1 s, Keeps s (execFlashPhase a0 a1 s) := by intros; simp [execFlashPhase]

@[simp] theorem execSwitchTrip_key : ∀ a0 a1 a2 s, Keeps s (execSwitchTrip a0 a1 a2 s) := by intros; simp [execSwitchTrip]

@[simp] theorem execSwitchRetry_key : ∀ a0 a1 a2 s, Keeps s (execSwitchRetry a0 a1 a2 s) := by intros; simp [execSwitchRetry]

@[simp] theorem lockStage_key : ∀ a0 s, key (lockStage a0 s) = key s := by intros; simp [lockStage]

@[simp] theorem unlockStage_key : ∀ a0 s, key (unlockStage a0 s) = key s := by
  intros; simp only [unlockStage]; (repeat' split) <;> simp

@[simp] theorem execLampSet_key : ∀ a0 s, Keeps s (execLampSet a0 s) := by intros; simp [execLampSet]

@[simp] theorem execLampGet_key : ∀ a0 s, Keeps s (execLampGet a0 s) := by intros; simp [execLampGet]

@[simp] theorem execLampWrite_key : ∀ a0 s, Keeps s (execLampWrite a0 s) := by intros; simp [execLampWrite]

@[simp] theorem takeLampWrite_key : ∀ a0 s, key (takeLampWrite a0 s).2.2 = key s := by
  intros; simp only [takeLampWrite]; split <;> simp

@[simp] theorem execLampRead_key : ∀ a0 s, Keeps s (execLampRead a0 s) := by intros; simp [execLampRead]

@[simp] theorem lampLearnBody_key : ∀ a0 a1 a2 s, key (lampLearnBody a0 a1 a2 s) = key s := by intros; simp [lampLearnBody]

@[simp] theorem execLampLearn_key : ∀ a0 s, Keeps s (execLampLearn a0 s) := by intros; simp [execLampLearn]

@[simp] theorem endLearn_key : ∀ a0 a1 s, key (endLearn a0 a1 s) = key s := by
  intros; simp only [endLearn]; split <;> simp

@[simp] theorem execLampLearnDone_key : ∀ a0 a1 s, Keeps s (execLampLearnDone a0 a1 s) := by
  intros; simp only [execLampLearnDone]; split <;> simp

@[simp] theorem setBay_key : ∀ a0 a1 s, key (setBay a0 a1 s) = key s := by intros; simp [setBay]

@[simp] theorem changeBay_key : ∀ a0 a1 s, key (changeBay a0 a1 s) = key s := by intros; simp [changeBay]

@[simp] theorem noteSense_key : ∀ a0 a1 s, key (noteSense a0 a1 s) = key s := by intros; simp [noteSense]

@[simp] theorem noteLoads_key (b : Nat) (loads : List Rat) (s : State) : key (noteLoads b loads s) = key s := by
  unfold noteLoads; rw [key_foldl]; intros; split <;> simp

@[simp] theorem execBayCurrentSample_key : ∀ a0 a1 a2 a3 a4 s, Keeps s (execBayCurrentSample a0 a1 a2 a3 a4 s) := by
  intros; simp only [execBayCurrentSample]; (repeat' split) <;> simp

@[simp] theorem execBaySet_key : ∀ a0 s, Keeps s (execBaySet a0 s) := by intros; simp [execBaySet]

@[simp] theorem execBayGet_key : ∀ a0 s, Keeps s (execBayGet a0 s) := by intros; simp [execBayGet]

@[simp] theorem bayFsBody_key : ∀ a0 a1 s, key (bayFsBody a0 a1 s).2.2 = key s := by
  intros; simp only [bayFsBody]; split <;> simp

@[simp] theorem execBayFs_key : ∀ a0 s, Keeps s (execBayFs a0 s) := by intros; simp [execBayFs]

end Sys2Proof.Machine
end

