-- ==== Sys2Proof/Laws/KeepAlarm.lean ====
section
/-! SUPPORT. Key lemmas: points, groups, the Hopper Bell, the Granary, the clock and the Toll log. -/

namespace Sys2Proof.Machine

@[simp] theorem execPtSet_key : ∀ a0 s, Keeps s (execPtSet a0 s) := by intros; simp [execPtSet]

@[simp] theorem execPtGet_key : ∀ a0 s, Keeps s (execPtGet a0 s) := by intros; simp [execPtGet]

@[simp] theorem execPtRead_key : ∀ a0 s, Keeps s (execPtRead a0 s) := by intros; simp [execPtRead]

@[simp] theorem ptStatesBody_key : ∀ a0 a1 s, key (ptStatesBody a0 a1 s).2.2 = key s := by
  intros; simp only [ptStatesBody]; split <;> simp

@[simp] theorem execPtStates_key : ∀ a0 s, Keeps s (execPtStates a0 s) := by intros; simp [execPtStates]

@[simp] theorem execPtAck_key : ∀ a0 s, Keeps s (execPtAck a0 s) := by intros; simp [execPtAck]

@[simp] theorem execPtShelve_key : ∀ a0 s, Keeps s (execPtShelve a0 s) := by intros; simp [execPtShelve]

@[simp] theorem execPtInhibit_key : ∀ a0 s, Keeps s (execPtInhibit a0 s) := by intros; simp [execPtInhibit]

@[simp] theorem State.modToll_key (s : State) (f : TollSt → TollSt) :
    key (s.modToll f) = (s.pending, s.nd.part, decide ((f s.toll).state = .absent), TollLogWhole (f s.toll).log, s.clk.user.length,
      (f s.toll).set, (f s.toll).gen, (f s.toll).params) := (rfl)

theorem chainedFrom_snoc (h : List Byte) (n : Nat) (l : List TollEntry) (e : TollEntry) :
    ChainedFrom h n (l ++ [e]) ↔ ChainedFrom h n l ∧ e.no = n + l.length + 1 ∧
      e.chain = (sha256 ((match l.getLast? with | some x => x.chain | none => h) ++ e.body)).take 8 := by
  induction l generalizing h n with
  | nil => simp [ChainedFrom]
  | cons x l ih =>
    simp only [List.cons_append, ChainedFrom, ih, and_assoc, List.length_cons, List.getLast?_cons]
    cases l.getLast? <;> simp [Nat.add_comm, Nat.add_left_comm]

@[simp] theorem tollEntry_key (event : Nat) (args : List Byte) (s : State) : key (tollEntry event args s) = key s := by
  simp only [tollEntry]
  split
  · rfl
  · rw [submit_key, State.modToll_key, ← key_eta s]
    simp only [TollLogWhole, chainedFrom_snoc, Nat.zero_add, true_and]
    exact Prod.ext rfl (Prod.ext rfl (Prod.ext rfl (Prod.ext (propext (and_iff_left rfl)) rfl)))

@[simp] theorem checkpoint_key : ∀ s, key (checkpoint s) = key s := by intros; simp [checkpoint]

@[simp] theorem tollPowerDown_key : ∀ a0 s, key (tollPowerDown a0 s) = key s := by intros; simp [tollPowerDown]

@[simp] theorem tollBreak_key (cause latched : Nat) (s : State) : key (tollBreak cause latched s) = key s := by
  simp only [tollBreak]
  split
  · rename_i h; rw [tollEntry_key, State.modToll_key, ← key_eta s]; simp [h]
  · rfl

theorem broken_key (s a : State) (h : key a = key s) (hs : s.toll.state ≠ .absent) :
    key (a.modToll fun t => { t with state := .broken }) = key s := by
  simp only [key, Prod.mk.injEq] at h
  obtain ⟨h1, h2, _, h4, h5, h6, h7, h8⟩ := h
  simp only [State.modToll_key, ← key_eta s, h1, h2, h4, h5, h6, h7, h8]
  simp [hs]

@[simp] theorem tollRestart_key (kind : Nat) (ok : Bool) (s : State) : key (tollRestart kind ok s) = key s := by
  simp only [tollRestart]
  split
  · rfl
  · rename_i h
    split
    · split <;> simp
    · rw [tollEntry_key]
      exact broken_key s _ (by split <;> simp) h

@[simp] theorem State.modClk_key (s : State) (f : ClockSt → ClockSt) :
    key (s.modClk f) = (s.pending, s.nd.part, decide (s.toll.state = .absent), TollLogWhole s.toll.log, (f s.clk).user.length,
      s.toll.set, s.toll.gen, s.toll.params) := (rfl)

@[simp] theorem user_ite (c : Prop) [Decidable c] (a b : ClockSt) : (if c then a else b).user = if c then a.user else b.user := by
  split <;> rfl

@[simp] theorem trustStep_key : ∀ a0 s, key (trustStep a0 s) = key s := by intros; simp [trustStep]

@[simp] theorem setSource_key : ∀ a0 s, key (setSource a0 s) = key s := by intros; simp [setSource]

@[simp] theorem sourceStep_key : ∀ s, key (sourceStep s) = key s := by intros; simp [sourceStep]

@[simp] theorem lockTo_key : ∀ a0 s, key (lockTo a0 s) = key s := by intros; simp [lockTo]

@[simp] theorem shiftTimes_key : ∀ a0 s, key (shiftTimes a0 s) = key s := by intros; simp [shiftTimes]

@[simp] theorem stepBy_key : ∀ a0 s, key (stepBy a0 s) = key s := by intros; simp [stepBy]

@[simp] theorem stepRecord_key : ∀ a0 a1 s, key (stepRecord a0 a1 s) = key s := by intros; simp [stepRecord]

@[simp] theorem stepNow_key : ∀ s, key (stepNow s) = key s := by
  intros; simp only [stepNow]; (repeat' split) <;> simp

@[simp] theorem leapRecord_key : ∀ a0 a1 s, key (leapRecord a0 a1 s) = key s := by intros; simp [leapRecord]

@[simp] theorem leapHold_key : ∀ s, key (leapHold s) = key s := by intros; simp [leapHold]

@[simp] theorem boundarySteps_key : ∀ s, key (boundarySteps s) = key s := by intros; simp [boundarySteps]

@[simp] theorem roundStep_key : ∀ a0 s, key (roundStep a0 s).2 = key s := by
  intros; simp only [roundStep]; split <;> simp

@[simp] theorem moveBy_key : ∀ a0 a1 s, key (moveBy a0 a1 s) = key s := by intros; simp [moveBy]

@[simp] theorem freezeBlock_key : ∀ s, key (freezeBlock s).2 = key s := by intros; simp [freezeBlock]

@[simp] theorem lapseWindows_key : ∀ s, key (lapseWindows s) = key s := by intros; simp [lapseWindows]

@[simp] theorem upperBytes_key : ∀ a0 s, key (upperBytes a0 s).2 = key s := by intros; simp [upperBytes]

@[simp] theorem dropShadow_key : ∀ a0 s, key (dropShadow a0 s) = key s := by intros; simp [dropShadow]

@[simp] theorem shadowBlock_key : ∀ a0 s, key (shadowBlock a0 s).2 = key s := by
  intros; simp only [shadowBlock]; split <;> simp

@[simp] theorem clkRead_key : ∀ a0 a1 a2 s, key (clkRead a0 a1 a2 s).2 = key s := by
  intros; simp only [clkRead]; (repeat' split) <;> simp

@[simp] theorem stageWrite_key : ∀ a0 a1 a2 s, key (stageWrite a0 a1 a2 s) = key s := by intros; simp [stageWrite]

@[simp] theorem applyTime_key : ∀ a0 a1 s, key (applyTime a0 a1 s) = key s := by intros; simp [applyTime]

@[simp] theorem tryApply_key : ∀ a0 a1 s, key (tryApply a0 a1 s).2 = key s := by
  intros; simp only [tryApply]; (repeat' split) <;> simp

@[simp] theorem endStagingOf_key : ∀ a0 a1 s, key (endStagingOf a0 a1 s) = key s := by intros; simp [endStagingOf]

@[simp] theorem ctrlWrite_key (k v : Nat) (s : State) : key (ctrlWrite k v s).2 = key s := by
  simp only [ctrlWrite]
  split
  · simp
  · split <;> simp

@[simp] theorem clkGetBody_key : ∀ a0 a1 s, key (clkGetBody a0 a1 s).2.2 = key s := by
  intros; simp only [clkGetBody]; split <;> simp

@[simp] theorem execClkGet_key : ∀ a0 s, Keeps s (execClkGet a0 s) := by intros; simp [execClkGet]

@[simp] theorem clkSetBody_key : ∀ a0 a1 s, key (clkSetBody a0 a1 s).2.2 = key s := by
  intros; simp only [clkSetBody]; split <;> simp

@[simp] theorem execClkSet_key : ∀ a0 s, Keeps s (execClkSet a0 s) := by intros; simp [execClkSet]

@[simp] theorem armLeap_key : ∀ a0 s, key (armLeap a0 s) = key s := by intros; simp [armLeap]

@[simp] theorem clkLeapBody_key : ∀ a0 a1 s, key (clkLeapBody a0 a1 s).2.2 = key s := by
  intros; simp only [clkLeapBody]; (repeat' split) <;> simp

@[simp] theorem execClkLeap_key : ∀ a0 s, Keeps s (execClkLeap a0 s) := by intros; simp [execClkLeap]

@[simp] theorem State.slewPpb_key : ∀ s, key (State.slewPpb s).2 = key s := by
  intros; simp only [State.slewPpb]; split <;> simp

@[simp] theorem clkStatusBody_key : ∀ a0 a1 s, key (clkStatusBody a0 a1 s).2.2 = key s := by
  intros; simp only [clkStatusBody]; split <;> simp

@[simp] theorem execClkStatus_key : ∀ a0 s, Keeps s (execClkStatus a0 s) := by intros; simp [execClkStatus]

@[simp] theorem bramReadBody_key : ∀ a0 a1 s, key (bramReadBody a0 a1 s).2.2 = key s := by
  intros; simp only [bramReadBody]; split <;> simp

@[simp] theorem execBramRead_key : ∀ a0 s, Keeps s (execBramRead a0 s) := by intros; simp [execBramRead]

@[simp] theorem windowStep_key (t : Nat) (k : Fin 8) (f : State → State) (h : ∀ s, key (f s) = key s) (s : State) :
    Keeps s (windowStep t k f s) := by
  simp only [windowStep, keeps_next]
  split <;> simp [h]

@[simp] theorem execClkWindowRead_key : ∀ a0 a1 a2 a3 s, Keeps s (execClkWindowRead a0 a1 a2 a3 s) := by intros; simp [execClkWindowRead]

@[simp] theorem execClkFreezeLapse_key : ∀ a0 a1 s, Keeps s (execClkFreezeLapse a0 a1 s) := by intros; simp [execClkFreezeLapse]

@[simp] theorem execClkStagingWrite_key : ∀ a0 a1 a2 a3 s, Keeps s (execClkStagingWrite a0 a1 a2 a3 s) := by intros; simp [execClkStagingWrite]

@[simp] theorem execClkApplyCalendar_key : ∀ a0 a1 s, Keeps s (execClkApplyCalendar a0 a1 s) := by intros; simp [execClkApplyCalendar]

@[simp] theorem execClkApplyBinary_key : ∀ a0 a1 s, Keeps s (execClkApplyBinary a0 a1 s) := by intros; simp [execClkApplyBinary]

@[simp] theorem execClkDiscardStaging_key : ∀ a0 a1 s, Keeps s (execClkDiscardStaging a0 a1 s) := by intros; simp [execClkDiscardStaging]

@[simp] theorem execClkStagingLapse_key : ∀ a0 a1 s, Keeps s (execClkStagingLapse a0 a1 s) := by
  intros; simp only [execClkStagingLapse]; split <;> simp

@[simp] theorem thaw_key : ∀ a0 s, key (thaw a0 s) = key s := by
  intros; simp only [thaw]; split <;> simp

@[simp] theorem sweepPoints_key (at_ : Micros) (ps : List Nat) (cs : List SweepCmd) (recs : List Submission) (s : State) :
    key (sweepPoints at_ ps cs recs s).2.2 = key s := by
  induction ps generalizing cs recs s with
  | nil => rfl
  | cons p ps ih => simp [sweepPoints, ih]

@[simp] theorem runSweep_key : ∀ a0 s, key (runSweep a0 s) = key s := by intros; simp [runSweep]

@[simp] theorem sweepIf_key : ∀ a0 a1 s, Keeps s (sweepIf a0 a1 s) := by intros; simp [sweepIf]

@[simp] theorem execSweep_key : ∀ a0 s, Keeps s (execSweep a0 s) := by intros; simp [execSweep]

@[simp] theorem execPointOnDelayExpire_key : ∀ a0 a1 s, Keeps s (execPointOnDelayExpire a0 a1 s) := by intros; simp [execPointOnDelayExpire]

@[simp] theorem execPointOffDelayExpire_key : ∀ a0 a1 s, Keeps s (execPointOffDelayExpire a0 a1 s) := by intros; simp [execPointOffDelayExpire]

@[simp] theorem execShelveExpire_key : ∀ a0 a1 s, Keeps s (execShelveExpire a0 a1 s) := by intros; simp [execShelveExpire]

@[simp] theorem execBlockDelayExpire_key : ∀ a0 a1 s, Keeps s (execBlockDelayExpire a0 a1 s) := by intros; simp [execBlockDelayExpire]

@[simp] theorem abandonSweep_key : ∀ a0 s, key (abandonSweep a0 s) = key s := by intros; simp [abandonSweep]

@[simp] theorem execSweepAbandoned_key : ∀ a0 s, Keeps s (execSweepAbandoned a0 s) := by intros; simp [execSweepAbandoned]

@[simp] theorem execGrpSet_key : ∀ a0 s, Keeps s (execGrpSet a0 s) := by intros; simp [execGrpSet]

@[simp] theorem execGrpGet_key : ∀ a0 s, Keeps s (execGrpGet a0 s) := by intros; simp [execGrpGet]

@[simp] theorem execGrpRead_key : ∀ a0 s, Keeps s (execGrpRead a0 s) := by intros; simp [execGrpRead]

@[simp] theorem execGrpAck_key : ∀ a0 s, Keeps s (execGrpAck a0 s) := by intros; simp [execGrpAck]

@[simp] theorem State.modPanel_key : ∀ s a0 a1, key (State.modPanel s a0 a1) = key s := by intros; simp [State.modPanel]

@[simp] theorem sysAck_key : ∀ a0 a1 a2 s, key (sysAck a0 a1 a2 s) = key s := by intros; simp [sysAck]

@[simp] theorem dutyStep_key : ∀ s, key (dutyStep s) = key s := by intros; simp [dutyStep]

@[simp] theorem setDm_key : ∀ a0 s, key (setDm a0 s) = key s := by intros; simp [setDm]

@[simp] theorem dmStep_key : ∀ a0 s, key (dmStep a0 s) = key s := by intros; simp [dmStep]

@[simp] theorem actKey_key : ∀ a0 a1 a2 s, key (actKey a0 a1 a2 s).2 = key s := by
  intros; simp only [actKey]; (repeat' split) <;> simp

@[simp] theorem takeKey_key (at_ k : Nat) (x : KeyActs × State) : key (takeKey at_ k x).2 = key x.2 := by
  simp only [takeKey]
  split
  · rfl
  · split <;> simp

theorem takeKeys_key (at_ : Nat) (ks : List Nat) (x : KeyActs × State) :
    key (ks.foldl (fun x k => takeKey at_ k x) x).2 = key x.2 := by
  induction ks generalizing x with
  | nil => rfl
  | cons k ks ih => simp [ih]

@[simp] theorem goStage_key : ∀ a0 a1 a2 s, key (goStage a0 a1 a2 s) = key s := by intros; simp [goStage]

@[simp] theorem stageStep_key : ∀ a0 a1 a2 s, key (stageStep a0 a1 a2 s) = key s := by intros; simp [stageStep]

@[simp] theorem rememberCalls_key : ∀ s, key (rememberCalls s) = key s := by intros; simp [rememberCalls]

@[simp] theorem unsilence_key : ∀ a0 s, key (unsilence a0 s) = key s := by intros; simp [unsilence]

@[simp] theorem hopper_key (at_ : Micros) (s : State) : key (hopper at_ s) = key s := by
  simp only [hopper]
  split <;> simp [takeKeys_key]

@[simp] theorem applyBellCmd_key : ∀ s a0, key (applyBellCmd s a0) = key s := by intros; simp [applyBellCmd]

@[simp] theorem replyBellCmd_key : ∀ s a0, key (replyBellCmd s a0) = key s := by intros; simp [replyBellCmd]

@[simp] theorem runTick_key : ∀ a0 s, key (runTick a0 s) = key s := by intros; simp [runTick]

@[simp] theorem tickIf_key : ∀ a0 a1 s, Keeps s (tickIf a0 a1 s) := by intros; simp [tickIf]

@[simp] theorem execHbTick_key : ∀ a0 s, Keeps s (execHbTick a0 s) := by intros; simp [execHbTick]

@[simp] theorem stageTick_key : ∀ a0 a1 a2 s, Keeps s (stageTick a0 a1 a2 s) := by intros; simp [stageTick]

@[simp] theorem execHbT1Expire_key : ∀ a0 s, Keeps s (execHbT1Expire a0 s) := by intros; simp [execHbT1Expire]

@[simp] theorem execHbT2Expire_key : ∀ a0 s, Keeps s (execHbT2Expire a0 s) := by intros; simp [execHbT2Expire]

@[simp] theorem execHbTAttendExpire_key : ∀ a0 s, Keeps s (execHbTAttendExpire a0 s) := by intros; simp [execHbTAttendExpire]

@[simp] theorem execDmPrewarn_key : ∀ a0 s, Keeps s (execDmPrewarn a0 s) := by intros; simp [execDmPrewarn]

@[simp] theorem execDmExpired_key : ∀ a0 s, Keeps s (execDmExpired a0 s) := by intros; simp [execDmExpired]

@[simp] theorem execRosterChange_key : ∀ a0 s, Keeps s (execRosterChange a0 s) := by intros; simp [execRosterChange]

@[simp] theorem execHbOverrideEnd_key : ∀ a0 s, Keeps s (execHbOverrideEnd a0 s) := by intros; simp [execHbOverrideEnd]

@[simp] theorem keyTick_key : ∀ a0 a1 a2 s, Keeps s (keyTick a0 a1 a2 s) := by intros; simp [keyTick]

@[simp] theorem execKeyAck_key : ∀ a0 a1 s, Keeps s (execKeyAck a0 a1 s) := by intros; simp [execKeyAck]

@[simp] theorem execKeySilence_key : ∀ a0 a1 s, Keeps s (execKeySilence a0 a1 s) := by intros; simp [execKeySilence]

@[simp] theorem execKeyAccept_key : ∀ a0 a1 s, Keeps s (execKeyAccept a0 a1 s) := by intros; simp [execKeyAccept]

@[simp] theorem execKeyDmOn_key : ∀ a0 a1 s, Keeps s (execKeyDmOn a0 a1 s) := by intros; simp [execKeyDmOn]

@[simp] theorem execKeyDmReset_key : ∀ a0 a1 s, Keeps s (execKeyDmReset a0 a1 s) := by intros; simp [execKeyDmReset]

@[simp] theorem execKeyDmOff_key : ∀ a0 a1 s, Keeps s (execKeyDmOff a0 a1 s) := by intros; simp [execKeyDmOff]

@[simp] theorem execKeyManned_key : ∀ a0 a1 s, Keeps s (execKeyManned a0 a1 s) := by intros; simp [execKeyManned]

@[simp] theorem execKeyUnmanned_key : ∀ a0 a1 s, Keeps s (execKeyUnmanned a0 a1 s) := by intros; simp [execKeyUnmanned]

@[simp] theorem execHbStatus_key : ∀ a0 s, Keeps s (execHbStatus a0 s) := by intros; simp [execHbStatus]

@[simp] theorem answerTick_key : ∀ a0 a1 a2 s, Keeps s (answerTick a0 a1 a2 s) := by intros; simp [answerTick]

@[simp] theorem execHbOverride_key : ∀ a0 s, Keeps s (execHbOverride a0 s) := by intros; simp [execHbOverride]

@[simp] theorem execHbSysAck_key : ∀ a0 s, Keeps s (execHbSysAck a0 s) := by intros; simp [execHbSysAck]

@[simp] theorem takeBell_key (m : BellMsg) (s : State) : key (takeBell m s) = key s := by
  have h (a : State) (f : State → Nat → State) (hf : ∀ s x, key (f s x) = key s) (ks : List Nat) (c : ClockSt)
      (hc : c.user = (ks.foldl f a).clk.user) : key { ks.foldl f a with clk := c } = key a := by
    rw [key_mk, hc]
    exact key_foldl f hf ks a
  exact (h _ _ (by intros; simp) _ _ rfl).trans (by simp)

@[simp] theorem execHbStateSync_key : ∀ a0 a1 s, Keeps s (execHbStateSync a0 a1 s) := by intros; simp [execHbStateSync]

@[simp] theorem execPpsEdge_key : ∀ a0 a1 s, Keeps s (execPpsEdge a0 a1 s) := by intros; simp [execPpsEdge]

@[simp] theorem labelEdge_key : ∀ a0 a1 s, key (labelEdge a0 a1 s) = key s := by intros; simp [labelEdge]

@[simp] theorem execTimeSentence_key : ∀ a0 a1 s, Keeps s (execTimeSentence a0 a1 s) := by
  intros; simp only [execTimeSentence]; (repeat' split) <;> simp

@[simp] theorem execTimeLockLoss_key : ∀ a0 s, Keeps s (execTimeLockLoss a0 s) := by intros; simp [execTimeLockLoss]

@[simp] theorem execRingLockLoss_key : ∀ a0 s, Keeps s (execRingLockLoss a0 s) := by intros; simp [execRingLockLoss]

@[simp] theorem atSweepStart_key : ∀ s, key (atSweepStart s) = key s := by
  intros; simp only [atSweepStart]; (repeat' split) <;> simp

@[simp] theorem execTimeStep_key : ∀ a0 s, Keeps s (execTimeStep a0 s) := by intros; simp [execTimeStep]

@[simp] theorem execLeapHold_key : ∀ a0 s, Keeps s (execLeapHold a0 s) := by intros; simp [execLeapHold]

@[simp] theorem execClockSlaveSecond_key : ∀ a0 s, Keeps s (execClockSlaveSecond a0 s) := by intros; simp [execClockSlaveSecond]

@[simp] theorem execOscStopDetect_key : ∀ a0 s, Keeps s (execOscStopDetect a0 s) := by intros; simp [execOscStopDetect]

@[simp] theorem execClockRangeEnd_key : ∀ a0 s, Keeps s (execClockRangeEnd a0 s) := by intros; simp [execClockRangeEnd]

@[simp] theorem clockConfigured_key : ∀ s, key (clockConfigured s) = key s := by intros; simp [clockConfigured]

@[simp] theorem setWait_key : ∀ a0 a1 s, key (setWait a0 a1 s) = key s := by intros; simp [setWait]

@[simp] theorem frameEnd_key : ∀ a0 s, key (frameEnd a0 s) = key s := by intros; simp [frameEnd]

@[simp] theorem execPanelPoll_key : ∀ a0 a1 s, Keeps s (execPanelPoll a0 a1 s) := by
  intros; simp only [execPanelPoll]; (repeat' split) <;> simp

@[simp] theorem endPoll_key : ∀ a0 a1 a2 s, key (endPoll a0 a1 a2 s) = key s := by intros; simp [endPoll]

@[simp] theorem panelSays_key : ∀ a0 a1 s, key (panelSays a0 a1 s) = key s := by intros; simp [panelSays]

@[simp] theorem classWrong_key : ∀ a0 s, key (classWrong a0 s) = key s := by intros; simp [classWrong]

@[simp] theorem takeReply_key : ∀ a0 a1 a2 s, key (takeReply a0 a1 a2 s) = key s := by intros; simp [takeReply]

@[simp] theorem execPanelReply_key : ∀ a0 a1 a2 s, Keeps s (execPanelReply a0 a1 a2 s) := by
  intros; simp only [execPanelReply]; (repeat' split) <;> simp

@[simp] theorem execPanelReplyTimeout_key : ∀ a0 a1 s, Keeps s (execPanelReplyTimeout a0 a1 s) := by
  intros; simp only [execPanelReplyTimeout]; split <;> simp

@[simp] theorem raiseSource_key : ∀ a0 a1 a2 a3 a4 s, key (raiseSource a0 a1 a2 a3 a4 s) = key s := by intros; simp [raiseSource]

@[simp] theorem notifyRecord_key : ∀ a0 a1 s, key (notifyRecord a0 a1 s) = key s := by
  intros; simp only [notifyRecord]; split <;> simp

@[simp] theorem setBucket_key : ∀ a0 a1 s, key (setBucket a0 a1 s) = key s := by intros; simp [setBucket]

@[simp] theorem suppressRec_key : ∀ a0 a1 s, key (suppressRec a0 a1 s) = key s := by intros; simp [suppressRec]

@[simp] theorem stageRec_key : ∀ a0 s, key (stageRec a0 s) = key s := by
  intros; simp only [stageRec]; (repeat' split) <;> simp

@[simp] theorem breakFreeze_key : ∀ s, key (breakFreeze s) = key s := by
  intros; simp only [breakFreeze]; (repeat' split) <;> simp

@[simp] theorem assignRec_key : ∀ a0 s, key (assignRec a0 s) = key s := by intros; simp [assignRec]

theorem intakeRec_key (r : Submission) (s t : State) (h : intakeRec r s = some t) : key t = key s := by
  simp only [intakeRec] at h
  (repeat' split at h) <;> simp at h <;> subst h <;> simp

@[simp] theorem intakeRec_getD_key (r : Submission) (s d : State) (h : key d = key s) :
    key ((intakeRec r s).getD d) = key s := by
  cases e : intakeRec r s with
  | none => exact h
  | some t => exact intakeRec_key r s t e

@[simp] theorem State.grnRange_key : ∀ s, key (State.grnRange s).2 = key s := by
  intros; simp only [State.grnRange]; split <;> simp

@[simp] theorem recoverStore_key (s : State) : key (recoverStore s) = key s := by
  simp only [recoverStore, submit_key, State.grnRange_key, key_mk, key_eta]

@[simp] theorem recovered_key : ∀ s, key (recovered s) = key s := by intros; simp [recovered]

@[simp] theorem setPort_key : ∀ a0 a1 s, key (setPort a0 a1 s) = key s := by intros; simp [setPort]

@[simp] theorem wearRecord_key : ∀ s, key (wearRecord s) = key s := by intros; simp [wearRecord]

@[simp] theorem settleBuckets_key : ∀ s, key (settleBuckets s) = key s := by intros; simp [settleBuckets]

@[simp] theorem setRestraint_key : ∀ a0 s, key (setRestraint a0 s) = key s := by intros; simp [setRestraint]

@[simp] theorem wearStep_key : ∀ s, key (wearStep s) = key s := by intros; simp [wearStep]

@[simp] theorem execGranarySubmit_key (t : Nat) (port : Fin 4) (s : State) : Keeps s (execGranarySubmit t port s) := by
  have h : key (if (s.begin t).alive then wearStep (s.begin t) else s.begin t) = key s := by split <;> simp
  simp only [execGranarySubmit]
  generalize (if (s.begin t).alive then wearStep (s.begin t) else s.begin t) = s1 at h ⊢
  split
  · simpa using h
  · split
    · simpa using h
    · split
      · rw [keeps_next, intakeRec_getD_key _ _ _ (by simp)]; simpa using h
      · simpa using h

@[simp] theorem execLossRecord_key : ∀ a0 a1 s, Keeps s (execLossRecord a0 a1 s) := by intros; simp [execLossRecord]

@[simp] theorem drainPage_key : ∀ s, key (drainPage s) = key s := by intros; simp [drainPage]

@[simp] theorem execGranaryDrainPage_key : ∀ a0 s, Keeps s (execGranaryDrainPage a0 s) := by intros; simp [execGranaryDrainPage]

@[simp] theorem execGranaryFlush_key : ∀ a0 s, Keeps s (execGranaryFlush a0 s) := by
  intros; simp only [execGranaryFlush]; split <;> simp

@[simp] theorem drainAll_key (n : Nat) (s : State) : key (drainAll n s) = key s := by
  induction n generalizing s with
  | zero => rfl
  | succ n ih =>
    simp only [drainAll]
    split <;> simp [ih]

@[simp] theorem writeStaging_key : ∀ s, key (writeStaging s) = key s := by intros; simp [writeStaging]

@[simp] theorem execSectorErase_key : ∀ a0 s, Keeps s (execSectorErase a0 s) := by intros; simp [execSectorErase]

@[simp] theorem summaryRecord_key : ∀ a0 a1 s, key (summaryRecord a0 a1 s) = key s := by intros; simp [summaryRecord]

@[simp] theorem execFloodEnd_key : ∀ a0 a1 s, Keeps s (execFloodEnd a0 a1 s) := by
  intros; simp only [execFloodEnd]; split <;> simp

@[simp] theorem execFloodSummary_key : ∀ a0 a1 s, Keeps s (execFloodSummary a0 a1 s) := by
  intros; simp only [execFloodSummary]; split <;> simp

@[simp] theorem freezeEnds_key : ∀ a0 a1 a2 s, Keeps s (freezeEnds a0 a1 a2 s) := by
  intros; simp only [freezeEnds]; split <;> simp

@[simp] theorem execGrnLeaseExpire_key : ∀ a0 s, Keeps s (execGrnLeaseExpire a0 s) := by intros; simp [execGrnLeaseExpire]

@[simp] theorem execGrnFreezeLimit_key : ∀ a0 s, Keeps s (execGrnFreezeLimit a0 s) := by intros; simp [execGrnFreezeLimit]

@[simp] theorem execWearReport_key : ∀ a0 s, Keeps s (execWearReport a0 s) := by intros; simp [execWearReport]

@[simp] theorem grnStatusBody_key : ∀ a0 a1 s, key (grnStatusBody a0 a1 s).2.2 = key s := by
  intros; simp only [grnStatusBody]; split <;> simp

@[simp] theorem execGrnStatus_key : ∀ a0 s, Keeps s (execGrnStatus a0 s) := by intros; simp [execGrnStatus]

@[simp] theorem grnReadBody_key : ∀ a0 a1 s, key (grnReadBody a0 a1 s).2.2 = key s := by
  intros; simp only [grnReadBody]; (repeat' split) <;> simp

@[simp] theorem execGrnRead_key : ∀ a0 s, Keeps s (execGrnRead a0 s) := by intros; simp [execGrnRead]

@[simp] theorem grnFreezeBody_key : ∀ a0 a1 s, key (grnFreezeBody a0 a1 s).2.2 = key s := by
  intros; simp only [grnFreezeBody]; (repeat' split) <;> simp

@[simp] theorem execGrnFreeze_key : ∀ a0 s, Keeps s (execGrnFreeze a0 s) := by intros; simp [execGrnFreeze]

@[simp] theorem grnReleaseBody_key : ∀ a0 a1 s, key (grnReleaseBody a0 a1 s).2.2 = key s := by
  intros; simp only [grnReleaseBody]; (repeat' split) <;> simp

@[simp] theorem execGrnRelease_key : ∀ a0 s, Keeps s (execGrnRelease a0 s) := by intros; simp [execGrnRelease]

end Sys2Proof.Machine
end

