-- ==== Sys2Proof/Laws/KeepRing.lean ====
section
/-! SUPPORT. Key lemmas: the rings. -/

namespace Sys2Proof.Machine

@[simp] theorem portRecord_key : ∀ a0 a1 a2 s, key (portRecord a0 a1 a2 s) = key s := by
  intros; simp only [portRecord]; (repeat' split) <;> simp

@[simp] theorem setPortState_key : ∀ a0 a1 s, key (setPortState a0 a1 s) = key s := by intros; simp [setPortState]

@[simp] theorem setRingState_key : ∀ a0 a1 s, key (setRingState a0 a1 s) = key s := by intros; simp [setRingState]

@[simp] theorem masterRecord_key : ∀ a0 a1 a2 a3 s, key (masterRecord a0 a1 a2 a3 s) = key s := by intros; simp [masterRecord]

@[simp] theorem sendOn_key : ∀ a0 a1 a2 s, key (sendOn a0 a1 a2 s) = key s := by intros; simp [sendOn]

@[simp] theorem withhold_key : ∀ a0 a1 s, key (withhold a0 a1 s) = key s := by
  intros; simp only [withhold]; (repeat' split) <;> simp

@[simp] theorem sendPorts_key : ∀ a0 a1 a2 s, key (sendPorts a0 a1 a2 s) = key s := by
  intros; simp only [sendPorts]; (repeat' split) <;> simp

@[simp] theorem sendRing_key : ∀ a0 a1 a2 s, key (sendRing a0 a1 a2 s) = key s := by intros; simp [sendRing]

@[simp] theorem takeSlot_key : ∀ a0 a1 a2 s a3, key (takeSlot a0 a1 a2 s a3) = key s := by
  intros; simp only [takeSlot]; (repeat' split) <;> simp

@[simp] theorem tripPort_key : ∀ a0 s, key (tripPort a0 s) = key s := by intros; simp [tripPort]

@[simp] theorem hearUnit_key : ∀ a0 a1 s, key (hearUnit a0 a1 s) = key s := by intros; simp [hearUnit]

@[simp] theorem countRx_key : ∀ a0 s, key (countRx a0 s) = key s := by
  intros; simp only [countRx]; (repeat' split) <;> simp

@[simp] theorem firstCopy_key : ∀ a0 a1 a2 s, key (firstCopy a0 a1 a2 s).2 = key s := by
  intros; simp only [firstCopy]; (repeat' split) <;> simp

@[simp] theorem forwardSync_key : ∀ a0 a1 s, key (forwardSync a0 a1 s).2 = key s := by intros; simp [forwardSync]

@[simp] theorem forward_key : ∀ a0 a1 a2 s, key (forward a0 a1 a2 s) = key s := by
  intros; simp only [forward]; (repeat' split) <;> simp

@[simp] theorem police_key : ∀ a0 a1 s, key (police a0 a1 s) = key s := by
  intros; simp only [police]; (repeat' split) <;> simp

@[simp] theorem receive_key : ∀ a0 a1 a2 s, key (receive a0 a1 a2 s).2 = key s := by
  intros; simp only [receive]; (repeat' split) <;> simp

@[simp] theorem dropReply_key : ∀ a0 s, key (dropReply a0 s) = key s := by
  intros; simp only [dropReply]; (repeat' split) <;> simp

@[simp] theorem setBridgeQueue_key : ∀ a0 a1 s, key (setBridgeQueue a0 a1 s) = key s := by intros; simp [setBridgeQueue]

theorem nextAcyc_key (k : Nat) (s t : State) (f : Frame) (h : nextAcyc k s = some (f, t)) : key t = key s := by
  simp only [nextAcyc] at h
  split at h <;> simp at h <;> (obtain ⟨_, rfl⟩ := h; simp)

@[simp] theorem pollReply_key (k : Nat) (s : State) : key (pollReply k s) = key s := by
  simp only [pollReply]
  split
  · split <;> simp
  · split
    · split
      · rename_i h; simp [nextAcyc_key _ _ _ _ h]
      · simp
    · simp

@[simp] theorem policeEnd_key : ∀ a0 s, key (policeEnd a0 s) = key s := by intros; simp [policeEnd]

@[simp] theorem closeCycle_key : ∀ a0 s, key (closeCycle a0 s) = key s := by intros; simp [closeCycle]

@[simp] theorem elect_key : ∀ a0 s, key (elect a0 s) = key s := by intros; simp [elect]

@[simp] theorem fixPolls_key : ∀ a0 s, key (fixPolls a0 s) = key s := by intros; simp [fixPolls]

@[simp] theorem sendSync_key : ∀ a0 s, key (sendSync a0 s) = key s := by intros; simp [sendSync]

@[simp] theorem sendLink_key : ∀ a0 s, key (sendLink a0 s) = key s := by
  intros; simp only [sendLink]; split <;> simp

@[simp] theorem sendData_key : ∀ a0 s, key (sendData a0 s) = key s := by intros; simp [sendData]

@[simp] theorem sendPolls_key (k : Nat) (s : State) : key (sendPolls k s) = key s := by
  simp only [sendPolls]
  split
  · rfl
  · split
    · split
      · rename_i h; simp [nextAcyc_key _ _ _ _ h]
      · simp
    · simp

@[simp] theorem startCycle_key : ∀ a0 s, key (startCycle a0 s) = key s := by intros; simp [startCycle]

@[simp] theorem countCycles_key : ∀ s, key (countCycles s) = key s := by intros; simp [countCycles]

@[simp] theorem dataRestarted_key : ∀ s, key (dataRestarted s) = key s := by intros; simp [dataRestarted]

@[simp] theorem owedCopy_key : ∀ a0 s, key (owedCopy a0 s) = key s := by intros; simp [owedCopy]

@[simp] theorem dropRing_key : ∀ a0 s, key (dropRing a0 s) = key s := by
  intros; simp only [dropRing]; (repeat' split) <;> simp

@[simp] theorem execRingCycle_key : ∀ s, Keeps s (execRingCycle s) := by intros; simp [execRingCycle]

@[simp] theorem followLeap_key : ∀ a0 s, key (followLeap a0 s) = key s := by intros; simp [followLeap]

@[simp] theorem ringTime_key : ∀ a0 a1 a2 s, key (ringTime a0 a1 a2 s) = key s := by intros; simp [ringTime]

@[simp] theorem noteMaster_key : ∀ a0 a1 s, key (noteMaster a0 a1 s) = key s := by intros; simp [noteMaster]

@[simp] theorem takeSync_key : ∀ a0 a1 a2 s, key (takeSync a0 a1 a2 s) = key s := by intros; simp [takeSync]

@[simp] theorem execSyncFrame_key : ∀ a0 a1 a2 a3 s, Keeps s (execSyncFrame a0 a1 a2 a3 s) := by intros; simp [execSyncFrame]

@[simp] theorem takeLink_key : ∀ a0 a1 a2 s, key (takeLink a0 a1 a2 s) = key s := by
  intros; simp only [takeLink]; split <;> simp

@[simp] theorem execLinkFrame_key : ∀ a0 a1 a2 a3 s, Keeps s (execLinkFrame a0 a1 a2 a3 s) := by intros; simp [execLinkFrame]

@[simp] theorem setClash_key : ∀ a0 a1 a2 s, key (setClash a0 a1 a2 s) = key s := by intros; simp [setClash]

@[simp] theorem noteSummary_key : ∀ a0 s, key (noteSummary a0 s) = key s := by intros; simp [noteSummary]

@[simp] theorem takeData_key : ∀ a0 a1 s, key (takeData a0 a1 s) = key s := by intros; simp [takeData]

@[simp] theorem copyData_key : ∀ a0 a1 s, key (copyData a0 a1 s) = key s := by intros; simp [copyData]

@[simp] theorem execDataFrame_key : ∀ a0 a1 a2 s, Keeps s (execDataFrame a0 a1 a2 s) := by intros; simp [execDataFrame]

@[simp] theorem lateCopy_key : ∀ a0 s, key (lateCopy a0 s) = key s := by intros; simp [lateCopy]

@[simp] theorem execPollFrame_key : ∀ a0 a1 a2 s, Keeps s (execPollFrame a0 a1 a2 s) := by intros; simp [execPollFrame]

@[simp] theorem noteMore_key : ∀ a0 a1 s, key (noteMore a0 a1 s) = key s := by intros; simp [noteMore]

@[simp] theorem execNilFrame_key : ∀ a0 a1 a2 s, Keeps s (execNilFrame a0 a1 a2 s) := by intros; simp [execNilFrame]

@[simp] theorem busyAnswer_key : ∀ a0 s, key (busyAnswer a0 s) = key s := by intros; simp [busyAnswer]

@[simp] theorem queuePacket_key : ∀ a0 a1 s, key (queuePacket a0 a1 s) = key s := by intros; simp [queuePacket]

@[simp] theorem bridgeTo_key : ∀ a0 a1 s, key (bridgeTo a0 a1 s) = key s := by intros; simp [bridgeTo]

@[simp] theorem bridgeAcyc_key : ∀ a0 a1 s, key (bridgeAcyc a0 a1 s) = key s := by intros; simp [bridgeAcyc]

@[simp] theorem deliverAcyc_key : ∀ a0 a1 s, key (deliverAcyc a0 a1 s) = key s := by
  intros; simp only [deliverAcyc]; (repeat' split) <;> simp

@[simp] theorem execAcycFrame_key : ∀ a0 a1 a2 s, Keeps s (execAcycFrame a0 a1 a2 s) := by intros; simp [execAcycFrame]

@[simp] theorem execBabbleReopen_key : ∀ a0 a1 s, Keeps s (execBabbleReopen a0 a1 s) := by intros; simp [execBabbleReopen]

@[simp] theorem execPortSilent_key : ∀ a0 a1 s, Keeps s (execPortSilent a0 a1 s) := by intros; simp [execPortSilent]

@[simp] theorem setSync_key : ∀ a0 a1 s, key (setSync a0 a1 s) = key s := by
  intros; simp only [setSync]; split <;> simp

@[simp] theorem execPortSyncLoss_key : ∀ a0 a1 a2 s, Keeps s (execPortSyncLoss a0 a1 a2 s) := by intros; simp [execPortSyncLoss]

@[simp] theorem execDataStart_key : ∀ a0 s, Keeps s (execDataStart a0 s) := by intros; simp [execDataStart]

@[simp] theorem execAddrClashClear_key : ∀ a0 s, Keeps s (execAddrClashClear a0 s) := by intros; simp [execAddrClashClear]

@[simp] theorem State.modSfp_key : ∀ s a0 a1, key (State.modSfp s a0 a1) = key s := by intros; simp [State.modSfp]

@[simp] theorem followPort_key : ∀ a0 a1 s, key (followPort a0 a1 s) = key s := by
  intros; simp only [followPort]; (repeat' split) <;> simp

@[simp] theorem execSfpInsert_key : ∀ a0 a1 a2 a3 a4 a5 s, Keeps s (execSfpInsert a0 a1 a2 a3 a4 a5 s) := by intros; simp [execSfpInsert]

@[simp] theorem execSfpRemove_key : ∀ a0 a1 s, Keeps s (execSfpRemove a0 a1 s) := by intros; simp [execSfpRemove]

@[simp] theorem execSfpDiagPoll_key : ∀ a0 a1 a2 s, Keeps s (execSfpDiagPoll a0 a1 a2 s) := by intros; simp [execSfpDiagPoll]

@[simp] theorem execPnrStatus_key : ∀ a0 s, Keeps s (execPnrStatus a0 s) := by intros; simp [execPnrStatus]

@[simp] theorem pnrPortBody_key : ∀ a0 a1 s, key (pnrPortBody a0 a1 s).2.2 = key s := by
  intros; simp only [pnrPortBody]; split <;> simp

@[simp] theorem execPnrPort_key : ∀ a0 s, Keeps s (execPnrPort a0 s) := by intros; simp [execPnrPort]

@[simp] theorem pnrSlotBody_key : ∀ a0 a1 s, key (pnrSlotBody a0 a1 s).2.2 = key s := by
  intros; simp only [pnrSlotBody]; (repeat' split) <;> simp

@[simp] theorem execPnrSlot_key : ∀ a0 s, Keeps s (execPnrSlot a0 s) := by intros; simp [execPnrSlot]

end Sys2Proof.Machine
end

