-- ==== Sys2Proof/Laws/KeepReset.lean ====
section
/-! SUPPORT. Key lemmas: lanes, conversions, the sluice, the planes and resets. -/

namespace Sys2Proof.Machine

@[simp] theorem laneRecord_key : ∀ a0 a1 s, key (laneRecord a0 a1 s) = key s := by
  intros; simp only [laneRecord]; (repeat' split) <;> simp

@[simp] theorem setLane_key : ∀ a0 a1 s, key (setLane a0 a1 s) = key s := by intros; simp [setLane]

@[simp] theorem laneResult_key : ∀ a0 s, key (laneResult a0 s) = key s := by intros; simp [laneResult]

@[simp] theorem discStep_key : ∀ a0 s, key (discStep a0 s) = key s := by intros; simp [discStep]

@[simp] theorem tripStep_key : ∀ a0 s, key (tripStep a0 s) = key s := by
  intros; simp only [tripStep]; split <;> simp

@[simp] theorem laneArmed_key : ∀ a0 s, key (laneArmed a0 s) = key s := by
  intros; simp only [laneArmed]; (repeat' split) <;> simp

@[simp] theorem armLane_key : ∀ a0 a1 s, key (armLane a0 a1 s).2 = key s := by
  intros; simp only [armLane]; split <;> simp

@[simp] theorem laneMoves_key : ∀ a0 a1 s, key (laneMoves a0 a1 s) = key s := by
  intros; simp only [laneMoves]; split <;> simp

@[simp] theorem laneCompute_key : ∀ a0 a1 s, key (laneCompute a0 a1 s) = key s := by intros; simp [laneCompute]

@[simp] theorem sendLane_key : ∀ a0 s, key (sendLane a0 s) = key s := by intros; simp [sendLane]

@[simp] theorem laneBoundary_key : ∀ a0 s, key (laneBoundary a0 s) = key s := by intros; simp [laneBoundary]

@[simp] theorem supplyStages_key : ∀ a0 a1 s, key (supplyStages a0 a1 s) = key s := by intros; simp [supplyStages]

@[simp] theorem execFieldSupplyThreshold_key : ∀ a0 a1 a2 a3 a4 s, Keeps s (execFieldSupplyThreshold a0 a1 a2 a3 a4 s) := by intros; simp [execFieldSupplyThreshold]

@[simp] theorem latchGone_key : ∀ a0 s, key (latchGone a0 s) = key s := by
  intros; simp only [latchGone]; (repeat' split) <;> simp

@[simp] theorem execLatchFloorPassed_key : ∀ a0 a1 s, Keeps s (execLatchFloorPassed a0 a1 s) := by intros; simp [execLatchFloorPassed]

@[simp] theorem compareLines_key : ∀ a0 s, key (compareLines a0 s) = key s := by intros; simp [compareLines]

@[simp] theorem execLaneWordArrival_key : ∀ a0 a1 a2 a3 a4 s, Keeps s (execLaneWordArrival a0 a1 a2 a3 a4 s) := by intros; simp [execLaneWordArrival]

@[simp] theorem execLaneWdExpire_key : ∀ a0 a1 a2 s, Keeps s (execLaneWdExpire a0 a1 a2 s) := by intros; simp [execLaneWdExpire]

@[simp] theorem execLaneOutputTrip_key : ∀ a0 a1 a2 s, Keeps s (execLaneOutputTrip a0 a1 a2 s) := by intros; simp [execLaneOutputTrip]

@[simp] theorem execLanePulseTest_key : ∀ a0 a1 a2 s, Keeps s (execLanePulseTest a0 a1 a2 s) := by intros; simp [execLanePulseTest]

@[simp] theorem execLaneDegradeExpire_key : ∀ a0 a1 s, Keeps s (execLaneDegradeExpire a0 a1 s) := by intros; simp [execLaneDegradeExpire]

@[simp] theorem execLaneDisc_key : ∀ a0 a1 s, Keeps s (execLaneDisc a0 a1 s) := by intros; simp [execLaneDisc]

@[simp] theorem takeLaneArm_key (arms : List ArmReading) (pl : List Byte) (s : State) :
    key (takeLaneArm arms pl s).2.2 = key s := by
  have h := armLane_key (byteAt pl 0) arms s
  simp only [takeLaneArm]
  split
  · rfl
  · split
    · rfl
    · split <;> (rename_i e; rw [e] at h; simpa using h)

@[simp] theorem laneCleared_key : ∀ a0 s, key (laneCleared a0 s) = key s := by
  intros; simp only [laneCleared]; (repeat' split) <;> simp

@[simp] theorem takeLaneReset_key (arms : List ArmReading) (pl : List Byte) (s : State) :
    key (takeLaneReset arms pl s).2.2 = key s := by
  simp only [takeLaneReset]
  split
  · rfl
  · split
    · rfl
    · split <;> (rename_i e; have h := congrArg (fun x => key x.2) e; simp at h; simpa using h.symm)

@[simp] theorem laneDisarmed_key : ∀ a0 s, key (laneDisarmed a0 s) = key s := by
  intros; simp only [laneDisarmed]; (repeat' split) <;> simp

@[simp] theorem takeLaneDisarm_key : ∀ a0 s, key (takeLaneDisarm a0 s).2.2 = key s := by
  intros; simp only [takeLaneDisarm]; (repeat' split) <;> simp

@[simp] theorem execLaneSet_key : ∀ a0 s, Keeps s (execLaneSet a0 s) := by intros; simp [execLaneSet]

@[simp] theorem execLaneGet_key : ∀ a0 s, Keeps s (execLaneGet a0 s) := by intros; simp [execLaneGet]

@[simp] theorem execLaneArm_key : ∀ a0 s, Keeps s (execLaneArm a0 s) := by intros; simp [execLaneArm]

@[simp] theorem execLaneDisarm_key : ∀ a0 s, Keeps s (execLaneDisarm a0 s) := by intros; simp [execLaneDisarm]

@[simp] theorem execLaneReset_key : ∀ a0 s, Keeps s (execLaneReset a0 s) := by intros; simp [execLaneReset]

@[simp] theorem execLaneRead_key : ∀ a0 s, Keeps s (execLaneRead a0 s) := by intros; simp [execLaneRead]

@[simp] theorem safeOutput_key : ∀ a0 s, key (safeOutput a0 s) = key s := by intros; simp [safeOutput]

@[simp] theorem safeBay_key : ∀ a0 s, key (safeBay a0 s) = key s := by intros; simp [safeBay]

@[simp] theorem execSsTimeoutExpire_key : ∀ a0 a1 s, Keeps s (execSsTimeoutExpire a0 a1 s) := by intros; simp [execSsTimeoutExpire]

@[simp] theorem rawSteps_key (n : Nat) (x : Rat) (raws : List Rat) (pip : Option Rat) (s : State) :
    key (rawSteps n x raws pip s) = key s := by
  simp only [rawSteps]
  split
  · simp
  · have h : ∀ (l : List Rat) (p : Nat × State),
        key (l.foldl (fun (p : Nat × State) v => (p.1 - 250, rawCheck n (p.1 - 250) (p.2.signalOf n v) none p.2)) p).2 = key p.2 := by
      intro l
      induction l with
      | nil => intro p; rfl
      | cons v l ih => intro p; simp [ih]
    exact h _ _

@[simp] theorem inputConversion_key : ∀ a0 a1 a2 a3 a4 a5 s, key (inputConversion a0 a1 a2 a3 a4 a5 s) = key s := by intros; simp [inputConversion]

@[simp] theorem execConversionEnd_key : ∀ a0 a1 a2 a3 a4 a5 a6 s, Keeps s (execConversionEnd a0 a1 a2 a3 a4 a5 a6 s) := by intros; simp [execConversionEnd]

@[simp] theorem execProtectionTrip_key : ∀ a0 a1 a2 a3 a4 s, Keeps s (execProtectionTrip a0 a1 a2 a3 a4 s) := by intros; simp [execProtectionTrip]

@[simp] theorem execProtectionReconnect_key : ∀ a0 a1 s, Keeps s (execProtectionReconnect a0 a1 s) := by intros; simp [execProtectionReconnect]

@[simp] theorem connectChan_key : ∀ a0 s, key (connectChan a0 s) = key s := by intros; simp [connectChan]

@[simp] theorem startLaneOut_key : ∀ a0 s, key (startLaneOut a0 s) = key s := by
  intros; simp only [startLaneOut]; (repeat' split) <;> simp

@[simp] theorem startChan_key : ∀ a0 s, key (startChan a0 s) = key s := by intros; simp [startChan]

@[simp] theorem execBayStart_key : ∀ a0 a1 s, Keeps s (execBayStart a0 a1 s) := by intros; simp [execBayStart]

@[simp] theorem setPairFaults_key : ∀ a0 s, key (setPairFaults a0 s) = key s := by intros; simp [setPairFaults]

@[simp] theorem setPairFault_key : ∀ a0 a1 s, key (setPairFault a0 a1 s) = key s := by intros; simp [setPairFault]

@[simp] theorem sendBeat_key : ∀ s, key (sendBeat s) = key s := by intros; simp [sendBeat]

@[simp] theorem setShutOut_key : ∀ a0 s, key (setShutOut a0 s) = key s := by intros; simp [setShutOut]

@[simp] theorem gatesMoved_key : ∀ s, key (gatesMoved s) = key s := by intros; simp [gatesMoved]

@[simp] theorem clearClaims_key : ∀ s, key (clearClaims s) = key s := by intros; simp [clearClaims]

@[simp] theorem setClaims_key : ∀ s, key (setClaims s) = key s := by intros; simp [setClaims]

@[simp] theorem releaseOwn_key : ∀ s, key (releaseOwn s) = key s := by intros; simp [releaseOwn]

@[simp] theorem releaseClaim_key : ∀ s, key (releaseClaim s) = key s := by intros; simp [releaseClaim]

@[simp] theorem declareFault_key : ∀ a0 s, key (declareFault a0 s) = key s := by
  intros; simp only [declareFault]; (repeat' split) <;> simp

@[simp] theorem abandonCommit_key : ∀ s, key (abandonCommit s) = key s := by
  intros; simp only [abandonCommit]; split <;> simp

@[simp] theorem commitYields_key : ∀ s, key (commitYields s) = key s := by
  intros; simp only [commitYields]; split <;> simp

@[simp] theorem commitTakes_key : ∀ s, key (commitTakes s) = key s := by
  intros; simp only [commitTakes]; split <;> simp

@[simp] theorem stepDown_key : ∀ a0 s, key (stepDown a0 s) = key s := by intros; simp [stepDown]

@[simp] theorem peerRises_key : ∀ s, key (peerRises s) = key s := by intros; simp [peerRises]

@[simp] theorem resyncRecord_key : ∀ a0 a1 s, key (resyncRecord a0 a1 s) = key s := by intros; simp [resyncRecord]

@[simp] theorem fillSample_key : ∀ a0 s, key (fillSample a0 s) = key s := by
  intros; simp only [fillSample]; (repeat' split) <;> simp

@[simp] theorem continueWork_key : ∀ s, key (continueWork s) = key s := by intros; simp [continueWork]

@[simp] theorem skipNumbers_key : ∀ s, key (skipNumbers s) = key s := by intros; simp [skipNumbers]

@[simp] theorem takeSessions_key : ∀ s, key (takeSessions s) = key s := by intros; simp [takeSessions]

@[simp] theorem drive_key : ∀ a0 a1 s, key (drive a0 a1 s) = key s := by intros; simp [drive]

@[simp] theorem switchRecord_key : ∀ a0 a1 s, key (switchRecord a0 a1 s) = key s := by intros; simp [switchRecord]

@[simp] theorem takeResult_key : ∀ a0 s, key (takeResult a0 s) = key s := by intros; simp [takeResult]

@[simp] theorem takeSup_key : ∀ a0 s, key (takeSup a0 s) = key s := by intros; simp [takeSup]

@[simp] theorem takeHart_key : ∀ a0 a1 s, key (takeHart a0 a1 s) = key s := by intros; simp [takeHart]

@[simp] theorem takeLamp_key : ∀ a0 s, key (takeLamp a0 s) = key s := by intros; simp [takeLamp]

@[simp] theorem takeInputs_key : ∀ a0 s, key (takeInputs a0 s) = key s := by
  intros; simp only [takeInputs]; (repeat' split) <;> simp

@[simp] theorem pendingInputs_key : ∀ s, key (pendingInputs s) = key s := by
  intros; simp only [pendingInputs]; split <;> simp

@[simp] theorem startData_key : ∀ s, key (startData s) = key s := by
  intros; simp only [startData]; (repeat' split) <;> simp

@[simp] theorem advanceBell_key : ∀ s, key (advanceBell s) = key s := by
  intros; simp only [advanceBell]; (repeat' split) <;> simp

@[simp] theorem claimDuty_key : ∀ a0 a1 a2 s, key (claimDuty a0 a1 a2 s) = key s := by intros; simp [claimDuty]

@[simp] theorem reclaim_key : ∀ a0 s, key (reclaim a0 s) = key s := by intros; simp [reclaim]

@[simp] theorem takeover_key : ∀ a0 a1 a2 s, key (takeover a0 a1 a2 s) = key s := by intros; simp [takeover]

@[simp] theorem judge_key : ∀ s, key (judge s) = key s := by
  intros; simp only [judge]; (repeat' split) <;> simp

@[simp] theorem compareRefs_key : ∀ s, key (compareRefs s) = key s := by intros; simp [compareRefs]

@[simp] theorem applyHart_key : ∀ a0 a1 a2 s, key (applyHart a0 a1 a2 s) = key s := by intros; simp [applyHart]

@[simp] theorem applySup_key : ∀ a0 a1 s, key (applySup a0 a1 s) = key s := by intros; simp [applySup]

@[simp] theorem dropCapture_key : ∀ a0 s, key (dropCapture a0 s) = key s := by
  intros; simp only [dropCapture]; split <;> simp

@[simp] theorem startFunction_key : ∀ a0 s, key (startFunction a0 s) = key s := by intros; simp [startFunction]

@[simp] theorem dueAgain_key : ∀ a0 s, key (dueAgain a0 s) = key s := by intros; simp [dueAgain]

@[simp] theorem followColdTest_key : ∀ a0 s, key (followColdTest a0 s) = key s := by
  intros; simp only [followColdTest]; (repeat' split) <;> simp

@[simp] theorem applyChan_key : ∀ a0 a1 a2 s, key (applyChan a0 a1 a2 s) = key s := by intros; simp [applyChan]

@[simp] theorem bayFollow_key : ∀ a0 s, key (bayFollow a0 s) = key s := by
  intros; simp only [bayFollow]; split <;> simp

@[simp] theorem applyLane_key : ∀ a0 a1 a2 s, key (applyLane a0 a1 a2 s) = key s := by intros; simp [applyLane]

@[simp] theorem applyPhase_key : ∀ a0 s, key (applyPhase a0 s) = key s := by intros; simp [applyPhase]

@[simp] theorem resetSlot_key : ∀ a0 s, key (resetSlot a0 s) = key s := by intros; simp [resetSlot]

@[simp] theorem followPorts_key : ∀ a0 s, key (followPorts a0 s) = key s := by
  intros; simp only [followPorts]; (repeat' split) <;> simp

@[simp] theorem fillBucket_key : ∀ a0 s, key (fillBucket a0 s) = key s := by
  intros; simp only [fillBucket]; (repeat' split) <;> simp

@[simp] theorem applyRest_key (target : Cfg) (s : State) : key (applyRest target s) = key s := by
  simp only [applyRest]; split <;> simp

@[simp] theorem setCause_key : ∀ a0 a1 s, key (setCause a0 a1 s) = key s := by intros; simp [setCause]

@[simp] theorem countReset_key (src : Nat) (kind : ResetKind) (s : State) : key (countReset src kind s) = key s := by
  rw [countReset, State.modPower_key, State.modNd_key]; rfl

@[simp] theorem resetRecord_key : ∀ s, key (resetRecord s) = key s := by intros; simp [resetRecord]

@[simp] theorem markReset_key : ∀ a0 a1 s, key (markReset a0 a1 s) = key s := by intros; simp [markReset]

@[simp] theorem enterBoot_key : ∀ s, key (enterBoot s) = key s := by intros; simp [enterBoot]

@[simp] theorem firmwareRecord_key : ∀ a0 a1 a2 s, key (firmwareRecord a0 a1 a2 s) = key s := by intros; simp [firmwareRecord]

@[simp] theorem calRecord_key : ∀ a0 s, key (calRecord a0 s) = key s := by intros; simp [calRecord]

@[simp] theorem checkLive_key : ∀ s, key (checkLive s) = key s := by intros; simp [checkLive]

@[simp] theorem bootChecks_key : ∀ s, key (bootChecks s) = key s := by intros; simp [bootChecks]

@[simp] theorem calBoot_key : ∀ s, key (calBoot s) = key s := by
  intros; simp only [calBoot]; split <;> simp

@[simp] theorem loseSessions_key : ∀ a0 s, key (loseSessions a0 s) = key s := by intros; simp [loseSessions]

@[simp] theorem stopPulses_key : ∀ s, key (stopPulses s) = key s := by intros; simp [stopPulses]

@[simp] theorem loseAll_key (s : State) : key (loseAll s) = key s :=
  show key (stopPulses s) = key s from stopPulses_key s

@[simp] theorem rebuildTrends_key : ∀ s, key (rebuildTrends s) = key s := by intros; simp [rebuildTrends]

@[simp] theorem bootLoad_key : ∀ s, key (bootLoad s) = key s := by intros; simp [bootLoad]

@[simp] theorem payOwed_key : ∀ s, key (payOwed s) = key s := by intros; simp [payOwed]

@[simp] theorem bootEntry_key : ∀ s, key (bootEntry s) = key s := by intros; simp [bootEntry]

@[simp] theorem ringLoad_key : ∀ s, key (ringLoad s) = key s := by intros; simp [ringLoad]

@[simp] theorem dipRecord_key : ∀ a0 s, key (dipRecord a0 s) = key s := by
  intros; simp only [dipRecord]; split <;> simp

@[simp] theorem closeDip_key : ∀ a0 s, key (closeDip a0 s) = key s := by
  intros; simp only [closeDip]; (repeat' split) <;> simp

@[simp] theorem coldReset_key : ∀ a0 a1 s, key (coldReset a0 a1 s) = key s := by intros; simp [coldReset]

@[simp] theorem setRefs_key : ∀ a0 a1 s, key (setRefs a0 a1 s) = key s := by intros; simp [setRefs]

@[simp] theorem failTrial_key : ∀ s, key (failTrial s) = key s := by intros; simp [failTrial]

@[simp] theorem warmState_key (src : Nat) (s : State) : key (warmState src s) = key s := (rfl)

@[simp] theorem keepSweep_key : ∀ s, key (keepSweep s) = key s := by
  intros; simp only [keepSweep]; (repeat' split) <;> simp

@[simp] theorem govSpace_key : ∀ a0 a1 s, key (govSpace a0 a1 s) = key s := by
  intros; simp only [govSpace]; split <;> simp

@[simp] theorem warmReset_key (src : Nat) (s : State) : key (warmReset src s) = key s := by
  unfold warmReset
  simp

@[simp] theorem warmSource_key : ∀ a0 a1 s, key (warmSource a0 a1 s) = key s := by intros; simp [warmSource]

@[simp] theorem lanesOut_key : ∀ s, key (lanesOut s) = key s := by intros; simp [lanesOut]

@[simp] theorem outputsSafe_key : ∀ s, key (outputsSafe s) = key s := by intros; simp [outputsSafe]

@[simp] theorem clearControlFault_key : ∀ s, key (clearControlFault s) = key s := by intros; simp [clearControlFault]

@[simp] theorem enterSafe_key : ∀ a0 s, key (enterSafe a0 s) = key s := by intros; simp [enterSafe]

@[simp] theorem controlFault_key : ∀ s, key (controlFault s) = key s := by
  intros; simp only [controlFault]; (repeat' split) <;> simp

@[simp] theorem mgmtRestart_key : ∀ s, key (mgmtRestart s) = key s := by intros; simp [mgmtRestart]

@[simp] theorem powerOff_key : ∀ s, key (powerOff s) = key s := by intros; simp [powerOff]

@[simp] theorem readSfp_key : ∀ a0 s, key (readSfp a0 s) = key s := by
  intros; simp only [readSfp]; (repeat' split) <;> simp

@[simp] theorem powerUp_key : ∀ a0 s, key (powerUp a0 s) = key s := by intros; simp [powerUp]

end Sys2Proof.Machine
end

