-- ==== Sys2Proof/Laws/KeepPower.lean ====
section
/-! SUPPORT. Key lemmas: supply, modes and the governor. -/

namespace Sys2Proof.Machine

@[simp] theorem execPwrStatus_key : ∀ a0 s, Keeps s (execPwrStatus a0 s) := by intros; simp [execPwrStatus]

@[simp] theorem pwrClearBody_key : ∀ a0 a1 s, key (pwrClearBody a0 a1 s).2.2 = key s := by
  intros; simp only [pwrClearBody]; split <;> simp

@[simp] theorem execPwrClear_key : ∀ a0 s, Keeps s (execPwrClear a0 s) := by intros; simp [execPwrClear]

@[simp] theorem settlePort_key (port k : Nat) (s : State) : key (settlePort port k s) = key s := by
  induction k generalizing s with
  | zero => rfl
  | succ k ih =>
    simp only [settlePort]
    split
    · rfl
    · split
      · split
        · rename_i h; simp [ih, intakeRec_key _ _ _ h]
        · rfl
      · simp [ih]

@[simp] theorem settleHistory_key : ∀ s, key (settleHistory s) = key s := by intros; simp [settleHistory]

@[simp] theorem flushReplies_key : ∀ s, key (flushReplies s) = key s := by intros; simp [flushReplies]

@[simp] theorem commandedReset_key : ∀ a0 s, key (commandedReset a0 s) = key s := by intros; simp [commandedReset]

@[simp] theorem nodeResetBody_key : ∀ a0 a1 a2 s, key (nodeResetBody a0 a1 a2 s) = key s := by intros; simp [nodeResetBody]

@[simp] theorem execNodeReset_key : ∀ a0 s, Keeps s (execNodeReset a0 s) := by intros; simp [execNodeReset]

@[simp] theorem bootOutput_key : ∀ a0 s, key (bootOutput a0 s) = key s := by intros; simp [bootOutput]

@[simp] theorem bootOutputs_key : ∀ s, key (bootOutputs s) = key s := by intros; simp [bootOutputs]

@[simp] theorem enterResync_key : ∀ s, key (enterResync s) = key s := by intros; simp [enterResync]

@[simp] theorem unproveLanes_key : ∀ s, key (unproveLanes s) = key s := by intros; simp [unproveLanes]

@[simp] theorem leaveFor_key : ∀ a0 s, key (leaveFor a0 s) = key s := by
  intros; simp only [leaveFor]; split <;> simp

@[simp] theorem askCommission_key : ∀ s, key (askCommission s) = key s := by intros; simp [askCommission]

theorem leaveCommission_key (s t : State) (h : leaveCommission s = some t) : key t = key s := by
  simp only [leaveCommission] at h
  (repeat' split at h) <;> simp at h <;> subst h <;> simp

@[simp] theorem beginHandover_key : ∀ a0 a1 s, key (beginHandover a0 a1 s) = key s := by intros; simp [beginHandover]

theorem modeSet_key (target : Nat) (confirm : Bool) (s t : State) (h : modeSet target confirm s = some t) : key t = key s := by
  simp only [modeSet] at h
  (repeat' split at h) <;> first
    | exact leaveCommission_key _ _ h
    | (simp at h; done)
    | (simp at h; subst h; simp)

@[simp] theorem modeSetBody_key (cls : Rights) (tk : Ticket) (pl : List Byte) (s : State) :
    key (modeSetBody cls tk pl s) = key s := by
  simp only [modeSetBody]
  (repeat' split) <;> first
    | (simp; done)
    | (rename_i h; simp [modeSet_key _ _ _ _ h])

@[simp] theorem execModeSet_key : ∀ a0 s, Keeps s (execModeSet a0 s) := by intros; simp [execModeSet]

@[simp] theorem goDormant_key : ∀ a0 s, key (goDormant a0 s) = key s := by intros; simp [goDormant]

@[simp] theorem nodeDormantBody_key : ∀ a0 a1 a2 s, key (nodeDormantBody a0 a1 a2 s) = key s := by intros; simp [nodeDormantBody]

@[simp] theorem execNodeDormant_key : ∀ a0 s, Keeps s (execNodeDormant a0 s) := by intros; simp [execNodeDormant]

@[simp] theorem execSupplyOvervoltage_key : ∀ a0 a1 a2 s, Keeps s (execSupplyOvervoltage a0 a1 a2 s) := by intros; simp [execSupplyOvervoltage]

@[simp] theorem noteDip_key : ∀ a0 a1 s, key (noteDip a0 a1 s) = key s := by intros; simp [noteDip]

@[simp] theorem beginDip_key : ∀ a0 s, key (beginDip a0 s) = key s := by
  intros; simp only [beginDip]; split <;> simp

@[simp] theorem freezeOutput_key : ∀ s a0, key (freezeOutput s a0) = key s := by intros; simp [freezeOutput]

@[simp] theorem enterHold_key : ∀ s, key (enterHold s) = key s := by intros; simp [enterHold]

@[simp] theorem execSupplyWarningConfirmed_key : ∀ a0 a1 s, Keeps s (execSupplyWarningConfirmed a0 a1 s) := by intros; simp [execSupplyWarningConfirmed]

@[simp] theorem execSupplyWarningCleared_key : ∀ a0 a1 a2 a3 s, Keeps s (execSupplyWarningCleared a0 a1 a2 a3 s) := by intros; simp [execSupplyWarningCleared]

@[simp] theorem resumeChan_key : ∀ a0 s, key (resumeChan a0 s) = key s := by intros; simp [resumeChan]

@[simp] theorem dropUnkept_key (s : State) : key (dropUnkept s) = key s := (rfl)

@[simp] theorem leaveHold_key : ∀ s, key (leaveHold s) = key s := by intros; simp [leaveHold]

@[simp] theorem execHoldLimitExpire_key : ∀ a0 s, Keeps s (execHoldLimitExpire a0 s) := by
  intros; simp only [execHoldLimitExpire]; split <;> simp

@[simp] theorem execResetThresholdConfirmed_key : ∀ a0 a1 a2 a3 s, Keeps s (execResetThresholdConfirmed a0 a1 a2 a3 s) := by intros; simp [execResetThresholdConfirmed]

@[simp] theorem execLogicDomainOff_key : ∀ a0 s, Keeps s (execLogicDomainOff a0 s) := by
  intros; simp only [execLogicDomainOff]; split <;> simp

@[simp] theorem usePins_key : ∀ a0 s, key (usePins a0 s) = key s := by intros; simp [usePins]

@[simp] theorem powerOn_key : ∀ a0 s, key (powerOn a0 s) = key s := by intros; simp [powerOn]

@[simp] theorem wakeUp_key : ∀ a0 s, key (wakeUp a0 s) = key s := by intros; simp [wakeUp]

@[simp] theorem execInputLost_key : ∀ a0 a1 a2 a3 s, Keeps s (execInputLost a0 a1 a2 a3 s) := by intros; simp [execInputLost]

@[simp] theorem execCellTest_key : ∀ a0 a1 a2 s, Keeps s (execCellTest a0 a1 a2 s) := by intros; simp [execCellTest]

@[simp] theorem execBackupLow_key : ∀ a0 a1 a2 s, Keeps s (execBackupLow a0 a1 a2 s) := by intros; simp [execBackupLow]

@[simp] theorem execNresetAssert_key : ∀ a0 s, Keeps s (execNresetAssert a0 s) := by intros; simp [execNresetAssert]

@[simp] theorem execNresetShort_key : ∀ a0 s, Keeps s (execNresetShort a0 s) := by intros; simp [execNresetShort]

@[simp] theorem releaseHold_key : ∀ s, key (releaseHold s) = key s := by intros; simp [releaseHold]

@[simp] theorem execNresetRelease_key : ∀ a0 s, Keeps s (execNresetRelease a0 s) := by intros; simp [execNresetRelease]

@[simp] theorem execNresetStuck_key : ∀ a0 s, Keeps s (execNresetStuck a0 s) := by intros; simp [execNresetStuck]

@[simp] theorem execNresetStuckClear_key : ∀ a0 s, Keeps s (execNresetStuckClear a0 s) := by intros; simp [execNresetStuckClear]

@[simp] theorem stopWrites_key : ∀ s, key (stopWrites s) = key s := by intros; simp [stopWrites]

@[simp] theorem execLockstepMismatch_key : ∀ a0 s, Keeps s (execLockstepMismatch a0 s) := by intros; simp [execLockstepMismatch]

@[simp] theorem execControlPlaneFault_key : ∀ a0 s, Keeps s (execControlPlaneFault a0 s) := by intros; simp [execControlPlaneFault]

@[simp] theorem execCtrlWindowExpire_key : ∀ a0 s, Keeps s (execCtrlWindowExpire a0 s) := by
  intros; simp only [execCtrlWindowExpire]; split <;> simp

@[simp] theorem execLogicClockFail_key : ∀ a0 s, Keeps s (execLogicClockFail a0 s) := by intros; simp [execLogicClockFail]

@[simp] theorem execLogicRailFail_key : ∀ a0 s, Keeps s (execLogicRailFail a0 s) := by intros; simp [execLogicRailFail]

@[simp] theorem execDormantWake_key : ∀ a0 s, Keeps s (execDormantWake a0 s) := by
  intros; simp only [execDormantWake]; split <;> simp

@[simp] theorem execSeatContactOpen_key : ∀ a0 s, Keeps s (execSeatContactOpen a0 s) := by intros; simp [execSeatContactOpen]

@[simp] theorem execWithdrawStagingDone_key : ∀ a0 s, Keeps s (execWithdrawStagingDone a0 s) := by intros; simp [execWithdrawStagingDone]

@[simp] theorem execSeatContactClose_key : ∀ a0 a1 s, Keeps s (execSeatContactClose a0 a1 s) := by intros; simp [execSeatContactClose]

@[simp] theorem rejectImage_key : ∀ a0 s, key (rejectImage a0 s) = key s := by intros; simp [rejectImage]

@[simp] theorem runImage_key : ∀ a0 s, key (runImage a0 s) = key s := by intros; simp [runImage]

@[simp] theorem bootImage_key : ∀ a0 s, key (bootImage a0 s).2 = key s := by
  intros; simp only [bootImage]; (repeat' split) <;> simp

@[simp] theorem soloDecision_key : ∀ s, key (soloDecision s) = key s := by intros; simp [soloDecision]

@[simp] theorem bootToll_key : ∀ a0 s, key (bootToll a0 s) = key s := by intros; simp [bootToll]

@[simp] theorem bootFails_key : ∀ s, key (bootFails s) = key s := by intros; simp [bootFails]

@[simp] theorem execBootDecision_key : ∀ a0 a1 a2 a3 a4 s, Keeps s (execBootDecision a0 a1 a2 a3 a4 s) := by
  intros; simp only [execBootDecision]; (repeat' split) <;> simp

@[simp] theorem pairDecision_key : ∀ s, key (pairDecision s) = key s := by
  intros; simp only [pairDecision]; split <;> simp

@[simp] theorem execBootPairDecision_key : ∀ a0 s, Keeps s (execBootPairDecision a0 s) := by intros; simp [execBootPairDecision]

@[simp] theorem execBootRedecide_key : ∀ a0 s, Keeps s (execBootRedecide a0 s) := by intros; simp [execBootRedecide]

@[simp] theorem execThermalTrip_key : ∀ a0 a1 s, Keeps s (execThermalTrip a0 a1 s) := by intros; simp [execThermalTrip]

@[simp] theorem govRecord_key : ∀ a0 a1 s, key (govRecord a0 a1 s) = key s := by intros; simp [govRecord]

@[simp] theorem takeStep_key : ∀ s, key (takeStep s) = key s := by
  intros; simp only [takeStep]; split <;> simp

@[simp] theorem giveStep_key : ∀ s, key (giveStep s) = key s := by
  intros; simp only [giveStep]; split <;> simp

@[simp] theorem followRate_key : ∀ a0 s, key (followRate a0 s) = key s := by
  intros; simp only [followRate]; split <;> simp

@[simp] theorem followGovernor_key : ∀ s, key (followGovernor s) = key s := by intros; simp [followGovernor]

@[simp] theorem freeIneligible_key : ∀ s, key (freeIneligible s) = key s := by intros; simp [freeIneligible]

@[simp] theorem noteDraw_key : ∀ a0 a1 a2 s, key (noteDraw a0 a1 a2 s) = key s := by intros; simp [noteDraw]

@[simp] theorem execGovernorTick_key : ∀ a0 a1 a2 a3 a4 s, Keeps s (execGovernorTick a0 a1 a2 a3 a4 s) := by
  intros; simp only [execGovernorTick]; (repeat' split) <;> simp

@[simp] theorem setPeerPres_key : ∀ a0 s, key (setPeerPres a0 s) = key s := by intros; simp [setPeerPres]

@[simp] theorem execIdentityScan_key : ∀ a0 a1 a2 a3 s, Keeps s (execIdentityScan a0 a1 a2 a3 s) := by intros; simp [execIdentityScan]

@[simp] theorem execStrapChange_key : ∀ a0 a1 a2 s, Keeps s (execStrapChange a0 a1 a2 s) := by intros; simp [execStrapChange]

@[simp] theorem execCtrlStall_key : ∀ a0 s, Keeps s (execCtrlStall a0 s) := by intros; simp [execCtrlStall]

@[simp] theorem execFabricStall_key : ∀ a0 s, Keeps s (execFabricStall a0 s) := by intros; simp [execFabricStall]

@[simp] theorem ringRestart_key : ∀ s, key (ringRestart s) = key s := by intros; simp [ringRestart]

@[simp] theorem execDataStall_key : ∀ a0 s, Keeps s (execDataStall a0 s) := by intros; simp [execDataStall]

@[simp] theorem execMgmtStall_key : ∀ a0 s, Keeps s (execMgmtStall a0 s) := by intros; simp [execMgmtStall]

@[simp] theorem engineLost_key : ∀ a0 s, key (engineLost a0 s) = key s := by intros; simp [engineLost]

@[simp] theorem execBayFault_key : ∀ a0 a1 s, Keeps s (execBayFault a0 a1 s) := by intros; simp [execBayFault]

end Sys2Proof.Machine
end

