-- ==== Sys2Proof/Laws/KeepService.lean ====
section
/-! SUPPORT. Key lemmas: commits, the control cycle, the pair, sessions, configuration, bulk transfers and the Toll partition. -/

namespace Sys2Proof.Machine

@[simp] theorem beginWrite_key : ∀ a0 a1 a2 a3 a4 s, key (beginWrite a0 a1 a2 a3 a4 s) = key s := by intros; simp [beginWrite]

@[simp] theorem startCommit_key (cls : Rights) (tk : Ticket) (revert : Bool) (changes : List Change) (target : Cfg) (s : State) :
    key (startCommit cls tk revert changes target s) = key s := by
  unfold startCommit
  split
  · simp
  · dsimp only
    split <;> simp

@[simp] theorem beginPhases_key : ∀ s, key (beginPhases s) = key s := by
  intros; simp only [beginPhases]; split <;> simp

@[simp] theorem programBank_key : ∀ s, key (programBank s) = key s := by
  intros; simp only [programBank]; split <;> simp

@[simp] theorem execCommitBankWritten_key : ∀ a0 s, Keeps s (execCommitBankWritten a0 s) := by
  intros; simp only [execCommitBankWritten]; split <;> simp

@[simp] theorem peerSettled_key : ∀ a0 s, key (peerSettled a0 s) = key s := by
  intros; simp only [peerSettled]; split <;> simp

@[simp] theorem execCommitPeerAck_key : ∀ a0 s, Keeps s (execCommitPeerAck a0 s) := by
  intros; simp only [execCommitPeerAck]; split <;> simp

@[simp] theorem execCommitPeerTimeout_key : ∀ a0 s, Keeps s (execCommitPeerTimeout a0 s) := by
  intros; simp only [execCommitPeerTimeout]; split <;> simp

@[simp] theorem beginFreezing_key : ∀ a0 s, key (beginFreezing a0 s) = key s := by intros; simp [beginFreezing]

@[simp] theorem lastPhase_key : ∀ a0 s, key (lastPhase a0 s) = key s := by intros; simp [lastPhase]

@[simp] theorem applyStep_key : ∀ a0 a1 a2 s, key (applyStep a0 a1 a2 s) = key s := by intros; simp [applyStep]

@[simp] theorem takePhase_key : ∀ a0 a1 s, key (takePhase a0 a1 s).2 = key s := by
  intros; simp only [takePhase]; (repeat' split) <;> simp

@[simp] theorem returnStaging_key : ∀ a0 s, key (returnStaging a0 s) = key s := by intros; simp [returnStaging]

@[simp] theorem refuseCommit_key : ∀ a0 a1 s, key (refuseCommit a0 a1 s) = key s := by
  intros; simp only [refuseCommit]; split <;> simp

@[simp] theorem commitBank_key : ∀ a0 s, key (commitBank a0 s) = key s := by intros; simp [commitBank]

@[simp] theorem endCommit_key : ∀ a0 a1 s, key (endCommit a0 a1 s) = key s := by
  intros; simp only [endCommit]; split <;> simp

@[simp] theorem readAck_key : ∀ a0 s, key (readAck a0 s) = key s := by
  intros; simp only [readAck]; (repeat' split) <;> simp

@[simp] theorem nextRequest_key : ∀ s, key (nextRequest s) = key s := by
  intros; simp only [nextRequest]; (repeat' split) <;> simp

@[simp] theorem execMailboxAck_key : ∀ a0 s, Keeps s (execMailboxAck a0 s) := by
  intros; simp only [execMailboxAck]; split <;> simp

@[simp] theorem execFreezeLimit_key : ∀ a0 s, Keeps s (execFreezeLimit a0 s) := by intros; simp [execFreezeLimit]

@[simp] theorem execPeerCommitRx_key : ∀ a0 a1 a2 s, Keeps s (execPeerCommitRx a0 a1 a2 s) := by intros; simp [execPeerCommitRx]

@[simp] theorem followedCommit_key : ∀ s, key (followedCommit s) = key s := by
  intros; simp only [followedCommit]; (repeat' split) <;> simp

@[simp] theorem followPhase_key : ∀ a0 a1 s, key (followPhase a0 a1 s) = key s := by
  intros; simp only [followPhase]; split <;> simp

@[simp] theorem pairClear_key : ∀ s, key (pairClear s) = key s := by intros; simp [pairClear]

@[simp] theorem applyCommand_key : ∀ a0 a1 a2 s, key (applyCommand a0 a1 a2 s).2.2 = key s := by
  intros; simp only [applyCommand]; (repeat' split) <;> simp

@[simp] theorem applyLaneCommand_key : ∀ a0 a1 a2 s, key (applyLaneCommand a0 a1 a2 s).2.2 = key s := by
  intros; simp only [applyLaneCommand]; (repeat' split) <;> simp

@[simp] theorem applyCal_key : ∀ a0 s, key (applyCal a0 s) = key s := by intros; simp [applyCal]

@[simp] theorem notePanelAck_key : ∀ a0 a1 a2 s, key (notePanelAck a0 a1 a2 s) = key s := by
  intros; simp only [notePanelAck]; (repeat' split) <;> simp

@[simp] theorem takeWork_key : ∀ a0 s, key (takeWork a0 s).2 = key s := by
  intros; simp only [takeWork]; split <;> simp

@[simp] theorem takeLaneWork_key : ∀ a0 a1 s, key (takeLaneWork a0 a1 s).2 = key s := by
  intros; simp only [takeLaneWork]; split <;> simp

@[simp] theorem takeAll_key (f : MbxWork → State → (MbxWork × Nat × List Byte) × State)
    (h : ∀ w s, key (f w s).2 = key s) (ws : List MbxWork) (s : State) : key (takeAll f ws s).2 = key s := by
  suffices g : ∀ x : List (MbxWork × Nat × List Byte) × State,
      key (ws.foldl (fun (xs, s) w => let (x, s1) := f w s; (xs ++ [x], s1)) x).2 = key x.2 from g ([], s)
  induction ws with
  | nil => intro x; rfl
  | cons w ws ih => intro x; simp [ih, h]

@[simp] theorem takeShadowCommand_key : ∀ a0 s, key (takeShadowCommand a0 s) = key s := by
  intros; simp only [takeShadowCommand]; split <;> simp

@[simp] theorem takeEntry_key : ∀ a0 s, key (takeEntry a0 s) = key s := by intros; simp [takeEntry]

@[simp] theorem takePartI_key : ∀ a0 s, key (takePartI a0 s) = key s := by
  intros; simp only [takePartI]; split <;> simp

@[simp] theorem countDiffer_key : ∀ a0 a1 s, key (countDiffer a0 a1 s) = key s := by intros; simp [countDiffer]

@[simp] theorem compareParts_key : ∀ a0 s, key (compareParts a0 s) = key s := by intros; simp [compareParts]

@[simp] theorem applyOutput_key : ∀ a0 a1 a2 s, key (applyOutput a0 a1 a2 s) = key s := by intros; simp [applyOutput]

@[simp] theorem takePartC_key : ∀ a0 s, key (takePartC a0 s) = key s := by intros; simp [takePartC]

@[simp] theorem ownFunction_key : ∀ a0 s, key (ownFunction a0 s) = key s := by
  intros; simp only [ownFunction]; split <;> simp

@[simp] theorem applyXfer_key : ∀ a0 s, key (applyXfer a0 s) = key s := by
  intros; simp only [applyXfer]; (repeat' split) <;> simp

@[simp] theorem boundaryOutputs_key : ∀ s, key (boundaryOutputs s) = key s := by intros; simp [boundaryOutputs]

@[simp] theorem syncBay_key : ∀ a0 s, key (syncBay a0 s) = key s := by
  intros; simp only [syncBay]; (repeat' split) <;> simp

@[simp] theorem syncPulse_key : ∀ s, key (syncPulse s) = key s := by intros; simp [syncPulse]

@[simp] theorem renewClaims_key : ∀ s, key (renewClaims s) = key s := by intros; simp [renewClaims]

@[simp] theorem captureCounts_key : ∀ s, key (captureCounts s) = key s := by intros; simp [captureCounts]

@[simp] theorem boundaryWork_key : ∀ s, key (boundaryWork s) = key s := by intros; simp [boundaryWork]

@[simp] theorem computeLanes_key : ∀ a0 s, key (computeLanes a0 s) = key s := by intros; simp [computeLanes]

@[simp] theorem sendLanes_key : ∀ s, key (sendLanes s) = key s := by intros; simp [sendLanes]

@[simp] theorem carryRefs_key : ∀ s, key (carryRefs s) = key s := by intros; simp [carryRefs]

@[simp] theorem computeOutputs_key : ∀ s, key (computeOutputs s) = key s := by intros; simp [computeOutputs]

@[simp] theorem writeImage_key : ∀ s, key (writeImage s) = key s := by intros; simp [writeImage]

@[simp] theorem sendParts_key : ∀ a0 s, key (sendParts a0 s) = key s := by intros; simp [sendParts]

@[simp] theorem takeShadowLane_key : ∀ a0 s, key (takeShadowLane a0 s) = key s := by
  intros; simp only [takeShadowLane]; (repeat' split) <;> simp

@[simp] theorem shadowCycle_key : ∀ a0 s, key (shadowCycle a0 s) = key s := by
  intros; simp only [shadowCycle]; (repeat' split) <;> simp

@[simp] theorem computePhase_key (arms : List ArmReading) (s : State) : key (computePhase arms s).2 = key s := by
  have h : key (takeAll (takeLaneWork arms) (s.request.filter MbxWork.isLane)
      (computeLanes arms (takeAll takeWork (s.request.filter fun w => !w.isLane) s).2)).2 = key s := by
    rw [takeAll_key _ (by simp), computeLanes_key, takeAll_key _ (by simp)]
  simp only [computePhase]
  split <;> simp [h]

@[simp] theorem countReadback_key : ∀ s, key (countReadback s) = key s := by intros; simp [countReadback]

@[simp] theorem computeTime_key : ∀ s, key (computeTime s) = key s := by intros; simp [computeTime]

@[simp] theorem boundaryStart_key (s : State) : key (boundaryStart s) = key s := by
  rw [boundaryStart, boundaryWork_key]
  split
  · simp
  · rfl

@[simp] theorem takeLeft_key : ∀ s, key (takeLeft s) = key s := by
  intros; simp only [takeLeft]; (repeat' split) <;> simp

@[simp] theorem cycleWork_key (arms : List ArmReading) (s : State) : key (cycleWork arms s).2 = key s := by
  simp only [cycleWork]
  split
  · split <;> simp [takeAll_key]
  · simp

@[simp] theorem endCycle_key (took : List (MbxWork × Nat × List Byte)) (s : State) : key (endCycle took s) = key s := by
  simp only [endCycle]
  split <;> simp

@[simp] theorem runCycle_key (arms : List ArmReading) (s : State) : key (runCycle arms s) = key s := by
  have h : ∀ (r : List (MbxWork × Nat × List Byte) × State), key r.2 = key s → key (endCycle r.1 r.2) = key s :=
    fun r hr => (endCycle_key r.1 r.2).trans hr
  exact h _ ((cycleWork_key arms _).trans (boundaryStart_key s))

@[simp] theorem execControlCycleBoundary_key : ∀ a0 s, Keeps s (execControlCycleBoundary a0 s) := by intros; simp [execControlCycleBoundary]

@[simp] theorem execHoldExit_key : ∀ a0 s, Keeps s (execHoldExit a0 s) := by intros; simp [execHoldExit]

@[simp] theorem execCycleOverrun_key (s : State) : Keeps s (execCycleOverrun s) := by
  have h : ∀ s1 s2 : State, key s1 = key s → key s2 = key s1 →
      Keeps s (if !s1.cycling then .next s1
        else .next (((s2.count 0 1).count 1 1).modNd fun d => { d with overrunRun := d.overrunRun + 1 })) := by
    intro s1 s2 h1 h2
    rw [keeps_ite]
    split
    · exact (keeps_next _ _).2 h1
    · simp [h1, h2]
  exact h _ _ (by simp) (boundaryStart_key _)

@[simp] theorem execFwStatus_key : ∀ a0 s, Keeps s (execFwStatus a0 s) := by intros; simp [execFwStatus]

@[simp] theorem switchSlots_key : ∀ a0 s, key (switchSlots a0 s) = key s := by intros; simp [switchSlots]

@[simp] theorem switchImage_key : ∀ a0 a1 s, key (switchImage a0 a1 s) = key s := by intros; simp [switchImage]

@[simp] theorem startSwitch_key : ∀ a0 a1 s, key (startSwitch a0 a1 s) = key s := by intros; simp [startSwitch]

@[simp] theorem fwActivateBody_key : ∀ a0 a1 a2 s, key (fwActivateBody a0 a1 a2 s) = key s := by intros; simp [fwActivateBody]

@[simp] theorem execFwActivate_key : ∀ a0 s, Keeps s (execFwActivate a0 s) := by intros; simp [execFwActivate]

@[simp] theorem fwRollbackBody_key : ∀ a0 a1 a2 s, key (fwRollbackBody a0 a1 a2 s) = key s := by intros; simp [fwRollbackBody]

@[simp] theorem execFwRollback_key : ∀ a0 s, Keeps s (execFwRollback a0 s) := by intros; simp [execFwRollback]

@[simp] theorem fwConfirmBody_key : ∀ a0 a1 s, key (fwConfirmBody a0 a1 s).2.2 = key s := by
  intros; simp only [fwConfirmBody]; (repeat' split) <;> simp

@[simp] theorem execFwConfirm_key : ∀ a0 s, Keeps s (execFwConfirm a0 s) := by intros; simp [execFwConfirm]

@[simp] theorem execFwTrialExpire_key : ∀ a0 s, Keeps s (execFwTrialExpire a0 s) := by
  intros; simp only [execFwTrialExpire]; split <;> simp

@[simp] theorem completeHandover_key : ∀ s, key (completeHandover s) = key s := by
  intros; simp only [completeHandover]; split <;> simp

@[simp] theorem noteLane_key : ∀ a0 s, key (noteLane a0 s) = key s := by intros; simp [noteLane]

@[simp] theorem laneFaults_key : ∀ a0 s, key (laneFaults a0 s) = key s := by intros; simp [laneFaults]

@[simp] theorem peerFaults_key : ∀ a0 s, key (peerFaults a0 s) = key s := by intros; simp [peerFaults]

@[simp] theorem followTime_key : ∀ a0 s, key (followTime a0 s) = key s := by intros; simp [followTime]

@[simp] theorem resyncDone_key : ∀ s, key (resyncDone s) = key s := by
  intros; simp only [resyncDone]; (repeat' split) <;> simp

@[simp] theorem receiveBeat_key : ∀ a0 a1 s, key (receiveBeat a0 a1 s) = key s := by intros; simp [receiveBeat]

@[simp] theorem execHeartbeatRx_key : ∀ a0 a1 a2 s, Keeps s (execHeartbeatRx a0 a1 a2 s) := by intros; simp [execHeartbeatRx]

@[simp] theorem execHeartbeatLoss_key : ∀ a0 s, Keeps s (execHeartbeatLoss a0 s) := by intros; simp [execHeartbeatLoss]

@[simp] theorem execPairLaneFallback_key : ∀ a0 s, Keeps s (execPairLaneFallback a0 s) := by intros; simp [execPairLaneFallback]

@[simp] theorem execPartIRx_key : ∀ a0 a1 s, Keeps s (execPartIRx a0 a1 s) := by
  intros; simp only [execPartIRx]; (repeat' split) <;> simp

@[simp] theorem execPartCRx_key : ∀ a0 a1 s, Keeps s (execPartCRx a0 a1 s) := by intros; simp [execPartCRx]

@[simp] theorem execReadbackMismatch_key : ∀ a0 a1 a2 s, Keeps s (execReadbackMismatch a0 a1 a2 s) := by intros; simp [execReadbackMismatch]

@[simp] theorem passImage_key : ∀ s, key (passImage s) = key s := by
  intros; simp only [passImage]; (repeat' split) <;> simp

@[simp] theorem disagreed_key : ∀ a0 s, key (disagreed a0 s) = key s := by intros; simp [disagreed]

@[simp] theorem execDisagree_key : ∀ a0 a1 s, Keeps s (execDisagree a0 a1 s) := by intros; simp [execDisagree]

@[simp] theorem takeRefNote_key : ∀ a0 s, key (takeRefNote a0 s) = key s := by
  intros; simp only [takeRefNote]; (repeat' split) <;> simp

@[simp] theorem execPairRefCheck_key : ∀ a0 a1 s, Keeps s (execPairRefCheck a0 a1 s) := by
  intros; simp only [execPairRefCheck]; (repeat' split) <;> simp

@[simp] theorem execForcedRelease_key : ∀ a0 s, Keeps s (execForcedRelease a0 s) := by intros; simp [execForcedRelease]

@[simp] theorem execTakeoverYieldCheck_key : ∀ a0 s, Keeps s (execTakeoverYieldCheck a0 s) := by
  intros; simp only [execTakeoverYieldCheck]; split <;> simp

@[simp] theorem execSluiceYield_key : ∀ a0 s, Keeps s (execSluiceYield a0 s) := by intros; simp [execSluiceYield]

@[simp] theorem execSluicePeerReleased_key : ∀ a0 s, Keeps s (execSluicePeerReleased a0 s) := by intros; simp [execSluicePeerReleased]

@[simp] theorem execSluiceReclaim_key : ∀ a0 s, Keeps s (execSluiceReclaim a0 s) := by
  intros; simp only [execSluiceReclaim]; split <;> simp

@[simp] theorem execSluiceShutIn_key : ∀ a0 a1 s, Keeps s (execSluiceShutIn a0 a1 s) := by intros; simp [execSluiceShutIn]

@[simp] theorem execSluiceWatchdogExpire_key : ∀ a0 s, Keeps s (execSluiceWatchdogExpire a0 s) := by intros; simp [execSluiceWatchdogExpire]

@[simp] theorem followOwnLoop_key : ∀ s, key (followOwnLoop s) = key s := by
  intros; simp only [followOwnLoop]; (repeat' split) <;> simp

@[simp] theorem execSluiceLoopFault_key : ∀ a0 a1 a2 s, Keeps s (execSluiceLoopFault a0 a1 a2 s) := by intros; simp [execSluiceLoopFault]

@[simp] theorem execHandoverClaim_key : ∀ a0 s, Keeps s (execHandoverClaim a0 s) := by
  intros; simp only [execHandoverClaim]; split <;> simp

@[simp] theorem execHandoverTimeout_key : ∀ a0 s, Keeps s (execHandoverTimeout a0 s) := by
  intros; simp only [execHandoverTimeout]; split <;> simp

@[simp] theorem takeBank_key : ∀ a0 s, key (takeBank a0 s) = key s := by intros; simp [takeBank]

@[simp] theorem takeTime_key : ∀ a0 s, key (takeTime a0 s) = key s := by intros; simp [takeTime]

@[simp] theorem takePoint_key : ∀ a0 s, key (takePoint a0 s) = key s := by intros; simp [takePoint]

@[simp] theorem takeBaseline_key : ∀ a0 s, key (takeBaseline a0 s) = key s := by intros; simp [takeBaseline]

@[simp] theorem takeStates_key : ∀ a0 s, key (takeStates a0 s) = key s := by intros; simp [takeStates]

@[simp] theorem takeTail_key : ∀ a0 s, key (takeTail a0 s) = key s := by intros; simp [takeTail]

theorem resyncWork_key (m : ResyncMsg) (s t : State) (h : resyncWork m s = some t) : key t = key s := by
  simp only [resyncWork] at h
  (repeat' split at h) <;> simp at h <;> subst h <;> simp

@[simp] theorem resyncStep_key (m : ResyncMsg) (s : State) : key (resyncStep m s) = key s := by
  simp only [resyncStep]
  (repeat' split) <;> first
    | (simp; done)
    | (rename_i h _; simp [resyncWork_key _ _ _ h])

@[simp] theorem execResyncStep_key : ∀ a0 a1 s, Keeps s (execResyncStep a0 a1 s) := by intros; simp [execResyncStep]

@[simp] theorem execPairRecordRx_key (t : Nat) (r : RecCopy) (s : State) : Keeps s (execPairRecordRx t r s) := by
  simp only [execPairRecordRx]
  split
  · simp
  · split
    · rw [keeps_next, intakeRec_getD_key _ _ _ (by simp)]; simp
    · split <;> simp

@[simp] theorem execPairStatus_key : ∀ a0 s, Keeps s (execPairStatus a0 s) := by intros; simp [execPairStatus]

@[simp] theorem pairClearBody_key : ∀ a0 a1 s, key (pairClearBody a0 a1 s).2.2 = key s := by
  intros; simp only [pairClearBody]; (repeat' split) <;> simp

@[simp] theorem execPairClear_key : ∀ a0 s, Keeps s (execPairClear a0 s) := by intros; simp [execPairClear]

@[simp] theorem pairAdoptBody_key : ∀ a0 a1 s, key (pairAdoptBody a0 a1 s).2.2 = key s := by
  intros; simp only [pairAdoptBody]; (repeat' split) <;> simp

@[simp] theorem execPairAdopt_key : ∀ a0 s, Keeps s (execPairAdopt a0 s) := by intros; simp [execPairAdopt]

@[simp] theorem execPeerPresOpen_key : ∀ a0 s, Keeps s (execPeerPresOpen a0 s) := by intros; simp [execPeerPresOpen]

@[simp] theorem openSession_key : ∀ a0 a1 a2 a3 a4 a5 s, key (openSession a0 a1 a2 a3 a4 a5 s) = key s := by intros; simp [openSession]

@[simp] theorem sessOpenBody_key : ∀ a0 a1 a2 s, key (sessOpenBody a0 a1 a2 s) = key s := by
  intros; simp only [sessOpenBody]; (repeat' split) <;> simp

@[simp] theorem execSessOpen_key : ∀ a0 s, Keeps s (execSessOpen a0 s) := by intros; simp [execSessOpen]

@[simp] theorem sessCloseBody_key : ∀ a0 a1 a2 s, key (sessCloseBody a0 a1 a2 s) = key s := by intros; simp [sessCloseBody]

@[simp] theorem execSessClose_key : ∀ a0 s, Keeps s (execSessClose a0 s) := by intros; simp [execSessClose]

@[simp] theorem execSessStatus_key : ∀ a0 s, Keeps s (execSessStatus a0 s) := by intros; simp [execSessStatus]

@[simp] theorem execNodeIdent_key : ∀ a0 s, Keeps s (execNodeIdent a0 s) := by intros; simp [execNodeIdent]

@[simp] theorem memPeekBody_key : ∀ a0 a1 s, key (memPeekBody a0 a1 s).2.2 = key s := by
  intros; simp only [memPeekBody]; (repeat' split) <;> simp

@[simp] theorem execMemPeek_key : ∀ a0 s, Keeps s (execMemPeek a0 s) := by intros; simp [execMemPeek]

@[simp] theorem pokeFields_key (k off : Nat) (data : List Byte) (fs : List (Nat × Nat × FieldKind)) (s : State) :
    key (pokeFields k off data fs s).2.2 = key s := by
  induction fs generalizing s with
  | nil => rfl
  | cons f fs ih =>
    obtain ⟨o, n, kind⟩ := f
    unfold pokeFields
    split
    · simp [ih]
    · dsimp only
      split <;> simp [ih]
    · exact ih s

@[simp] theorem memPokeBody_key : ∀ a0 a1 s, key (memPokeBody a0 a1 s).2.2 = key s := by
  intros; simp only [memPokeBody]; split <;> simp

@[simp] theorem execMemPoke_key : ∀ a0 s, Keeps s (execMemPoke a0 s) := by intros; simp [execMemPoke]

@[simp] theorem execSessionIdleExpire_key : ∀ a0 a1 s, Keeps s (execSessionIdleExpire a0 a1 s) := by intros; simp [execSessionIdleExpire]

@[simp] theorem execSessionTableRx_key (t : Nat) (tab : List SessCopy) (s : State) : Keeps s (execSessionTableRx t tab s) := by
  simp only [execSessionTableRx]
  split
  · simp
  · rw [keeps_next, key_foldl _ (by intros; split <;> simp)]; simp

@[simp] theorem execPeerReplyRx_key : ∀ a0 a1 a2 s, Keeps s (execPeerReplyRx a0 a1 a2 s) := by
  intros; simp only [execPeerReplyRx]; (repeat' split) <;> simp

@[simp] theorem takeDatagram_key : ∀ a0 a1 a2 a3 a4 s, key (takeDatagram a0 a1 a2 a3 a4 s) = key s := by
  intros; simp only [takeDatagram]; (repeat' split) <;> simp

@[simp] theorem execSvcDatagram_key : ∀ a0 a1 s, Keeps s (execSvcDatagram a0 a1 s) := by
  intros; simp only [execSvcDatagram]; (repeat' split) <;> simp

@[simp] theorem cfgWriteBody_key : ∀ a0 a1 s, key (cfgWriteBody a0 a1 s).2.2 = key s := by
  intros; simp only [cfgWriteBody]; (repeat' split) <;> simp

@[simp] theorem execCfgWrite_key : ∀ a0 s, Keeps s (execCfgWrite a0 s) := by intros; simp [execCfgWrite]

@[simp] theorem cfgReadBody_key : ∀ a0 a1 s, key (cfgReadBody a0 a1 s).2.2 = key s := by
  intros; simp only [cfgReadBody]; (repeat' split) <;> simp

@[simp] theorem execCfgRead_key : ∀ a0 s, Keeps s (execCfgRead a0 s) := by intros; simp [execCfgRead]

@[simp] theorem cfgCommitBody_key : ∀ a0 a1 a2 s, key (cfgCommitBody a0 a1 a2 s) = key s := by intros; simp [cfgCommitBody]

@[simp] theorem execCfgCommit_key : ∀ a0 s, Keeps s (execCfgCommit a0 s) := by intros; simp [execCfgCommit]

@[simp] theorem cfgDiscardBody_key : ∀ a0 a1 s, key (cfgDiscardBody a0 a1 s).2.2 = key s := by
  intros; simp only [cfgDiscardBody]; (repeat' split) <;> simp

@[simp] theorem execCfgDiscard_key : ∀ a0 s, Keeps s (execCfgDiscard a0 s) := by intros; simp [execCfgDiscard]

@[simp] theorem execCfgStatus_key : ∀ a0 s, Keeps s (execCfgStatus a0 s) := by intros; simp [execCfgStatus]

@[simp] theorem cfgRevertBody_key : ∀ a0 a1 a2 s, key (cfgRevertBody a0 a1 a2 s) = key s := by
  intros; simp only [cfgRevertBody]; (repeat' split) <;> simp

@[simp] theorem execCfgRevert_key : ∀ a0 s, Keeps s (execCfgRevert a0 s) := by intros; simp [execCfgRevert]

@[simp] theorem calStatusBody_key : ∀ a0 a1 s, key (calStatusBody a0 a1 s).2.2 = key s := by
  intros; simp only [calStatusBody]; (repeat' split) <;> simp

@[simp] theorem execCalStatus_key : ∀ a0 s, Keeps s (execCalStatus a0 s) := by intros; simp [execCalStatus]

@[simp] theorem execTollIdent_key : ∀ a0 s, Keeps s (execTollIdent a0 s) := by intros; simp [execTollIdent]

@[simp] theorem tollReadBody_key : ∀ a0 a1 s, key (tollReadBody a0 a1 s).2.2 = key s := by
  intros; simp only [tollReadBody]; (repeat' split) <;> simp

@[simp] theorem execTollRead_key : ∀ a0 s, Keeps s (execTollRead a0 s) := by intros; simp [execTollRead]

@[simp] theorem tollLogReadBody_key : ∀ a0 a1 s, key (tollLogReadBody a0 a1 s).2.2 = key s := by
  intros; simp only [tollLogReadBody]; (repeat' split) <;> simp

@[simp] theorem execTollLogRead_key : ∀ a0 s, Keeps s (execTollLogRead a0 s) := by intros; simp [execTollLogRead]

@[simp] theorem tollCommand_key (may : State → Bool) (act : Ticket → State → List Byte × State)
    (hm : ∀ s, may s = true → s.toll.state ≠ .absent) (h : ∀ tk s, s.toll.state ≠ .absent → key (act tk s).2 = key s)
    (cls : Rights) (tk : Ticket) (pl : List Byte) (s : State) : key (tollCommand may act cls tk pl s) = key s := by
  simp only [tollCommand]
  split
  · simp
  · split
    · simp
    · rename_i hc
      have hp : s.toll.state ≠ .absent := hm s (by simp at hc; exact hc.2)
      rw [finish_key, h tk _ (present_of_key (inProgress_key tk s) hp), inProgress_key]

@[simp] theorem turnChan_key : ∀ a0 a1 a2 s, key (turnChan a0 a1 a2 s) = key s := by intros; simp [turnChan]

theorem turnBays_key (state : TollState) (s : State) (h : state ≠ .absent) (hs : s.toll.state ≠ .absent) :
    key (turnBays state s) = key s := by
  have hk : key (s.modToll fun t => { t with state := state }) = key s := by
    rw [State.modToll_key, ← key_eta s]
    simp [h, hs]
  simp only [turnBays]
  rw [key_foldl _ (by intros; simp), key_foldl _ (by intros; simp), key_mk, key_eta]
  exact hk

@[simp] theorem modPoints_key : ∀ a0 s, key (modPoints a0 s) = key s := by intros; simp [modPoints]

theorem sealPartition_key (tk : Ticket) (s : State) (hs : s.toll.state ≠ .absent) : key (sealPartition tk s).2 = key s := by
  unfold sealPartition
  extract_lets s1
  have h1 : key s1 = key s := by simp [s1]
  clear_value s1
  dsimp only
  have h2 : ∀ ev args, key (modPoints (fun x => { x with count := none }) (tollEntry ev args s1)) = key s := by
    intros; simp [h1]
  rw [turnBays_key _ _ (by simp) (present_of_key (h2 _ _) hs)]
  exact h2 _ _

@[simp] theorem execTollSeal_key (rq : Request) (s : State) : Keeps s (execTollSeal rq s) := by
  rw [execTollSeal, keeps_next]
  refine runPacket_key _ _ _ (fun _ _ _ _ => tollCommand_key _ _ (fun s h => ?_) sealPartition_key _ _ _ _) _
  simp only [State.maySeal, Bool.and_eq_true, decide_eq_true_eq] at h
  simp [h]

theorem unsealPartition_key (tk : Ticket) (s : State) (hs : s.toll.state ≠ .absent) : key (unsealPartition tk s).2 = key s := by
  unfold unsealPartition
  extract_lets s1
  have h1 : key s1 = key s := by simp [s1]
  clear_value s1
  dsimp only
  have h2 : key (modPoints (fun x => { x with quality := 8 }) s1) = key s := by simp [h1]
  rw [turnBays_key _ _ (by simp) (present_of_key h2 hs)]
  exact h2

@[simp] theorem execTollUnseal_key (rq : Request) (s : State) : Keeps s (execTollUnseal rq s) := by
  rw [execTollUnseal, keeps_next]
  refine runPacket_key _ _ _ (fun _ _ _ _ => tollCommand_key _ _ (fun s h => ?_) unsealPartition_key _ _ _ _) _
  simp only [State.tollOwns, Bool.and_eq_true, Bool.or_eq_true, decide_eq_true_eq] at h
  rcases h.1 with h | h <;> simp [h]

@[simp] theorem State.tollTemp_key : ∀ s a0, key (State.tollTemp s a0).2 = key s := by
  intros; simp only [State.tollTemp]; (repeat' split) <;> simp

@[simp] theorem faultEntry_key : ∀ a0 a1 s, key (faultEntry a0 a1 s) = key s := by
  intros; simp only [faultEntry]; split <;> simp

@[simp] theorem flowPoint_key : ∀ a0 s, key (flowPoint a0 s) = key s := by intros; simp [flowPoint]

@[simp] theorem tankPoint_key : ∀ a0 s, key (tankPoint a0 s) = key s := by
  intros; simp only [tankPoint]; split <;> simp

@[simp] theorem netPoint_key : ∀ a0 s, key (netPoint a0 s) = key s := by intros; simp [netPoint]

@[simp] theorem capturePoints_key : ∀ s, key (capturePoints s) = key s := by intros; simp [capturePoints]

@[simp] theorem flipToll_key : ∀ a0 s, key (flipToll a0 s) = key s := by intros; simp [flipToll]

@[simp] theorem tollCapture_key : ∀ s, key (tollCapture s) = key s := by intros; simp [tollCapture]

@[simp] theorem execTollCapture_key : ∀ a0 s, Keeps s (execTollCapture a0 s) := by intros; simp [execTollCapture]

@[simp] theorem execTollFault_key : ∀ a0 s, Keeps s (execTollFault a0 s) := by intros; simp [execTollFault]

@[simp] theorem execTollStall_key : ∀ a0 s, Keeps s (execTollStall a0 s) := by intros; simp [execTollStall]

@[simp] theorem execTollCheckpoint_key : ∀ a0 s, Keeps s (execTollCheckpoint a0 s) := by intros; simp [execTollCheckpoint]

@[simp] theorem execTollSealBroken_key : ∀ a0 a1 a2 s, Keeps s (execTollSealBroken a0 a1 a2 s) := by
  intros; simp only [execTollSealBroken]; (repeat' split) <;> simp

@[simp] theorem execTollPeerPresent_key : ∀ a0 s, Keeps s (execTollPeerPresent a0 s) := by
  intros; simp only [execTollPeerPresent]; split <;> simp

@[simp] theorem sessionCommand_key : ∀ a0 a1 s, key (sessionCommand a0 a1 s) = key s := by intros; simp [sessionCommand]

@[simp] theorem ntfSubscribeBody_key : ∀ a0 a1 s, key (ntfSubscribeBody a0 a1 s).2.2 = key s := by
  intros; simp only [ntfSubscribeBody]; split <;> simp

@[simp] theorem execNtfSubscribe_key : ∀ a0 s, Keeps s (execNtfSubscribe a0 s) := by intros; simp [execNtfSubscribe]

@[simp] theorem ntfMaskBody_key : ∀ a0 a1 s, key (ntfMaskBody a0 a1 s).2.2 = key s := by
  intros; simp only [ntfMaskBody]; split <;> simp

@[simp] theorem execNtfMask_key : ∀ a0 s, Keeps s (execNtfMask a0 s) := by intros; simp [execNtfMask]

@[simp] theorem ntfStatusBody_key : ∀ a0 a1 s, key (ntfStatusBody a0 a1 s).2.2 = key s := by
  intros; simp only [ntfStatusBody]; split <;> simp

@[simp] theorem execNtfStatus_key : ∀ a0 s, Keeps s (execNtfStatus a0 s) := by intros; simp [execNtfStatus]

@[simp] theorem takeCounters_key : ∀ s, key (takeCounters s).2 = key s := by intros; simp [takeCounters]

@[simp] theorem perfReadBody_key : ∀ a0 a1 s, key (perfReadBody a0 a1 s).2.2 = key s := by
  intros; simp only [perfReadBody]; split <;> simp

@[simp] theorem execPerfRead_key : ∀ a0 s, Keeps s (execPerfRead a0 s) := by intros; simp [execPerfRead]

@[simp] theorem sendNotification_key : ∀ a0 s, key (sendNotification a0 s) = key s := by intros; simp [sendNotification]

@[simp] theorem execNotifyHoldExpire_key : ∀ a0 a1 s, Keeps s (execNotifyHoldExpire a0 a1 s) := by intros; simp [execNotifyHoldExpire]

@[simp] theorem execTraceSync_key : ∀ a0 s, Keeps s (execTraceSync a0 s) := by intros; simp [execTraceSync]

@[simp] theorem execTraceCounters_key : ∀ a0 s, Keeps s (execTraceCounters a0 s) := by intros; simp [execTraceCounters]

@[simp] theorem readObject_key : ∀ a0 s, key (readObject a0 s).2 = key s := by
  intros; simp only [readObject]; split <;> simp

@[simp] theorem openTransfer_key : ∀ a0 a1 a2 a3 a4 a5 s, key (openTransfer a0 a1 a2 a3 a4 a5 s).2.2 = key s := by
  intros; simp only [openTransfer]; (repeat' split) <;> simp

@[simp] theorem bulkOpenBody_key (tk : Ticket) (pl : List Byte) (s : State) : key (bulkOpenBody tk pl s).2.2 = key s := by
  simp only [bulkOpenBody]
  (repeat' split) <;> first
    | rfl
    | (simp; done)
    | (rename_i h; have h := congrArg (fun x => key x.2) h; simp at h; simpa using h.symm)

@[simp] theorem execBulkOpen_key : ∀ a0 s, Keeps s (execBulkOpen a0 s) := by intros; simp [execBulkOpen]

@[simp] theorem modBulk_key : ∀ a0 a1 s, key (modBulk a0 a1 s) = key s := by intros; simp [modBulk]

@[simp] theorem bulkWriteBody_key : ∀ a0 a1 s, key (bulkWriteBody a0 a1 s).2.2 = key s := by
  intros; simp only [bulkWriteBody]; (repeat' split) <;> simp

@[simp] theorem execBulkWrite_key : ∀ a0 s, Keeps s (execBulkWrite a0 s) := by intros; simp [execBulkWrite]

@[simp] theorem bulkReadBody_key : ∀ a0 a1 s, key (bulkReadBody a0 a1 s).2.2 = key s := by
  intros; simp only [bulkReadBody]; (repeat' split) <;> simp

@[simp] theorem execBulkRead_key : ∀ a0 s, Keeps s (execBulkRead a0 s) := by intros; simp [execBulkRead]

@[simp] theorem freeMissing_key : ∀ s, key (freeMissing s).2 = key s := by intros; simp [freeMissing]

@[simp] theorem bulkCloseBody_key : ∀ a0 a1 a2 s, key (bulkCloseBody a0 a1 a2 s) = key s := by
  intros; simp only [bulkCloseBody]; (repeat' split) <;> simp

@[simp] theorem execBulkClose_key : ∀ a0 s, Keeps s (execBulkClose a0 s) := by intros; simp [execBulkClose]

@[simp] theorem ownConfig_key : ∀ a0 a1 s, key (ownConfig a0 a1 s).2.2 = key s := by
  intros; simp only [ownConfig]; (repeat' split) <;> simp

@[simp] theorem passCal_key : ∀ a0 s, key (passCal a0 s) = key s := by intros; simp [passCal]

@[simp] theorem ownCal_key : ∀ a0 s, key (ownCal a0 s).2.2 = key s := by
  intros; simp only [ownCal]; (repeat' split) <;> simp

@[simp] theorem ownFirmware_key : ∀ a0 s, key (ownFirmware a0 s).2.2 = key s := by
  intros; simp only [ownFirmware]; split <;> simp

@[simp] theorem ownTollFirmware_key : ∀ a0 s, key (ownTollFirmware a0 s).2.2 = key s := by
  intros; simp only [ownTollFirmware]; (repeat' split) <;> simp

@[simp] theorem bulkStatusBody_key : ∀ a0 a1 s, key (bulkStatusBody a0 a1 s).2.2 = key s := by
  intros; simp only [bulkStatusBody]; (repeat' split) <;> simp

@[simp] theorem execBulkStatus_key : ∀ a0 s, Keeps s (execBulkStatus a0 s) := by intros; simp [execBulkStatus]

@[simp] theorem execBulkIdleExpire_key : ∀ a0 a1 s, Keeps s (execBulkIdleExpire a0 a1 s) := by
  intros; simp only [execBulkIdleExpire]; split <;> simp

end Sys2Proof.Machine
end

