-- ==== Sys2Proof/Laws/KeepRows.lean ====
section
/-! SUPPORT. What a command does to the key: four rows reach past it, and none breaks what holds in every state. -/

namespace Sys2Proof.Machine

/-- A property that only the key decides. -/
def Respects (P : State → Prop) : Prop := ∀ a b, key a = key b → P b → P a

theorem sound_respects : Respects Sound := by
  intro a b h
  simp only [key, Prod.mk.injEq, decide_eq_decide, eq_iff_iff] at h
  obtain ⟨h1, h2, h3, h4, h5, _⟩ := h
  simp only [Sound, h1, h2, h3, h4, h5]
  exact id

theorem runPacket_pres {P : State → Prop} (hP : Respects P) (op : Nat) (rq : Request)
    (body : Rights → Ticket → List Byte → State → State) (h : ∀ c tk pl s, P s → P (body c tk pl s)) (s : State) (hs : P s) :
    P (runPacket op rq body s) := by
  have hb : P (s.begin rq.t) := hP _ _ (by simp) hs
  simp only [runPacket]
  split
  · simp only [runRequest]
    split
    · split
      · exact hP _ _ (by simp) hb
      · split
        · exact h _ _ _ _ (hP _ _ (by simp) hb)
        · exact hP _ _ (by simp) hb
    · exact hP _ _ (by simp) hb
  · exact hb

theorem execBramWrite_sound (rq : Request) (s t : State) (h : execBramWrite rq s = .next t) (hs : Sound s) : Sound t := by
  simp only [execBramWrite, answerNow, Host.Outcome.next.injEq] at h
  subst h
  refine runPacket_pres sound_respects _ _ _ (fun c tk pl s hs => ?_) s hs
  refine sound_respects _ _ (finish_key ..) ?_
  simp only [bramWriteBody]
  split
  · exact hs
  · rename_i hc
    simp only [Bool.or_eq_true, decide_eq_true_eq, Bool.not_eq_true', not_or, ne_eq, Decidable.not_not, Bool.not_eq_false, userOk,
      Bool.and_eq_true] at hc
    refine ⟨hs.1, hs.2.1, ?_, hs.2.2.2⟩
    have h64 := hs.2.2.1
    simp only [State.modClk, overlay, List.length_append, fit_length, List.length_drop, h64]
    omega

theorem clearLog_sound (tk : Ticket) (s : State) (hs : Sound s) : Sound (clearLog tk s).2 :=
  sound_respects _ _ (tollEntry_key ..) ⟨hs.1, trivial, hs.2.2⟩

theorem execTollLogClear_sound (rq : Request) (s t : State) (h : execTollLogClear rq s = .next t) (hs : Sound s) : Sound t := by
  simp only [execTollLogClear, Host.Outcome.next.injEq] at h
  subst h
  refine runPacket_pres sound_respects _ _ _ (fun c tk pl s hs => ?_) s hs
  simp only [tollCommand]
  split
  · exact sound_respects _ _ (finish_key ..) hs
  · split
    · exact sound_respects _ _ (finish_key ..) hs
    · exact sound_respects _ _ (finish_key ..) (clearLog_sound _ _ (sound_respects _ _ (inProgress_key ..) hs))

theorem ownTollSet_sound (bs : List Byte) (s : State) (hs : Sound s) : Sound (ownTollSet bs s).2.2 := by
  unfold ownTollSet
  split
  · exact hs
  · dsimp only
    split
    · exact hs
    · split
      · exact hs
      · exact sound_respects _ _ (tollEntry_key ..) hs

theorem ownTollSet_sealed (bs : List Byte) (s : State) (hs : s.tollOwns = true) : (ownTollSet bs s).2.2 = s := by
  unfold ownTollSet
  split
  · rfl
  · simp [hs]

theorem execBulkCloseDone_sealed (t : Nat) (h : Fin 4) (s : State) (hs : (s.begin t).tollOwns = true) :
    Keeps s (execBulkCloseDone t h s) := by
  simp only [execBulkCloseDone]
  split
  · simp
  · split
    · simp
    · split
      · simp
      · rw [keeps_next, finish_key, freeMissing_key, endBulk_key]
        unfold ownerHandles
        split <;> simp [ownTollSet_sealed _ _ hs]

theorem ownerHandles_sound (tk : Ticket) (b : Bulk) (s : State) (hs : Sound s) : Sound (ownerHandles tk b s).2.2 := by
  unfold ownerHandles
  split
  · exact sound_respects _ _ (by simp) hs
  · exact sound_respects _ _ (by simp) hs
  · exact sound_respects _ _ (by simp) hs
  · exact ownTollSet_sound _ _ hs
  · exact sound_respects _ _ (by simp) hs

theorem execBulkCloseDone_sound (t : Nat) (h : Fin 4) (s s' : State) (he : execBulkCloseDone t h s = .next s') (hs : Sound s) :
    Sound s' := by
  have hb : Sound (s.begin t) := sound_respects _ _ (by simp) hs
  simp only [execBulkCloseDone] at he
  split at he
  · simp at he; exact he ▸ hb
  · split at he
    · simp at he; exact he ▸ hb
    · split at he
      · simp at he; exact he ▸ hb
      · simp only [Host.Outcome.next.injEq] at he
        subst he
        refine sound_respects _ _ (by rw [finish_key, freeMissing_key, endBulk_key]) (ownerHandles_sound _ _ _ hb)

theorem execResetThresholdCleared_sound (t : Nat) (sup : Supply) (pins : Pins) (lost : Bool) (s s' : State)
    (he : execResetThresholdCleared t sup pins lost s = .next s') (hs : Sound s) : Sound s' := by
  have hb : Sound (s.begin t) := sound_respects _ _ (by simp) hs
  simp only [execResetThresholdCleared] at he
  split at he
  · exact Host.Outcome.next.inj he ▸ hb
  · split at he
    · obtain rfl := Host.Outcome.next.inj he
      refine sound_respects _ _ (powerOn_key ..) ?_
      have hp : Sound (usePins pins (((s.begin t).modPower fun p => { p with supply := sup, resetSet := false, warnSet := false }).modNd
          fun d => { d with hasRun := false })) := sound_respects _ _ (by simp) hb
      split
      · exact ⟨hp.1, hp.2.1, rfl, hp.2.2.2⟩
      · exact hp
    · split at he <;> obtain rfl := Host.Outcome.next.inj he <;> exact sound_respects _ _ (by simp) hb

/-- The four commands that reach past the key: USER, the Toll log emptied, the Toll parameter set, the millpond lost. -/
def reachesKey (i : Instr) : Bool :=
  match i with
  | .bramWrite _ => true
  | .tollLogClear _ => true
  | .bulkCloseDone _ _ => true
  | .resetThresholdCleared _ _ _ _ => true
  | _ => false

theorem exec_keeps (i : Instr) (s : State) (h : reachesKey i = false) : Keeps s (exec i s) := by
  cases i <;> first | (simp [exec]; done) | (simp [reachesKey] at h)

end Sys2Proof.Machine
end

