-- ==== Sys2Proof/Laws/Table.lean ====
section
/-! SUPPORT. Sparse tables and byte memories: reading after writing, and the canonical form. -/

namespace Sys2Proof.Machine

variable {α : Type}

@[simp] theorem tget_nil (d : α) (k : Nat) : tget d [] k = d := rfl

theorem tget_tput_same (d : α) (k : Nat) (v : α) (t : Tbl α) : tget d (tput k v t) k = v := by
  induction t with
  | nil => simp [tput, tget]
  | cons e t ih =>
    obtain ⟨j, w⟩ := e
    simp only [tput]
    split
    · simp [tget]
    · split
      · simp [tget]
      · rename_i h1 h2
        simp [tget, Ne.symm h2, ih]

theorem tget_tput_ne (d : α) (k j : Nat) (v : α) (t : Tbl α) (h : j ≠ k) : tget d (tput k v t) j = tget d t j := by
  induction t with
  | nil => simp [tput, tget, Ne.symm h]
  | cons e t ih =>
    obtain ⟨i, w⟩ := e
    simp only [tput]
    split
    · simp [tget, Ne.symm h]
    · split
      · rename_i h1 h2
        subst h2
        simp [tget, Ne.symm h]
      · simp [tget, ih]

theorem tget_tdel_ne (d : α) (k j : Nat) (t : Tbl α) (h : j ≠ k) : tget d (tdel k t) j = tget d t j := by
  induction t with
  | nil => rfl
  | cons e t ih =>
    obtain ⟨i, w⟩ := e
    simp only [tdel]
    split
    · rename_i hi
      simp [tget, hi, Ne.symm h, ih]
    · simp [tget, ih]

/-- Deleting a key leaves the default there. -/
theorem tget_tdel_same (d : α) (k : Nat) (t : Tbl α) : tget d (tdel k t) k = d := by
  induction t with
  | nil => rfl
  | cons e t ih =>
    obtain ⟨j, w⟩ := e
    simp only [tdel]
    split
    · exact ih
    · rename_i hj
      simp [tget, hj, ih]

/-- The table from `lo` on lists no key below `lo`. -/
theorem tget_below [DecidableEq α] (d : α) (t : Tbl α) (lo k : Nat) (h : twfFrom d lo t = true) (hk : k < lo) :
    tget d t k = d := by
  induction t generalizing lo with
  | nil => rfl
  | cons e t ih =>
    obtain ⟨j, w⟩ := e
    simp only [twfFrom, Bool.and_eq_true, decide_eq_true_eq] at h
    have hj : j ≠ k := by omega
    simp [tget, hj, ih (j + 1) h.2 (by omega)]

theorem twfFrom_mono [DecidableEq α] (d : α) (t : Tbl α) (lo lo' : Nat) (h : twfFrom d lo t = true) (hl : lo' ≤ lo) :
    twfFrom d lo' t = true := by
  cases t with
  | nil => rfl
  | cons e t =>
    obtain ⟨j, w⟩ := e
    simp only [twfFrom, Bool.and_eq_true, decide_eq_true_eq] at h ⊢
    exact ⟨⟨by omega, h.1.2⟩, h.2⟩

theorem twf_tput [DecidableEq α] (d : α) (k : Nat) (v : α) (hv : v ≠ d) (t : Tbl α) (lo : Nat) (h : twfFrom d lo t = true)
    (hk : lo ≤ k) : twfFrom d lo (tput k v t) = true := by
  induction t generalizing lo with
  | nil => simp [tput, twfFrom, hv, hk]
  | cons e t ih =>
    obtain ⟨j, w⟩ := e
    simp only [twfFrom, Bool.and_eq_true, decide_eq_true_eq] at h
    simp only [tput]
    split
    · simp only [twfFrom, Bool.and_eq_true, decide_eq_true_eq]
      exact ⟨⟨hk, hv⟩, ⟨by omega, h.1.2⟩, h.2⟩
    · split
      · rename_i h1 h2
        simp only [twfFrom, Bool.and_eq_true, decide_eq_true_eq]
        exact ⟨⟨hk, hv⟩, h2 ▸ h.2⟩
      · simp only [twfFrom, Bool.and_eq_true, decide_eq_true_eq]
        exact ⟨h.1, ih (j + 1) h.2 (by omega)⟩

theorem twf_tdel [DecidableEq α] (d : α) (k : Nat) (t : Tbl α) (lo : Nat) (h : twfFrom d lo t = true) :
    twfFrom d lo (tdel k t) = true := by
  induction t generalizing lo with
  | nil => rfl
  | cons e t ih =>
    obtain ⟨j, w⟩ := e
    simp only [twfFrom, Bool.and_eq_true, decide_eq_true_eq] at h
    simp only [tdel]
    split
    · exact twfFrom_mono d _ (j + 1) lo (ih (j + 1) h.2) (by omega)
    · simp only [twfFrom, Bool.and_eq_true, decide_eq_true_eq]
      exact ⟨h.1, ih (j + 1) h.2⟩

/-- A write keeps the canonical form. -/
theorem twf_tset [DecidableEq α] (d : α) (t : Tbl α) (k : Nat) (v : α) (h : twf d t = true) : twf d (tset d t k v) = true := by
  simp only [tset]
  split
  · exact twf_tdel d k t 0 h
  · rename_i hv
    exact twf_tput d k v hv t 0 h (by omega)

theorem twf_tmod [DecidableEq α] (d : α) (t : Tbl α) (k : Nat) (f : α → α) (h : twf d t = true) : twf d (tmod d t k f) = true :=
  twf_tset d t k _ h

theorem twf_tmap [DecidableEq α] (d : α) (f : Nat → α → α) (t : Tbl α) (lo : Nat) (h : twfFrom d lo t = true) :
    twfFrom d lo (tmap d f t) = true := by
  induction t generalizing lo with
  | nil => rfl
  | cons e t ih =>
    obtain ⟨j, w⟩ := e
    simp only [twfFrom, Bool.and_eq_true, decide_eq_true_eq] at h
    simp only [tmap]
    split
    · exact twf_tdel d j _ lo (twfFrom_mono d _ (j + 1) lo (ih (j + 1) h.2) (by omega))
    · rename_i hf
      simp only [twfFrom, Bool.and_eq_true, decide_eq_true_eq]
      exact ⟨⟨h.1.1, hf⟩, twf_tdel d j _ _ (ih (j + 1) h.2)⟩

/-- A write other than of the default is read back. -/
theorem tget_tset_new [DecidableEq α] (d : α) (t : Tbl α) (k : Nat) (v : α) (hv : v ≠ d) : tget d (tset d t k v) k = v := by
  simp [tset, hv, tget_tput_same]

/-- A write is read back. -/
theorem tget_tset_same [DecidableEq α] (d : α) (t : Tbl α) (k : Nat) (v : α) : tget d (tset d t k v) k = v := by
  by_cases hv : v = d
  · subst hv
    simp [tset, tget_tdel_same v k t]
  · exact tget_tset_new d t k v hv

theorem tget_tmod_same [DecidableEq α] (d : α) (t : Tbl α) (k : Nat) (f : α → α) : tget d (tmod d t k f) k = f (tget d t k) :=
  tget_tset_same d t k _

/-- What a pass over a table in which nothing becomes of the default leaves at each key. -/
theorem tget_tmap [DecidableEq α] (d : α) (f : Nat → α → α) (hd : ∀ k, f k d = d) (t : Tbl α) (k : Nat) :
    tget d (tmap d f t) k = f k (tget d t k) := by
  induction t with
  | nil => simp [tmap, hd]
  | cons e t ih =>
    obtain ⟨j, w⟩ := e
    by_cases hj : j = k
    · subst hj
      simp only [tmap]
      split
      · rename_i hf
        simp [tget, tget_tdel_same, hf]
      · simp [tget]
    · have hk : k ≠ j := fun h => hj h.symm
      simp only [tmap]
      split <;> simp [tget, hj, tget_tdel_ne d j k _ hk, ih]

/-- A write leaves the other keys alone. -/
theorem tget_tset_ne [DecidableEq α] (d : α) (t : Tbl α) (k j : Nat) (v : α) (h : j ≠ k) : tget d (tset d t k v) j = tget d t j := by
  simp only [tset]
  split
  · exact tget_tdel_ne d k j t h
  · exact tget_tput_ne d k j v t h

theorem memRead_write_ne (d : Byte) (m : ByteMem) (a b : Nat) (v : Byte) (h : b ≠ a) :
    memRead d (memWrite d m a v) b = memRead d m b := tget_tset_ne d m a b v h

theorem memRead_write_same (d : Byte) (m : ByteMem) (a : Nat) (v : Byte) :
    memRead d (memWrite d m a v) a = v := tget_tset_same d m a v

theorem twf_memWrite (d : Byte) (m : ByteMem) (a : Nat) (v : Byte) (h : twf d m = true) : twf d (memWrite d m a v) = true :=
  twf_tset d m a v h

theorem twf_memWriteN (d : Byte) (bs : List Byte) (m : ByteMem) (a : Nat) (h : twf d m = true) :
    twf d (memWriteN d m a bs) = true := by
  induction bs generalizing m a with
  | nil => exact h
  | cons b bs ih => exact ih _ _ (twf_memWrite d m a b h)

/-- A write of bytes leaves every byte before it and after it alone. -/
theorem memRead_writeN_out (d : Byte) (bs : List Byte) (m : ByteMem) (a b : Nat) (h : b < a ∨ a + bs.length ≤ b) :
    memRead d (memWriteN d m a bs) b = memRead d m b := by
  induction bs generalizing m a with
  | nil => rfl
  | cons x bs ih =>
    simp only [List.length_cons] at h
    rw [memWriteN, ih _ _ (by omega), memRead_write_ne d m a b x (by omega)]

/-- A write of bytes is read back. -/
theorem memReadN_writeN (d : Byte) (bs : List Byte) (m : ByteMem) (a : Nat) :
    memReadN d (memWriteN d m a bs) a bs.length = bs := by
  induction bs generalizing m a with
  | nil => rfl
  | cons x bs ih =>
    rw [List.length_cons, memReadN, memWriteN, memRead_writeN_out d bs _ (a + 1) a (by omega), memRead_write_same d m a x, ih]

end Sys2Proof.Machine
end

