-- ==== Sys2Proof/Laws/State.lean ====
section
/-! SUPPORT. What each update of the state does to each of its parts. -/

namespace Sys2Proof.Machine

@[simp] theorem State.modCh_pending (s : State) (k : Nat) (f : ChanRun → ChanRun) : (s.modCh k f).pending = s.pending := rfl
@[simp] theorem State.modCh_out (s : State) (k : Nat) (f : ChanRun → ChanRun) : (s.modCh k f).out = s.out := rfl
@[simp] theorem State.modCh_free (s : State) (k : Nat) (f : ChanRun → ChanRun) : (s.modCh k f).free = s.free := rfl
@[simp] theorem State.modCh_now (s : State) (k : Nat) (f : ChanRun → ChanRun) : (s.modCh k f).now = s.now := rfl
@[simp] theorem State.modCh_node (s : State) (k : Nat) (f : ChanRun → ChanRun) : (s.modCh k f).node = s.node := rfl
@[simp] theorem State.modCh_nd (s : State) (k : Nat) (f : ChanRun → ChanRun) : (s.modCh k f).nd = s.nd := rfl
@[simp] theorem State.modCh_host (s : State) (k : Nat) (f : ChanRun → ChanRun) : (s.modCh k f).host = s.host := rfl
@[simp] theorem State.modCh_cfg (s : State) (k : Nat) (f : ChanRun → ChanRun) : (s.modCh k f).cfg = s.cfg := rfl
@[simp] theorem State.modCh_alarm (s : State) (k : Nat) (f : ChanRun → ChanRun) : (s.modCh k f).alarm = s.alarm := rfl
@[simp] theorem State.modCh_bell (s : State) (k : Nat) (f : ChanRun → ChanRun) : (s.modCh k f).bell = s.bell := rfl
@[simp] theorem State.modCh_grn (s : State) (k : Nat) (f : ChanRun → ChanRun) : (s.modCh k f).grn = s.grn := rfl
@[simp] theorem State.modCh_clk (s : State) (k : Nat) (f : ChanRun → ChanRun) : (s.modCh k f).clk = s.clk := rfl
@[simp] theorem State.modCh_ponor (s : State) (k : Nat) (f : ChanRun → ChanRun) : (s.modCh k f).ponor = s.ponor := rfl
@[simp] theorem State.modCh_pair (s : State) (k : Nat) (f : ChanRun → ChanRun) : (s.modCh k f).pair = s.pair := rfl
@[simp] theorem State.modCh_toll (s : State) (k : Nat) (f : ChanRun → ChanRun) : (s.modCh k f).toll = s.toll := rfl
@[simp] theorem State.modCh_trace (s : State) (k : Nat) (f : ChanRun → ChanRun) : (s.modCh k f).trace = s.trace := rfl

@[simp] theorem State.modSup_pending (s : State) (k : Nat) (f : SupRun → SupRun) : (s.modSup k f).pending = s.pending := rfl
@[simp] theorem State.modSup_out (s : State) (k : Nat) (f : SupRun → SupRun) : (s.modSup k f).out = s.out := rfl
@[simp] theorem State.modSup_free (s : State) (k : Nat) (f : SupRun → SupRun) : (s.modSup k f).free = s.free := rfl
@[simp] theorem State.modSup_now (s : State) (k : Nat) (f : SupRun → SupRun) : (s.modSup k f).now = s.now := rfl
@[simp] theorem State.modSup_node (s : State) (k : Nat) (f : SupRun → SupRun) : (s.modSup k f).node = s.node := rfl
@[simp] theorem State.modSup_nd (s : State) (k : Nat) (f : SupRun → SupRun) : (s.modSup k f).nd = s.nd := rfl
@[simp] theorem State.modSup_host (s : State) (k : Nat) (f : SupRun → SupRun) : (s.modSup k f).host = s.host := rfl
@[simp] theorem State.modSup_cfg (s : State) (k : Nat) (f : SupRun → SupRun) : (s.modSup k f).cfg = s.cfg := rfl
@[simp] theorem State.modSup_alarm (s : State) (k : Nat) (f : SupRun → SupRun) : (s.modSup k f).alarm = s.alarm := rfl
@[simp] theorem State.modSup_bell (s : State) (k : Nat) (f : SupRun → SupRun) : (s.modSup k f).bell = s.bell := rfl
@[simp] theorem State.modSup_grn (s : State) (k : Nat) (f : SupRun → SupRun) : (s.modSup k f).grn = s.grn := rfl
@[simp] theorem State.modSup_clk (s : State) (k : Nat) (f : SupRun → SupRun) : (s.modSup k f).clk = s.clk := rfl
@[simp] theorem State.modSup_ponor (s : State) (k : Nat) (f : SupRun → SupRun) : (s.modSup k f).ponor = s.ponor := rfl
@[simp] theorem State.modSup_pair (s : State) (k : Nat) (f : SupRun → SupRun) : (s.modSup k f).pair = s.pair := rfl
@[simp] theorem State.modSup_toll (s : State) (k : Nat) (f : SupRun → SupRun) : (s.modSup k f).toll = s.toll := rfl
@[simp] theorem State.modSup_trace (s : State) (k : Nat) (f : SupRun → SupRun) : (s.modSup k f).trace = s.trace := rfl

@[simp] theorem State.modOut_pending (s : State) (k : Nat) (f : OutRun → OutRun) : (s.modOut k f).pending = s.pending := rfl
@[simp] theorem State.modOut_out (s : State) (k : Nat) (f : OutRun → OutRun) : (s.modOut k f).out = s.out := rfl
@[simp] theorem State.modOut_free (s : State) (k : Nat) (f : OutRun → OutRun) : (s.modOut k f).free = s.free := rfl
@[simp] theorem State.modOut_now (s : State) (k : Nat) (f : OutRun → OutRun) : (s.modOut k f).now = s.now := rfl
@[simp] theorem State.modOut_node (s : State) (k : Nat) (f : OutRun → OutRun) : (s.modOut k f).node = s.node := rfl
@[simp] theorem State.modOut_nd (s : State) (k : Nat) (f : OutRun → OutRun) : (s.modOut k f).nd = s.nd := rfl
@[simp] theorem State.modOut_host (s : State) (k : Nat) (f : OutRun → OutRun) : (s.modOut k f).host = s.host := rfl
@[simp] theorem State.modOut_cfg (s : State) (k : Nat) (f : OutRun → OutRun) : (s.modOut k f).cfg = s.cfg := rfl
@[simp] theorem State.modOut_alarm (s : State) (k : Nat) (f : OutRun → OutRun) : (s.modOut k f).alarm = s.alarm := rfl
@[simp] theorem State.modOut_bell (s : State) (k : Nat) (f : OutRun → OutRun) : (s.modOut k f).bell = s.bell := rfl
@[simp] theorem State.modOut_grn (s : State) (k : Nat) (f : OutRun → OutRun) : (s.modOut k f).grn = s.grn := rfl
@[simp] theorem State.modOut_clk (s : State) (k : Nat) (f : OutRun → OutRun) : (s.modOut k f).clk = s.clk := rfl
@[simp] theorem State.modOut_ponor (s : State) (k : Nat) (f : OutRun → OutRun) : (s.modOut k f).ponor = s.ponor := rfl
@[simp] theorem State.modOut_pair (s : State) (k : Nat) (f : OutRun → OutRun) : (s.modOut k f).pair = s.pair := rfl
@[simp] theorem State.modOut_toll (s : State) (k : Nat) (f : OutRun → OutRun) : (s.modOut k f).toll = s.toll := rfl
@[simp] theorem State.modOut_trace (s : State) (k : Nat) (f : OutRun → OutRun) : (s.modOut k f).trace = s.trace := rfl

@[simp] theorem State.modHart_pending (s : State) (k : Nat) (f : HartRun → HartRun) : (s.modHart k f).pending = s.pending := rfl
@[simp] theorem State.modHart_out (s : State) (k : Nat) (f : HartRun → HartRun) : (s.modHart k f).out = s.out := rfl
@[simp] theorem State.modHart_free (s : State) (k : Nat) (f : HartRun → HartRun) : (s.modHart k f).free = s.free := rfl
@[simp] theorem State.modHart_now (s : State) (k : Nat) (f : HartRun → HartRun) : (s.modHart k f).now = s.now := rfl
@[simp] theorem State.modHart_node (s : State) (k : Nat) (f : HartRun → HartRun) : (s.modHart k f).node = s.node := rfl
@[simp] theorem State.modHart_nd (s : State) (k : Nat) (f : HartRun → HartRun) : (s.modHart k f).nd = s.nd := rfl
@[simp] theorem State.modHart_host (s : State) (k : Nat) (f : HartRun → HartRun) : (s.modHart k f).host = s.host := rfl
@[simp] theorem State.modHart_cfg (s : State) (k : Nat) (f : HartRun → HartRun) : (s.modHart k f).cfg = s.cfg := rfl
@[simp] theorem State.modHart_alarm (s : State) (k : Nat) (f : HartRun → HartRun) : (s.modHart k f).alarm = s.alarm := rfl
@[simp] theorem State.modHart_bell (s : State) (k : Nat) (f : HartRun → HartRun) : (s.modHart k f).bell = s.bell := rfl
@[simp] theorem State.modHart_grn (s : State) (k : Nat) (f : HartRun → HartRun) : (s.modHart k f).grn = s.grn := rfl
@[simp] theorem State.modHart_clk (s : State) (k : Nat) (f : HartRun → HartRun) : (s.modHart k f).clk = s.clk := rfl
@[simp] theorem State.modHart_ponor (s : State) (k : Nat) (f : HartRun → HartRun) : (s.modHart k f).ponor = s.ponor := rfl
@[simp] theorem State.modHart_pair (s : State) (k : Nat) (f : HartRun → HartRun) : (s.modHart k f).pair = s.pair := rfl
@[simp] theorem State.modHart_toll (s : State) (k : Nat) (f : HartRun → HartRun) : (s.modHart k f).toll = s.toll := rfl
@[simp] theorem State.modHart_trace (s : State) (k : Nat) (f : HartRun → HartRun) : (s.modHart k f).trace = s.trace := rfl

@[simp] theorem State.modDio_pending (s : State) (k : Nat) (f : DioRun → DioRun) : (s.modDio k f).pending = s.pending := rfl
@[simp] theorem State.modDio_out (s : State) (k : Nat) (f : DioRun → DioRun) : (s.modDio k f).out = s.out := rfl
@[simp] theorem State.modDio_free (s : State) (k : Nat) (f : DioRun → DioRun) : (s.modDio k f).free = s.free := rfl
@[simp] theorem State.modDio_now (s : State) (k : Nat) (f : DioRun → DioRun) : (s.modDio k f).now = s.now := rfl
@[simp] theorem State.modDio_node (s : State) (k : Nat) (f : DioRun → DioRun) : (s.modDio k f).node = s.node := rfl
@[simp] theorem State.modDio_nd (s : State) (k : Nat) (f : DioRun → DioRun) : (s.modDio k f).nd = s.nd := rfl
@[simp] theorem State.modDio_host (s : State) (k : Nat) (f : DioRun → DioRun) : (s.modDio k f).host = s.host := rfl
@[simp] theorem State.modDio_cfg (s : State) (k : Nat) (f : DioRun → DioRun) : (s.modDio k f).cfg = s.cfg := rfl
@[simp] theorem State.modDio_alarm (s : State) (k : Nat) (f : DioRun → DioRun) : (s.modDio k f).alarm = s.alarm := rfl
@[simp] theorem State.modDio_bell (s : State) (k : Nat) (f : DioRun → DioRun) : (s.modDio k f).bell = s.bell := rfl
@[simp] theorem State.modDio_grn (s : State) (k : Nat) (f : DioRun → DioRun) : (s.modDio k f).grn = s.grn := rfl
@[simp] theorem State.modDio_clk (s : State) (k : Nat) (f : DioRun → DioRun) : (s.modDio k f).clk = s.clk := rfl
@[simp] theorem State.modDio_ponor (s : State) (k : Nat) (f : DioRun → DioRun) : (s.modDio k f).ponor = s.ponor := rfl
@[simp] theorem State.modDio_pair (s : State) (k : Nat) (f : DioRun → DioRun) : (s.modDio k f).pair = s.pair := rfl
@[simp] theorem State.modDio_toll (s : State) (k : Nat) (f : DioRun → DioRun) : (s.modDio k f).toll = s.toll := rfl
@[simp] theorem State.modDio_trace (s : State) (k : Nat) (f : DioRun → DioRun) : (s.modDio k f).trace = s.trace := rfl

@[simp] theorem State.modLamp_pending (s : State) (k : Nat) (f : LampRun → LampRun) : (s.modLamp k f).pending = s.pending := rfl
@[simp] theorem State.modLamp_out (s : State) (k : Nat) (f : LampRun → LampRun) : (s.modLamp k f).out = s.out := rfl
@[simp] theorem State.modLamp_free (s : State) (k : Nat) (f : LampRun → LampRun) : (s.modLamp k f).free = s.free := rfl
@[simp] theorem State.modLamp_now (s : State) (k : Nat) (f : LampRun → LampRun) : (s.modLamp k f).now = s.now := rfl
@[simp] theorem State.modLamp_node (s : State) (k : Nat) (f : LampRun → LampRun) : (s.modLamp k f).node = s.node := rfl
@[simp] theorem State.modLamp_nd (s : State) (k : Nat) (f : LampRun → LampRun) : (s.modLamp k f).nd = s.nd := rfl
@[simp] theorem State.modLamp_host (s : State) (k : Nat) (f : LampRun → LampRun) : (s.modLamp k f).host = s.host := rfl
@[simp] theorem State.modLamp_cfg (s : State) (k : Nat) (f : LampRun → LampRun) : (s.modLamp k f).cfg = s.cfg := rfl
@[simp] theorem State.modLamp_alarm (s : State) (k : Nat) (f : LampRun → LampRun) : (s.modLamp k f).alarm = s.alarm := rfl
@[simp] theorem State.modLamp_bell (s : State) (k : Nat) (f : LampRun → LampRun) : (s.modLamp k f).bell = s.bell := rfl
@[simp] theorem State.modLamp_grn (s : State) (k : Nat) (f : LampRun → LampRun) : (s.modLamp k f).grn = s.grn := rfl
@[simp] theorem State.modLamp_clk (s : State) (k : Nat) (f : LampRun → LampRun) : (s.modLamp k f).clk = s.clk := rfl
@[simp] theorem State.modLamp_ponor (s : State) (k : Nat) (f : LampRun → LampRun) : (s.modLamp k f).ponor = s.ponor := rfl
@[simp] theorem State.modLamp_pair (s : State) (k : Nat) (f : LampRun → LampRun) : (s.modLamp k f).pair = s.pair := rfl
@[simp] theorem State.modLamp_toll (s : State) (k : Nat) (f : LampRun → LampRun) : (s.modLamp k f).toll = s.toll := rfl
@[simp] theorem State.modLamp_trace (s : State) (k : Nat) (f : LampRun → LampRun) : (s.modLamp k f).trace = s.trace := rfl

@[simp] theorem State.modBay_pending (s : State) (k : Nat) (f : BayRun → BayRun) : (s.modBay k f).pending = s.pending := rfl
@[simp] theorem State.modBay_out (s : State) (k : Nat) (f : BayRun → BayRun) : (s.modBay k f).out = s.out := rfl
@[simp] theorem State.modBay_free (s : State) (k : Nat) (f : BayRun → BayRun) : (s.modBay k f).free = s.free := rfl
@[simp] theorem State.modBay_now (s : State) (k : Nat) (f : BayRun → BayRun) : (s.modBay k f).now = s.now := rfl
@[simp] theorem State.modBay_node (s : State) (k : Nat) (f : BayRun → BayRun) : (s.modBay k f).node = s.node := rfl
@[simp] theorem State.modBay_nd (s : State) (k : Nat) (f : BayRun → BayRun) : (s.modBay k f).nd = s.nd := rfl
@[simp] theorem State.modBay_host (s : State) (k : Nat) (f : BayRun → BayRun) : (s.modBay k f).host = s.host := rfl
@[simp] theorem State.modBay_cfg (s : State) (k : Nat) (f : BayRun → BayRun) : (s.modBay k f).cfg = s.cfg := rfl
@[simp] theorem State.modBay_alarm (s : State) (k : Nat) (f : BayRun → BayRun) : (s.modBay k f).alarm = s.alarm := rfl
@[simp] theorem State.modBay_bell (s : State) (k : Nat) (f : BayRun → BayRun) : (s.modBay k f).bell = s.bell := rfl
@[simp] theorem State.modBay_grn (s : State) (k : Nat) (f : BayRun → BayRun) : (s.modBay k f).grn = s.grn := rfl
@[simp] theorem State.modBay_clk (s : State) (k : Nat) (f : BayRun → BayRun) : (s.modBay k f).clk = s.clk := rfl
@[simp] theorem State.modBay_ponor (s : State) (k : Nat) (f : BayRun → BayRun) : (s.modBay k f).ponor = s.ponor := rfl
@[simp] theorem State.modBay_pair (s : State) (k : Nat) (f : BayRun → BayRun) : (s.modBay k f).pair = s.pair := rfl
@[simp] theorem State.modBay_toll (s : State) (k : Nat) (f : BayRun → BayRun) : (s.modBay k f).toll = s.toll := rfl
@[simp] theorem State.modBay_trace (s : State) (k : Nat) (f : BayRun → BayRun) : (s.modBay k f).trace = s.trace := rfl

@[simp] theorem State.modLane_pending (s : State) (k : Nat) (f : LaneRun → LaneRun) : (s.modLane k f).pending = s.pending := rfl
@[simp] theorem State.modLane_out (s : State) (k : Nat) (f : LaneRun → LaneRun) : (s.modLane k f).out = s.out := rfl
@[simp] theorem State.modLane_free (s : State) (k : Nat) (f : LaneRun → LaneRun) : (s.modLane k f).free = s.free := rfl
@[simp] theorem State.modLane_now (s : State) (k : Nat) (f : LaneRun → LaneRun) : (s.modLane k f).now = s.now := rfl
@[simp] theorem State.modLane_node (s : State) (k : Nat) (f : LaneRun → LaneRun) : (s.modLane k f).node = s.node := rfl
@[simp] theorem State.modLane_nd (s : State) (k : Nat) (f : LaneRun → LaneRun) : (s.modLane k f).nd = s.nd := rfl
@[simp] theorem State.modLane_host (s : State) (k : Nat) (f : LaneRun → LaneRun) : (s.modLane k f).host = s.host := rfl
@[simp] theorem State.modLane_cfg (s : State) (k : Nat) (f : LaneRun → LaneRun) : (s.modLane k f).cfg = s.cfg := rfl
@[simp] theorem State.modLane_alarm (s : State) (k : Nat) (f : LaneRun → LaneRun) : (s.modLane k f).alarm = s.alarm := rfl
@[simp] theorem State.modLane_bell (s : State) (k : Nat) (f : LaneRun → LaneRun) : (s.modLane k f).bell = s.bell := rfl
@[simp] theorem State.modLane_grn (s : State) (k : Nat) (f : LaneRun → LaneRun) : (s.modLane k f).grn = s.grn := rfl
@[simp] theorem State.modLane_clk (s : State) (k : Nat) (f : LaneRun → LaneRun) : (s.modLane k f).clk = s.clk := rfl
@[simp] theorem State.modLane_ponor (s : State) (k : Nat) (f : LaneRun → LaneRun) : (s.modLane k f).ponor = s.ponor := rfl
@[simp] theorem State.modLane_pair (s : State) (k : Nat) (f : LaneRun → LaneRun) : (s.modLane k f).pair = s.pair := rfl
@[simp] theorem State.modLane_toll (s : State) (k : Nat) (f : LaneRun → LaneRun) : (s.modLane k f).toll = s.toll := rfl
@[simp] theorem State.modLane_trace (s : State) (k : Nat) (f : LaneRun → LaneRun) : (s.modLane k f).trace = s.trace := rfl

@[simp] theorem State.modPt_pending (s : State) (k : Nat) (f : PtRun → PtRun) : (s.modPt k f).pending = s.pending := rfl
@[simp] theorem State.modPt_out (s : State) (k : Nat) (f : PtRun → PtRun) : (s.modPt k f).out = s.out := rfl
@[simp] theorem State.modPt_free (s : State) (k : Nat) (f : PtRun → PtRun) : (s.modPt k f).free = s.free := rfl
@[simp] theorem State.modPt_now (s : State) (k : Nat) (f : PtRun → PtRun) : (s.modPt k f).now = s.now := rfl
@[simp] theorem State.modPt_node (s : State) (k : Nat) (f : PtRun → PtRun) : (s.modPt k f).node = s.node := rfl
@[simp] theorem State.modPt_nd (s : State) (k : Nat) (f : PtRun → PtRun) : (s.modPt k f).nd = s.nd := rfl
@[simp] theorem State.modPt_host (s : State) (k : Nat) (f : PtRun → PtRun) : (s.modPt k f).host = s.host := rfl
@[simp] theorem State.modPt_cfg (s : State) (k : Nat) (f : PtRun → PtRun) : (s.modPt k f).cfg = s.cfg := rfl
@[simp] theorem State.modPt_field (s : State) (k : Nat) (f : PtRun → PtRun) : (s.modPt k f).field = s.field := rfl
@[simp] theorem State.modPt_bell (s : State) (k : Nat) (f : PtRun → PtRun) : (s.modPt k f).bell = s.bell := rfl
@[simp] theorem State.modPt_grn (s : State) (k : Nat) (f : PtRun → PtRun) : (s.modPt k f).grn = s.grn := rfl
@[simp] theorem State.modPt_clk (s : State) (k : Nat) (f : PtRun → PtRun) : (s.modPt k f).clk = s.clk := rfl
@[simp] theorem State.modPt_ponor (s : State) (k : Nat) (f : PtRun → PtRun) : (s.modPt k f).ponor = s.ponor := rfl
@[simp] theorem State.modPt_pair (s : State) (k : Nat) (f : PtRun → PtRun) : (s.modPt k f).pair = s.pair := rfl
@[simp] theorem State.modPt_toll (s : State) (k : Nat) (f : PtRun → PtRun) : (s.modPt k f).toll = s.toll := rfl
@[simp] theorem State.modPt_trace (s : State) (k : Nat) (f : PtRun → PtRun) : (s.modPt k f).trace = s.trace := rfl

@[simp] theorem State.modRing_pending (s : State) (k : Nat) (f : RingRun → RingRun) : (s.modRing k f).pending = s.pending := rfl
@[simp] theorem State.modRing_out (s : State) (k : Nat) (f : RingRun → RingRun) : (s.modRing k f).out = s.out := rfl
@[simp] theorem State.modRing_free (s : State) (k : Nat) (f : RingRun → RingRun) : (s.modRing k f).free = s.free := rfl
@[simp] theorem State.modRing_now (s : State) (k : Nat) (f : RingRun → RingRun) : (s.modRing k f).now = s.now := rfl
@[simp] theorem State.modRing_node (s : State) (k : Nat) (f : RingRun → RingRun) : (s.modRing k f).node = s.node := rfl
@[simp] theorem State.modRing_nd (s : State) (k : Nat) (f : RingRun → RingRun) : (s.modRing k f).nd = s.nd := rfl
@[simp] theorem State.modRing_host (s : State) (k : Nat) (f : RingRun → RingRun) : (s.modRing k f).host = s.host := rfl
@[simp] theorem State.modRing_cfg (s : State) (k : Nat) (f : RingRun → RingRun) : (s.modRing k f).cfg = s.cfg := rfl
@[simp] theorem State.modRing_field (s : State) (k : Nat) (f : RingRun → RingRun) : (s.modRing k f).field = s.field := rfl
@[simp] theorem State.modRing_alarm (s : State) (k : Nat) (f : RingRun → RingRun) : (s.modRing k f).alarm = s.alarm := rfl
@[simp] theorem State.modRing_bell (s : State) (k : Nat) (f : RingRun → RingRun) : (s.modRing k f).bell = s.bell := rfl
@[simp] theorem State.modRing_grn (s : State) (k : Nat) (f : RingRun → RingRun) : (s.modRing k f).grn = s.grn := rfl
@[simp] theorem State.modRing_clk (s : State) (k : Nat) (f : RingRun → RingRun) : (s.modRing k f).clk = s.clk := rfl
@[simp] theorem State.modRing_pair (s : State) (k : Nat) (f : RingRun → RingRun) : (s.modRing k f).pair = s.pair := rfl
@[simp] theorem State.modRing_toll (s : State) (k : Nat) (f : RingRun → RingRun) : (s.modRing k f).toll = s.toll := rfl
@[simp] theorem State.modRing_trace (s : State) (k : Nat) (f : RingRun → RingRun) : (s.modRing k f).trace = s.trace := rfl

@[simp] theorem State.modPort_pending (s : State) (k : Nat) (f : PortRun2 → PortRun2) : (s.modPort k f).pending = s.pending := rfl
@[simp] theorem State.modPort_out (s : State) (k : Nat) (f : PortRun2 → PortRun2) : (s.modPort k f).out = s.out := rfl
@[simp] theorem State.modPort_free (s : State) (k : Nat) (f : PortRun2 → PortRun2) : (s.modPort k f).free = s.free := rfl
@[simp] theorem State.modPort_now (s : State) (k : Nat) (f : PortRun2 → PortRun2) : (s.modPort k f).now = s.now := rfl
@[simp] theorem State.modPort_node (s : State) (k : Nat) (f : PortRun2 → PortRun2) : (s.modPort k f).node = s.node := rfl
@[simp] theorem State.modPort_nd (s : State) (k : Nat) (f : PortRun2 → PortRun2) : (s.modPort k f).nd = s.nd := rfl
@[simp] theorem State.modPort_host (s : State) (k : Nat) (f : PortRun2 → PortRun2) : (s.modPort k f).host = s.host := rfl
@[simp] theorem State.modPort_cfg (s : State) (k : Nat) (f : PortRun2 → PortRun2) : (s.modPort k f).cfg = s.cfg := rfl
@[simp] theorem State.modPort_field (s : State) (k : Nat) (f : PortRun2 → PortRun2) : (s.modPort k f).field = s.field := rfl
@[simp] theorem State.modPort_alarm (s : State) (k : Nat) (f : PortRun2 → PortRun2) : (s.modPort k f).alarm = s.alarm := rfl
@[simp] theorem State.modPort_bell (s : State) (k : Nat) (f : PortRun2 → PortRun2) : (s.modPort k f).bell = s.bell := rfl
@[simp] theorem State.modPort_grn (s : State) (k : Nat) (f : PortRun2 → PortRun2) : (s.modPort k f).grn = s.grn := rfl
@[simp] theorem State.modPort_clk (s : State) (k : Nat) (f : PortRun2 → PortRun2) : (s.modPort k f).clk = s.clk := rfl
@[simp] theorem State.modPort_pair (s : State) (k : Nat) (f : PortRun2 → PortRun2) : (s.modPort k f).pair = s.pair := rfl
@[simp] theorem State.modPort_toll (s : State) (k : Nat) (f : PortRun2 → PortRun2) : (s.modPort k f).toll = s.toll := rfl
@[simp] theorem State.modPort_trace (s : State) (k : Nat) (f : PortRun2 → PortRun2) : (s.modPort k f).trace = s.trace := rfl

@[simp] theorem State.modSess_pending (s : State) (k : Nat) (f : Session → Session) : (s.modSess k f).pending = s.pending := rfl
@[simp] theorem State.modSess_out (s : State) (k : Nat) (f : Session → Session) : (s.modSess k f).out = s.out := rfl
@[simp] theorem State.modSess_free (s : State) (k : Nat) (f : Session → Session) : (s.modSess k f).free = s.free := rfl
@[simp] theorem State.modSess_now (s : State) (k : Nat) (f : Session → Session) : (s.modSess k f).now = s.now := rfl
@[simp] theorem State.modSess_node (s : State) (k : Nat) (f : Session → Session) : (s.modSess k f).node = s.node := rfl
@[simp] theorem State.modSess_nd (s : State) (k : Nat) (f : Session → Session) : (s.modSess k f).nd = s.nd := rfl
@[simp] theorem State.modSess_cfg (s : State) (k : Nat) (f : Session → Session) : (s.modSess k f).cfg = s.cfg := rfl
@[simp] theorem State.modSess_field (s : State) (k : Nat) (f : Session → Session) : (s.modSess k f).field = s.field := rfl
@[simp] theorem State.modSess_alarm (s : State) (k : Nat) (f : Session → Session) : (s.modSess k f).alarm = s.alarm := rfl
@[simp] theorem State.modSess_bell (s : State) (k : Nat) (f : Session → Session) : (s.modSess k f).bell = s.bell := rfl
@[simp] theorem State.modSess_grn (s : State) (k : Nat) (f : Session → Session) : (s.modSess k f).grn = s.grn := rfl
@[simp] theorem State.modSess_clk (s : State) (k : Nat) (f : Session → Session) : (s.modSess k f).clk = s.clk := rfl
@[simp] theorem State.modSess_ponor (s : State) (k : Nat) (f : Session → Session) : (s.modSess k f).ponor = s.ponor := rfl
@[simp] theorem State.modSess_pair (s : State) (k : Nat) (f : Session → Session) : (s.modSess k f).pair = s.pair := rfl
@[simp] theorem State.modSess_toll (s : State) (k : Nat) (f : Session → Session) : (s.modSess k f).toll = s.toll := rfl
@[simp] theorem State.modSess_trace (s : State) (k : Nat) (f : Session → Session) : (s.modSess k f).trace = s.trace := rfl

@[simp] theorem State.modTollPt_pending (s : State) (k : Nat) (f : TollPoint → TollPoint) : (s.modTollPt k f).pending = s.pending := rfl
@[simp] theorem State.modTollPt_out (s : State) (k : Nat) (f : TollPoint → TollPoint) : (s.modTollPt k f).out = s.out := rfl
@[simp] theorem State.modTollPt_free (s : State) (k : Nat) (f : TollPoint → TollPoint) : (s.modTollPt k f).free = s.free := rfl
@[simp] theorem State.modTollPt_now (s : State) (k : Nat) (f : TollPoint → TollPoint) : (s.modTollPt k f).now = s.now := rfl
@[simp] theorem State.modTollPt_node (s : State) (k : Nat) (f : TollPoint → TollPoint) : (s.modTollPt k f).node = s.node := rfl
@[simp] theorem State.modTollPt_nd (s : State) (k : Nat) (f : TollPoint → TollPoint) : (s.modTollPt k f).nd = s.nd := rfl
@[simp] theorem State.modTollPt_host (s : State) (k : Nat) (f : TollPoint → TollPoint) : (s.modTollPt k f).host = s.host := rfl
@[simp] theorem State.modTollPt_cfg (s : State) (k : Nat) (f : TollPoint → TollPoint) : (s.modTollPt k f).cfg = s.cfg := rfl
@[simp] theorem State.modTollPt_field (s : State) (k : Nat) (f : TollPoint → TollPoint) : (s.modTollPt k f).field = s.field := rfl
@[simp] theorem State.modTollPt_alarm (s : State) (k : Nat) (f : TollPoint → TollPoint) : (s.modTollPt k f).alarm = s.alarm := rfl
@[simp] theorem State.modTollPt_bell (s : State) (k : Nat) (f : TollPoint → TollPoint) : (s.modTollPt k f).bell = s.bell := rfl
@[simp] theorem State.modTollPt_grn (s : State) (k : Nat) (f : TollPoint → TollPoint) : (s.modTollPt k f).grn = s.grn := rfl
@[simp] theorem State.modTollPt_clk (s : State) (k : Nat) (f : TollPoint → TollPoint) : (s.modTollPt k f).clk = s.clk := rfl
@[simp] theorem State.modTollPt_ponor (s : State) (k : Nat) (f : TollPoint → TollPoint) : (s.modTollPt k f).ponor = s.ponor := rfl
@[simp] theorem State.modTollPt_pair (s : State) (k : Nat) (f : TollPoint → TollPoint) : (s.modTollPt k f).pair = s.pair := rfl
@[simp] theorem State.modTollPt_trace (s : State) (k : Nat) (f : TollPoint → TollPoint) : (s.modTollPt k f).trace = s.trace := rfl

@[simp] theorem State.modPanel_pending (s : State) (k : Nat) (f : PanelRun → PanelRun) : (s.modPanel k f).pending = s.pending := rfl
@[simp] theorem State.modPanel_out (s : State) (k : Nat) (f : PanelRun → PanelRun) : (s.modPanel k f).out = s.out := rfl
@[simp] theorem State.modPanel_free (s : State) (k : Nat) (f : PanelRun → PanelRun) : (s.modPanel k f).free = s.free := rfl
@[simp] theorem State.modPanel_now (s : State) (k : Nat) (f : PanelRun → PanelRun) : (s.modPanel k f).now = s.now := rfl
@[simp] theorem State.modPanel_node (s : State) (k : Nat) (f : PanelRun → PanelRun) : (s.modPanel k f).node = s.node := rfl
@[simp] theorem State.modPanel_nd (s : State) (k : Nat) (f : PanelRun → PanelRun) : (s.modPanel k f).nd = s.nd := rfl
@[simp] theorem State.modPanel_host (s : State) (k : Nat) (f : PanelRun → PanelRun) : (s.modPanel k f).host = s.host := rfl
@[simp] theorem State.modPanel_cfg (s : State) (k : Nat) (f : PanelRun → PanelRun) : (s.modPanel k f).cfg = s.cfg := rfl
@[simp] theorem State.modPanel_field (s : State) (k : Nat) (f : PanelRun → PanelRun) : (s.modPanel k f).field = s.field := rfl
@[simp] theorem State.modPanel_alarm (s : State) (k : Nat) (f : PanelRun → PanelRun) : (s.modPanel k f).alarm = s.alarm := rfl
@[simp] theorem State.modPanel_grn (s : State) (k : Nat) (f : PanelRun → PanelRun) : (s.modPanel k f).grn = s.grn := rfl
@[simp] theorem State.modPanel_clk (s : State) (k : Nat) (f : PanelRun → PanelRun) : (s.modPanel k f).clk = s.clk := rfl
@[simp] theorem State.modPanel_ponor (s : State) (k : Nat) (f : PanelRun → PanelRun) : (s.modPanel k f).ponor = s.ponor := rfl
@[simp] theorem State.modPanel_pair (s : State) (k : Nat) (f : PanelRun → PanelRun) : (s.modPanel k f).pair = s.pair := rfl
@[simp] theorem State.modPanel_toll (s : State) (k : Nat) (f : PanelRun → PanelRun) : (s.modPanel k f).toll = s.toll := rfl
@[simp] theorem State.modPanel_trace (s : State) (k : Nat) (f : PanelRun → PanelRun) : (s.modPanel k f).trace = s.trace := rfl

@[simp] theorem State.modSfp_pending (s : State) (k : Nat) (f : Sfp → Sfp) : (s.modSfp k f).pending = s.pending := rfl
@[simp] theorem State.modSfp_out (s : State) (k : Nat) (f : Sfp → Sfp) : (s.modSfp k f).out = s.out := rfl
@[simp] theorem State.modSfp_free (s : State) (k : Nat) (f : Sfp → Sfp) : (s.modSfp k f).free = s.free := rfl
@[simp] theorem State.modSfp_now (s : State) (k : Nat) (f : Sfp → Sfp) : (s.modSfp k f).now = s.now := rfl
@[simp] theorem State.modSfp_node (s : State) (k : Nat) (f : Sfp → Sfp) : (s.modSfp k f).node = s.node := rfl
@[simp] theorem State.modSfp_host (s : State) (k : Nat) (f : Sfp → Sfp) : (s.modSfp k f).host = s.host := rfl
@[simp] theorem State.modSfp_cfg (s : State) (k : Nat) (f : Sfp → Sfp) : (s.modSfp k f).cfg = s.cfg := rfl
@[simp] theorem State.modSfp_field (s : State) (k : Nat) (f : Sfp → Sfp) : (s.modSfp k f).field = s.field := rfl
@[simp] theorem State.modSfp_alarm (s : State) (k : Nat) (f : Sfp → Sfp) : (s.modSfp k f).alarm = s.alarm := rfl
@[simp] theorem State.modSfp_bell (s : State) (k : Nat) (f : Sfp → Sfp) : (s.modSfp k f).bell = s.bell := rfl
@[simp] theorem State.modSfp_grn (s : State) (k : Nat) (f : Sfp → Sfp) : (s.modSfp k f).grn = s.grn := rfl
@[simp] theorem State.modSfp_clk (s : State) (k : Nat) (f : Sfp → Sfp) : (s.modSfp k f).clk = s.clk := rfl
@[simp] theorem State.modSfp_ponor (s : State) (k : Nat) (f : Sfp → Sfp) : (s.modSfp k f).ponor = s.ponor := rfl
@[simp] theorem State.modSfp_pair (s : State) (k : Nat) (f : Sfp → Sfp) : (s.modSfp k f).pair = s.pair := rfl
@[simp] theorem State.modSfp_toll (s : State) (k : Nat) (f : Sfp → Sfp) : (s.modSfp k f).toll = s.toll := rfl
@[simp] theorem State.modSfp_trace (s : State) (k : Nat) (f : Sfp → Sfp) : (s.modSfp k f).trace = s.trace := rfl

@[simp] theorem State.modNd_pending (s : State) (f : NodeSt → NodeSt) : (s.modNd f).pending = s.pending := rfl
@[simp] theorem State.modNd_out (s : State) (f : NodeSt → NodeSt) : (s.modNd f).out = s.out := rfl
@[simp] theorem State.modNd_free (s : State) (f : NodeSt → NodeSt) : (s.modNd f).free = s.free := rfl
@[simp] theorem State.modNd_now (s : State) (f : NodeSt → NodeSt) : (s.modNd f).now = s.now := rfl
@[simp] theorem State.modNd_node (s : State) (f : NodeSt → NodeSt) : (s.modNd f).node = s.node := rfl
@[simp] theorem State.modNd_host (s : State) (f : NodeSt → NodeSt) : (s.modNd f).host = s.host := rfl
@[simp] theorem State.modNd_cfg (s : State) (f : NodeSt → NodeSt) : (s.modNd f).cfg = s.cfg := rfl
@[simp] theorem State.modNd_field (s : State) (f : NodeSt → NodeSt) : (s.modNd f).field = s.field := rfl
@[simp] theorem State.modNd_alarm (s : State) (f : NodeSt → NodeSt) : (s.modNd f).alarm = s.alarm := rfl
@[simp] theorem State.modNd_bell (s : State) (f : NodeSt → NodeSt) : (s.modNd f).bell = s.bell := rfl
@[simp] theorem State.modNd_grn (s : State) (f : NodeSt → NodeSt) : (s.modNd f).grn = s.grn := rfl
@[simp] theorem State.modNd_clk (s : State) (f : NodeSt → NodeSt) : (s.modNd f).clk = s.clk := rfl
@[simp] theorem State.modNd_ponor (s : State) (f : NodeSt → NodeSt) : (s.modNd f).ponor = s.ponor := rfl
@[simp] theorem State.modNd_pair (s : State) (f : NodeSt → NodeSt) : (s.modNd f).pair = s.pair := rfl
@[simp] theorem State.modNd_toll (s : State) (f : NodeSt → NodeSt) : (s.modNd f).toll = s.toll := rfl
@[simp] theorem State.modNd_trace (s : State) (f : NodeSt → NodeSt) : (s.modNd f).trace = s.trace := rfl

@[simp] theorem State.modNd_nd (s : State) (f : NodeSt → NodeSt) : (s.modNd f).nd = f s.nd := rfl

@[simp] theorem State.modPair_pending (s : State) (f : PairSt → PairSt) : (s.modPair f).pending = s.pending := rfl
@[simp] theorem State.modPair_out (s : State) (f : PairSt → PairSt) : (s.modPair f).out = s.out := rfl
@[simp] theorem State.modPair_free (s : State) (f : PairSt → PairSt) : (s.modPair f).free = s.free := rfl
@[simp] theorem State.modPair_now (s : State) (f : PairSt → PairSt) : (s.modPair f).now = s.now := rfl
@[simp] theorem State.modPair_node (s : State) (f : PairSt → PairSt) : (s.modPair f).node = s.node := rfl
@[simp] theorem State.modPair_nd (s : State) (f : PairSt → PairSt) : (s.modPair f).nd = s.nd := rfl
@[simp] theorem State.modPair_host (s : State) (f : PairSt → PairSt) : (s.modPair f).host = s.host := rfl
@[simp] theorem State.modPair_cfg (s : State) (f : PairSt → PairSt) : (s.modPair f).cfg = s.cfg := rfl
@[simp] theorem State.modPair_field (s : State) (f : PairSt → PairSt) : (s.modPair f).field = s.field := rfl
@[simp] theorem State.modPair_alarm (s : State) (f : PairSt → PairSt) : (s.modPair f).alarm = s.alarm := rfl
@[simp] theorem State.modPair_bell (s : State) (f : PairSt → PairSt) : (s.modPair f).bell = s.bell := rfl
@[simp] theorem State.modPair_grn (s : State) (f : PairSt → PairSt) : (s.modPair f).grn = s.grn := rfl
@[simp] theorem State.modPair_clk (s : State) (f : PairSt → PairSt) : (s.modPair f).clk = s.clk := rfl
@[simp] theorem State.modPair_ponor (s : State) (f : PairSt → PairSt) : (s.modPair f).ponor = s.ponor := rfl
@[simp] theorem State.modPair_toll (s : State) (f : PairSt → PairSt) : (s.modPair f).toll = s.toll := rfl
@[simp] theorem State.modPair_trace (s : State) (f : PairSt → PairSt) : (s.modPair f).trace = s.trace := rfl

@[simp] theorem State.modPair_pair (s : State) (f : PairSt → PairSt) : (s.modPair f).pair = f s.pair := rfl

@[simp] theorem State.modClk_pending (s : State) (f : ClockSt → ClockSt) : (s.modClk f).pending = s.pending := rfl
@[simp] theorem State.modClk_out (s : State) (f : ClockSt → ClockSt) : (s.modClk f).out = s.out := rfl
@[simp] theorem State.modClk_free (s : State) (f : ClockSt → ClockSt) : (s.modClk f).free = s.free := rfl
@[simp] theorem State.modClk_now (s : State) (f : ClockSt → ClockSt) : (s.modClk f).now = s.now := rfl
@[simp] theorem State.modClk_node (s : State) (f : ClockSt → ClockSt) : (s.modClk f).node = s.node := rfl
@[simp] theorem State.modClk_nd (s : State) (f : ClockSt → ClockSt) : (s.modClk f).nd = s.nd := rfl
@[simp] theorem State.modClk_host (s : State) (f : ClockSt → ClockSt) : (s.modClk f).host = s.host := rfl
@[simp] theorem State.modClk_cfg (s : State) (f : ClockSt → ClockSt) : (s.modClk f).cfg = s.cfg := rfl
@[simp] theorem State.modClk_field (s : State) (f : ClockSt → ClockSt) : (s.modClk f).field = s.field := rfl
@[simp] theorem State.modClk_alarm (s : State) (f : ClockSt → ClockSt) : (s.modClk f).alarm = s.alarm := rfl
@[simp] theorem State.modClk_bell (s : State) (f : ClockSt → ClockSt) : (s.modClk f).bell = s.bell := rfl
@[simp] theorem State.modClk_grn (s : State) (f : ClockSt → ClockSt) : (s.modClk f).grn = s.grn := rfl
@[simp] theorem State.modClk_ponor (s : State) (f : ClockSt → ClockSt) : (s.modClk f).ponor = s.ponor := rfl
@[simp] theorem State.modClk_pair (s : State) (f : ClockSt → ClockSt) : (s.modClk f).pair = s.pair := rfl
@[simp] theorem State.modClk_toll (s : State) (f : ClockSt → ClockSt) : (s.modClk f).toll = s.toll := rfl
@[simp] theorem State.modClk_trace (s : State) (f : ClockSt → ClockSt) : (s.modClk f).trace = s.trace := rfl

@[simp] theorem State.modClk_clk (s : State) (f : ClockSt → ClockSt) : (s.modClk f).clk = f s.clk := rfl

@[simp] theorem State.modBell_pending (s : State) (f : BellSt → BellSt) : (s.modBell f).pending = s.pending := rfl
@[simp] theorem State.modBell_out (s : State) (f : BellSt → BellSt) : (s.modBell f).out = s.out := rfl
@[simp] theorem State.modBell_free (s : State) (f : BellSt → BellSt) : (s.modBell f).free = s.free := rfl
@[simp] theorem State.modBell_now (s : State) (f : BellSt → BellSt) : (s.modBell f).now = s.now := rfl
@[simp] theorem State.modBell_node (s : State) (f : BellSt → BellSt) : (s.modBell f).node = s.node := rfl
@[simp] theorem State.modBell_nd (s : State) (f : BellSt → BellSt) : (s.modBell f).nd = s.nd := rfl
@[simp] theorem State.modBell_host (s : State) (f : BellSt → BellSt) : (s.modBell f).host = s.host := rfl
@[simp] theorem State.modBell_cfg (s : State) (f : BellSt → BellSt) : (s.modBell f).cfg = s.cfg := rfl
@[simp] theorem State.modBell_field (s : State) (f : BellSt → BellSt) : (s.modBell f).field = s.field := rfl
@[simp] theorem State.modBell_alarm (s : State) (f : BellSt → BellSt) : (s.modBell f).alarm = s.alarm := rfl
@[simp] theorem State.modBell_grn (s : State) (f : BellSt → BellSt) : (s.modBell f).grn = s.grn := rfl
@[simp] theorem State.modBell_clk (s : State) (f : BellSt → BellSt) : (s.modBell f).clk = s.clk := rfl
@[simp] theorem State.modBell_ponor (s : State) (f : BellSt → BellSt) : (s.modBell f).ponor = s.ponor := rfl
@[simp] theorem State.modBell_pair (s : State) (f : BellSt → BellSt) : (s.modBell f).pair = s.pair := rfl
@[simp] theorem State.modBell_toll (s : State) (f : BellSt → BellSt) : (s.modBell f).toll = s.toll := rfl
@[simp] theorem State.modBell_trace (s : State) (f : BellSt → BellSt) : (s.modBell f).trace = s.trace := rfl

@[simp] theorem State.modBell_bell (s : State) (f : BellSt → BellSt) : (s.modBell f).bell = f s.bell := rfl

@[simp] theorem State.modToll_pending (s : State) (f : TollSt → TollSt) : (s.modToll f).pending = s.pending := rfl
@[simp] theorem State.modToll_out (s : State) (f : TollSt → TollSt) : (s.modToll f).out = s.out := rfl
@[simp] theorem State.modToll_free (s : State) (f : TollSt → TollSt) : (s.modToll f).free = s.free := rfl
@[simp] theorem State.modToll_now (s : State) (f : TollSt → TollSt) : (s.modToll f).now = s.now := rfl
@[simp] theorem State.modToll_node (s : State) (f : TollSt → TollSt) : (s.modToll f).node = s.node := rfl
@[simp] theorem State.modToll_nd (s : State) (f : TollSt → TollSt) : (s.modToll f).nd = s.nd := rfl
@[simp] theorem State.modToll_host (s : State) (f : TollSt → TollSt) : (s.modToll f).host = s.host := rfl
@[simp] theorem State.modToll_cfg (s : State) (f : TollSt → TollSt) : (s.modToll f).cfg = s.cfg := rfl
@[simp] theorem State.modToll_field (s : State) (f : TollSt → TollSt) : (s.modToll f).field = s.field := rfl
@[simp] theorem State.modToll_alarm (s : State) (f : TollSt → TollSt) : (s.modToll f).alarm = s.alarm := rfl
@[simp] theorem State.modToll_bell (s : State) (f : TollSt → TollSt) : (s.modToll f).bell = s.bell := rfl
@[simp] theorem State.modToll_grn (s : State) (f : TollSt → TollSt) : (s.modToll f).grn = s.grn := rfl
@[simp] theorem State.modToll_clk (s : State) (f : TollSt → TollSt) : (s.modToll f).clk = s.clk := rfl
@[simp] theorem State.modToll_ponor (s : State) (f : TollSt → TollSt) : (s.modToll f).ponor = s.ponor := rfl
@[simp] theorem State.modToll_pair (s : State) (f : TollSt → TollSt) : (s.modToll f).pair = s.pair := rfl
@[simp] theorem State.modToll_trace (s : State) (f : TollSt → TollSt) : (s.modToll f).trace = s.trace := rfl

@[simp] theorem State.modToll_toll (s : State) (f : TollSt → TollSt) : (s.modToll f).toll = f s.toll := rfl

@[simp] theorem State.modPower_pending (s : State) (f : PowerSt → PowerSt) : (s.modPower f).pending = s.pending := rfl
@[simp] theorem State.modPower_out (s : State) (f : PowerSt → PowerSt) : (s.modPower f).out = s.out := rfl
@[simp] theorem State.modPower_free (s : State) (f : PowerSt → PowerSt) : (s.modPower f).free = s.free := rfl
@[simp] theorem State.modPower_now (s : State) (f : PowerSt → PowerSt) : (s.modPower f).now = s.now := rfl
@[simp] theorem State.modPower_node (s : State) (f : PowerSt → PowerSt) : (s.modPower f).node = s.node := rfl
@[simp] theorem State.modPower_host (s : State) (f : PowerSt → PowerSt) : (s.modPower f).host = s.host := rfl
@[simp] theorem State.modPower_cfg (s : State) (f : PowerSt → PowerSt) : (s.modPower f).cfg = s.cfg := rfl
@[simp] theorem State.modPower_field (s : State) (f : PowerSt → PowerSt) : (s.modPower f).field = s.field := rfl
@[simp] theorem State.modPower_alarm (s : State) (f : PowerSt → PowerSt) : (s.modPower f).alarm = s.alarm := rfl
@[simp] theorem State.modPower_bell (s : State) (f : PowerSt → PowerSt) : (s.modPower f).bell = s.bell := rfl
@[simp] theorem State.modPower_grn (s : State) (f : PowerSt → PowerSt) : (s.modPower f).grn = s.grn := rfl
@[simp] theorem State.modPower_clk (s : State) (f : PowerSt → PowerSt) : (s.modPower f).clk = s.clk := rfl
@[simp] theorem State.modPower_ponor (s : State) (f : PowerSt → PowerSt) : (s.modPower f).ponor = s.ponor := rfl
@[simp] theorem State.modPower_pair (s : State) (f : PowerSt → PowerSt) : (s.modPower f).pair = s.pair := rfl
@[simp] theorem State.modPower_toll (s : State) (f : PowerSt → PowerSt) : (s.modPower f).toll = s.toll := rfl
@[simp] theorem State.modPower_trace (s : State) (f : PowerSt → PowerSt) : (s.modPower f).trace = s.trace := rfl

@[simp] theorem State.modPower_nd (s : State) (f : PowerSt → PowerSt) : (s.modPower f).nd = { s.nd with power := f s.nd.power } := rfl

@[simp] theorem State.emit_pending (s : State) (e : Emission) : (s.emit e).pending = s.pending := rfl
@[simp] theorem State.emit_free (s : State) (e : Emission) : (s.emit e).free = s.free := rfl
@[simp] theorem State.emit_now (s : State) (e : Emission) : (s.emit e).now = s.now := rfl
@[simp] theorem State.emit_node (s : State) (e : Emission) : (s.emit e).node = s.node := rfl
@[simp] theorem State.emit_nd (s : State) (e : Emission) : (s.emit e).nd = s.nd := rfl
@[simp] theorem State.emit_host (s : State) (e : Emission) : (s.emit e).host = s.host := rfl
@[simp] theorem State.emit_cfg (s : State) (e : Emission) : (s.emit e).cfg = s.cfg := rfl
@[simp] theorem State.emit_field (s : State) (e : Emission) : (s.emit e).field = s.field := rfl
@[simp] theorem State.emit_alarm (s : State) (e : Emission) : (s.emit e).alarm = s.alarm := rfl
@[simp] theorem State.emit_bell (s : State) (e : Emission) : (s.emit e).bell = s.bell := rfl
@[simp] theorem State.emit_grn (s : State) (e : Emission) : (s.emit e).grn = s.grn := rfl
@[simp] theorem State.emit_clk (s : State) (e : Emission) : (s.emit e).clk = s.clk := rfl
@[simp] theorem State.emit_ponor (s : State) (e : Emission) : (s.emit e).ponor = s.ponor := rfl
@[simp] theorem State.emit_pair (s : State) (e : Emission) : (s.emit e).pair = s.pair := rfl
@[simp] theorem State.emit_toll (s : State) (e : Emission) : (s.emit e).toll = s.toll := rfl
@[simp] theorem State.emit_trace (s : State) (e : Emission) : (s.emit e).trace = s.trace := rfl

@[simp] theorem State.emit_out (s : State) (e : Emission) : (s.emit e).out = s.out ++ [e] := rfl

@[simp] theorem State.count_pending (s : State) (i k : Nat) : (s.count i k).pending = s.pending := rfl
@[simp] theorem State.count_out (s : State) (i k : Nat) : (s.count i k).out = s.out := rfl
@[simp] theorem State.count_free (s : State) (i k : Nat) : (s.count i k).free = s.free := rfl
@[simp] theorem State.count_now (s : State) (i k : Nat) : (s.count i k).now = s.now := rfl
@[simp] theorem State.count_node (s : State) (i k : Nat) : (s.count i k).node = s.node := rfl
@[simp] theorem State.count_nd (s : State) (i k : Nat) : (s.count i k).nd = s.nd := rfl
@[simp] theorem State.count_host (s : State) (i k : Nat) : (s.count i k).host = s.host := rfl
@[simp] theorem State.count_cfg (s : State) (i k : Nat) : (s.count i k).cfg = s.cfg := rfl
@[simp] theorem State.count_field (s : State) (i k : Nat) : (s.count i k).field = s.field := rfl
@[simp] theorem State.count_alarm (s : State) (i k : Nat) : (s.count i k).alarm = s.alarm := rfl
@[simp] theorem State.count_bell (s : State) (i k : Nat) : (s.count i k).bell = s.bell := rfl
@[simp] theorem State.count_grn (s : State) (i k : Nat) : (s.count i k).grn = s.grn := rfl
@[simp] theorem State.count_clk (s : State) (i k : Nat) : (s.count i k).clk = s.clk := rfl
@[simp] theorem State.count_ponor (s : State) (i k : Nat) : (s.count i k).ponor = s.ponor := rfl
@[simp] theorem State.count_pair (s : State) (i k : Nat) : (s.count i k).pair = s.pair := rfl
@[simp] theorem State.count_toll (s : State) (i k : Nat) : (s.count i k).toll = s.toll := rfl

@[simp] theorem State.peak_pending (s : State) (i v : Nat) : (s.peak i v).pending = s.pending := rfl
@[simp] theorem State.peak_out (s : State) (i v : Nat) : (s.peak i v).out = s.out := rfl
@[simp] theorem State.peak_free (s : State) (i v : Nat) : (s.peak i v).free = s.free := rfl
@[simp] theorem State.peak_now (s : State) (i v : Nat) : (s.peak i v).now = s.now := rfl
@[simp] theorem State.peak_node (s : State) (i v : Nat) : (s.peak i v).node = s.node := rfl
@[simp] theorem State.peak_nd (s : State) (i v : Nat) : (s.peak i v).nd = s.nd := rfl
@[simp] theorem State.peak_host (s : State) (i v : Nat) : (s.peak i v).host = s.host := rfl
@[simp] theorem State.peak_cfg (s : State) (i v : Nat) : (s.peak i v).cfg = s.cfg := rfl
@[simp] theorem State.peak_field (s : State) (i v : Nat) : (s.peak i v).field = s.field := rfl
@[simp] theorem State.peak_alarm (s : State) (i v : Nat) : (s.peak i v).alarm = s.alarm := rfl
@[simp] theorem State.peak_bell (s : State) (i v : Nat) : (s.peak i v).bell = s.bell := rfl
@[simp] theorem State.peak_grn (s : State) (i v : Nat) : (s.peak i v).grn = s.grn := rfl
@[simp] theorem State.peak_clk (s : State) (i v : Nat) : (s.peak i v).clk = s.clk := rfl
@[simp] theorem State.peak_ponor (s : State) (i v : Nat) : (s.peak i v).ponor = s.ponor := rfl
@[simp] theorem State.peak_pair (s : State) (i v : Nat) : (s.peak i v).pair = s.pair := rfl
@[simp] theorem State.peak_toll (s : State) (i v : Nat) : (s.peak i v).toll = s.toll := rfl

@[simp] theorem State.draw_pending (s : State) : s.draw.2.pending = s.pending := rfl
@[simp] theorem State.draw_out (s : State) : s.draw.2.out = s.out := rfl
@[simp] theorem State.draw_now (s : State) : s.draw.2.now = s.now := rfl
@[simp] theorem State.draw_node (s : State) : s.draw.2.node = s.node := rfl
@[simp] theorem State.draw_nd (s : State) : s.draw.2.nd = s.nd := rfl
@[simp] theorem State.draw_host (s : State) : s.draw.2.host = s.host := rfl
@[simp] theorem State.draw_cfg (s : State) : s.draw.2.cfg = s.cfg := rfl
@[simp] theorem State.draw_field (s : State) : s.draw.2.field = s.field := rfl
@[simp] theorem State.draw_alarm (s : State) : s.draw.2.alarm = s.alarm := rfl
@[simp] theorem State.draw_bell (s : State) : s.draw.2.bell = s.bell := rfl
@[simp] theorem State.draw_grn (s : State) : s.draw.2.grn = s.grn := rfl
@[simp] theorem State.draw_clk (s : State) : s.draw.2.clk = s.clk := rfl
@[simp] theorem State.draw_ponor (s : State) : s.draw.2.ponor = s.ponor := rfl
@[simp] theorem State.draw_pair (s : State) : s.draw.2.pair = s.pair := rfl
@[simp] theorem State.draw_toll (s : State) : s.draw.2.toll = s.toll := rfl
@[simp] theorem State.draw_trace (s : State) : s.draw.2.trace = s.trace := rfl
@[simp] theorem State.draw_free (s : State) : s.draw.2.free = s.free + 1 := rfl
@[simp] theorem State.draw_fst (s : State) : s.draw.1 = s.free := rfl

theorem State.modCh_other (s : State) (k j : Nat) (f : ChanRun → ChanRun) (h : j ≠ k) : (s.modCh k f).ch j = s.ch j :=
  tget_tset_ne _ _ k j _ h

@[simp] theorem State.modCh_same (s : State) (k : Nat) (f : ChanRun → ChanRun) :
    (s.modCh k f).ch k = f (s.ch k) :=
  tget_tmod_same _ _ k f

theorem State.modSup_other (s : State) (k j : Nat) (f : SupRun → SupRun) (h : j ≠ k) : (s.modSup k f).sup j = s.sup j :=
  tget_tset_ne _ _ k j _ h

@[simp] theorem State.modSup_same (s : State) (k : Nat) (f : SupRun → SupRun) :
    (s.modSup k f).sup k = f (s.sup k) :=
  tget_tmod_same _ _ k f

theorem State.modOut_other (s : State) (k j : Nat) (f : OutRun → OutRun) (h : j ≠ k) : (s.modOut k f).outp j = s.outp j :=
  tget_tset_ne _ _ k j _ h

@[simp] theorem State.modOut_same (s : State) (k : Nat) (f : OutRun → OutRun) :
    (s.modOut k f).outp k = f (s.outp k) :=
  tget_tmod_same _ _ k f

theorem State.modHart_other (s : State) (k j : Nat) (f : HartRun → HartRun) (h : j ≠ k) : (s.modHart k f).hrt j = s.hrt j :=
  tget_tset_ne _ _ k j _ h

@[simp] theorem State.modHart_same (s : State) (k : Nat) (f : HartRun → HartRun) :
    (s.modHart k f).hrt k = f (s.hrt k) :=
  tget_tmod_same _ _ k f

theorem State.modDio_other (s : State) (k j : Nat) (f : DioRun → DioRun) (h : j ≠ k) : (s.modDio k f).dio j = s.dio j :=
  tget_tset_ne _ _ k j _ h

@[simp] theorem State.modDio_same (s : State) (k : Nat) (f : DioRun → DioRun) :
    (s.modDio k f).dio k = f (s.dio k) :=
  tget_tmod_same _ _ k f

theorem State.modLamp_other (s : State) (k j : Nat) (f : LampRun → LampRun) (h : j ≠ k) : (s.modLamp k f).lamp j = s.lamp j :=
  tget_tset_ne _ _ k j _ h

@[simp] theorem State.modLamp_same (s : State) (k : Nat) (f : LampRun → LampRun) :
    (s.modLamp k f).lamp k = f (s.lamp k) :=
  tget_tmod_same _ _ k f

theorem State.modBay_other (s : State) (k j : Nat) (f : BayRun → BayRun) (h : j ≠ k) : (s.modBay k f).bay j = s.bay j :=
  tget_tset_ne _ _ k j _ h

@[simp] theorem State.modBay_same (s : State) (k : Nat) (f : BayRun → BayRun) :
    (s.modBay k f).bay k = f (s.bay k) :=
  tget_tmod_same _ _ k f

theorem State.modLane_other (s : State) (k j : Nat) (f : LaneRun → LaneRun) (h : j ≠ k) : (s.modLane k f).lane j = s.lane j :=
  tget_tset_ne _ _ k j _ h

@[simp] theorem State.modLane_same (s : State) (k : Nat) (f : LaneRun → LaneRun) :
    (s.modLane k f).lane k = f (s.lane k) :=
  tget_tmod_same _ _ k f

theorem State.modPt_other (s : State) (k j : Nat) (f : PtRun → PtRun) (h : j ≠ k) : (s.modPt k f).pt j = s.pt j :=
  tget_tset_ne _ _ k j _ h

@[simp] theorem State.modPt_same (s : State) (k : Nat) (f : PtRun → PtRun) :
    (s.modPt k f).pt k = f (s.pt k) :=
  tget_tmod_same _ _ k f

theorem State.modRing_other (s : State) (k j : Nat) (f : RingRun → RingRun) (h : j ≠ k) : (s.modRing k f).ring j = s.ring j :=
  tget_tset_ne _ _ k j _ h

@[simp] theorem State.modRing_same (s : State) (k : Nat) (f : RingRun → RingRun) :
    (s.modRing k f).ring k = f (s.ring k) :=
  tget_tmod_same _ _ k f

theorem State.modPort_other (s : State) (k j : Nat) (f : PortRun2 → PortRun2) (h : j ≠ k) : (s.modPort k f).port j = s.port j :=
  tget_tset_ne _ _ k j _ h

@[simp] theorem State.modPort_same (s : State) (k : Nat) (f : PortRun2 → PortRun2) :
    (s.modPort k f).port k = f (s.port k) :=
  tget_tmod_same _ _ k f

theorem State.modSess_other (s : State) (k j : Nat) (f : Session → Session) (h : j ≠ k) : (s.modSess k f).sess j = s.sess j :=
  tget_tset_ne _ _ k j _ h

@[simp] theorem State.modSess_same (s : State) (k : Nat) (f : Session → Session) :
    (s.modSess k f).sess k = f (s.sess k) :=
  tget_tmod_same _ _ k f

theorem State.modTollPt_other (s : State) (k j : Nat) (f : TollPoint → TollPoint) (h : j ≠ k) : (s.modTollPt k f).tollPt j = s.tollPt j :=
  tget_tset_ne _ _ k j _ h

@[simp] theorem State.modTollPt_same (s : State) (k : Nat) (f : TollPoint → TollPoint) :
    (s.modTollPt k f).tollPt k = f (s.tollPt k) :=
  tget_tmod_same _ _ k f

theorem State.modPanel_other (s : State) (k j : Nat) (f : PanelRun → PanelRun) (h : j ≠ k) : (s.modPanel k f).panel j = s.panel j :=
  tget_tset_ne _ _ k j _ h

@[simp] theorem State.modPanel_same (s : State) (k : Nat) (f : PanelRun → PanelRun) :
    (s.modPanel k f).panel k = f (s.panel k) :=
  tget_tmod_same _ _ k f

end Sys2Proof.Machine
end

