-- ==== Sys2Proof/Laws/Rest.lean ====
section
/-! SUPPORT. What tracing, recording and replying leave alone. -/

namespace Sys2Proof.Machine

@[simp] theorem rest_ite (c : Prop) [Decidable c] (a b : State) :
    (if c then a else b).rest = if c then a.rest else b.rest := by
  split <;> rfl

theorem quiet_refl (s : State) : Quiet s s := rfl

theorem quiet_trans {a b c : State} (h : Quiet a b) (g : Quiet b c) : Quiet a c := Eq.trans g h

@[simp] theorem emit_rest (s : State) (e : Emission) : (s.emit e).rest = s.rest := (rfl)
@[simp] theorem count_rest (s : State) (i k : Nat) : (s.count i k).rest = s.rest := (rfl)
@[simp] theorem peak_rest (s : State) (i v : Nat) : (s.peak i v).rest = s.rest := (rfl)
@[simp] theorem draw_rest (s : State) : s.draw.2.rest = s.rest := (rfl)
@[simp] theorem modSess_rest (s : State) (k : Nat) (f : Session → Session) : (s.modSess k f).rest = s.rest := (rfl)
@[simp] theorem tracePut_rest (kind : Nat) (pl : List Byte) (s : State) : (tracePut kind pl s).rest = s.rest := (rfl)
@[simp] theorem traceDropped_rest (s : State) : (traceDropped s).rest = s.rest := by
  simp only [traceDropped]; split <;> rfl
@[simp] theorem traceRec_rest (kind : Nat) (pl : List Byte) (s : State) : (traceRec kind pl s).rest = s.rest := by
  simp only [traceRec]
  split
  · rfl
  · split
    · simp
    · exact traceDropped_rest s
@[simp] theorem traceFlip_rest (g : Nat) (r : Region) (n : Nat) (s : State) : (traceFlip g r n s).rest = s.rest := by simp [traceFlip]
@[simp] theorem submitAt_rest (p : GrnPort) (c : Nat) (t : Micros) (pl : List Byte) (s : State) :
    (submitAt p c t pl s).rest = s.rest := by
  simp only [submitAt]
  split
  · rfl
  · (repeat' split) <;> rfl
@[simp] theorem submit_rest (p : GrnPort) (c : Nat) (pl : List Byte) (s : State) : (submit p c pl s).rest = s.rest := by
  simp [submit]
@[simp] theorem hwEvent_rest (w : Nat) (s : State) : (hwEvent w s).rest = s.rest := by simp [hwEvent]
@[simp] theorem chanEvent_rest (c n a b x : Nat) (v : Word32) (s : State) : (chanEvent c n a b x v s).rest = s.rest := by
  simp [chanEvent]
@[simp] theorem traceCmd_rest (k n : Nat) (p : Packet) (pl : List Byte) (s : State) : (traceCmd k n p pl s).rest = s.rest := by
  simp [traceCmd]
@[simp] theorem sessionRecord_rest (k e : Nat) (ss : Session) (s : State) : (sessionRecord k e ss s).rest = s.rest := by
  simp [sessionRecord]
@[simp] theorem commandRecord_rest (tk : Ticket) (st : Nat) (s : State) : (commandRecord tk st s).rest = s.rest := by
  simp [commandRecord]
@[simp] theorem send_rest (p : Packet) (s : State) : (send p s).rest = s.rest := by
  unfold send
  extract_lets auth s1
  have h : s1.rest = s.rest := traceCmd_rest ..
  clear_value s1
  split
  · exact h
  · split
    · exact h
    · split <;> exact h
@[simp] theorem busy_rest (s : State) :
    ({ s with host := { s.host with busyReplies := s.host.busyReplies + 1 } } : State).rest = s.rest := (rfl)
@[simp] theorem answer_rest (tk : Ticket) (st : Nat) (pl : List Byte) (s : State) : (answer tk st pl s).rest = s.rest := by
  simp [answer]
@[simp] theorem passTable_rest (s : State) : (passTable s).rest = s.rest := by simp [passTable]
@[simp] theorem finish_rest (cls : Rights) (tk : Ticket) (st : Nat) (pl : List Byte) (s : State) :
    (finish cls tk st pl s).rest = s.rest := by
  simp only [finish]
  split
  · rfl
  · simp
@[simp] theorem reply_rest (tk : Ticket) (st : Nat) (pl : List Byte) (s : State) : (reply tk st pl s).rest = s.rest := by
  simp [reply]
@[simp] theorem inProgress_rest (tk : Ticket) (s : State) : (inProgress tk s).rest = s.rest := by simp [inProgress]
@[simp] theorem dequeue_rest (p : Packet) (s : State) : (dequeue p s).rest = s.rest := (rfl)
@[simp] theorem heard_rest (rq : Request) (s : State) : (heard rq s).rest = s.rest := by simp [heard]
@[simp] theorem takenState_rest (cls : Rights) (rq : Request) (s : State) : (takenState cls rq s).rest = s.rest := by
  simp [takenState]
@[simp] theorem begun_rest (op : Nat) (rq : Request) (cls : Rights) (s : State) :
    (begun op rq cls s).rest = (s.begin rq.t).rest := by
  simp [begun]

end Sys2Proof.Machine
end

