-- ==== Sys2Proof/Laws/Requests.lean ====
section
/-! SUPPORT. Requests: when Table 16.4 takes one, what state its chapter begins in, and that its final reply goes out. -/

namespace Sys2Proof.Machine

/-- The checks let a request through that passes them (R474). -/
theorem verdict_of_passes (op : Nat) (rq : Request) (cls : Rights) (pl : List Byte) (s : State) (h : Passes op rq cls pl s) :
    verdict op rq s = .take cls pl := by
  obtain ⟨hr, hl, hm, hv, hlen, ht, ha, hc⟩ := h
  have hs : (!rq.link.svc && !rq.link.viaPeer && rq.source != rq.link.src) = false := by
    rcases hl with h | h | h <;> simp [h]
  have hshort : (hasBit rq.flags flagAuth = true ∧ rq.payload.length < 32) = False := by
    rcases hc with ⟨_, _, _, _, h⟩ | ⟨_, _, _, ss, _, _, _, _, h, _⟩
    · simp [h]
    · simp only [eq_iff_iff, iff_false, not_and, Nat.not_lt]
      exact fun h' => (h h').1
  have hf : frameVerdict rq s = none := by
    simp only [frameVerdict, hv, hshort, ne_eq, not_true_eq_false, if_false, or_false, Nat.not_lt.mpr hlen]
    rcases ht with h | h <;> simp [h]
  simp only [verdict, hr, hs, hm, hf, ha, Bool.or_false, Bool.false_eq_true, if_false]
  rcases hc with ⟨h0, rfl, rfl, h255, hna⟩ | ⟨hn, h0, h1, ss, hss, rfl, rfl, hauth, hmac, hrt, hfresh, hout⟩
  · simp [h0, h255, hna]
  · cases ho : opClass op with
    | none => exact absurd ho hn
    | some c =>
      cases c with
      | zero => exact absurd ho h0
      | succ c =>
        have hmac' : (hasBit rq.flags flagAuth && !(macOf ss.key { reqPacket rq op with payload := bareBytes rq } ==
            rq.payload.drop (bareBytes rq).length)) = false := by
          cases hb : hasBit rq.flags flagAuth with
          | false => rfl
          | true => simp [(hmac hb).2]
        have hau : (decide (2 ≤ classOf op (bareBytes rq) s) && !hasBit rq.flags flagAuth) = false := by
          by_cases h2 : 2 ≤ classOf op (bareBytes rq) s
          · simp [hauth h2]
          · simp [h2]
        simp only [sessionVerdict, hss, hau, hmac', Bool.false_eq_true, if_false, Nat.not_lt.mpr hrt, sequenceVerdict]
        rcases hfresh with hd | ⟨hd, hk⟩
        · simp [hd, Nat.not_le.mpr hout]
        · have hd' : ¬(1 ≤ seqDiff rq.sequence ss.high ∧ seqDiff rq.sequence ss.high ≤ 256) ∨
              (1 ≤ seqDiff rq.sequence ss.high ∧ seqDiff rq.sequence ss.high ≤ 256) := by omega
          rcases hd' with hd' | hd'
          · simp [hd, hd', hk, Nat.not_le.mpr hout]
          · simp [hd', Nat.not_le.mpr hout]

theorem nd_of_rest {a b : State} (h : a.rest = b.rest) : a.nd = b.nd := (congrArg State.nd h :)
theorem pair_of_rest {a b : State} (h : a.rest = b.rest) : a.pair = b.pair := (congrArg State.pair h :)
theorem toll_of_rest {a b : State} (h : a.rest = b.rest) : a.toll = b.toll := (congrArg State.toll h :)
theorem cfg_of_rest {a b : State} (h : a.rest = b.rest) : a.cfg = b.cfg := (congrArg State.cfg h :)
theorem bulk_of_rest {a b : State} (h : a.rest = b.rest) : a.host.bulk = b.host.bulk :=
  (congrArg (fun s => s.host.bulk) h :)

theorem executes_of_rest {a b : State} (h : a.rest = b.rest) : a.executes = b.executes := by
  unfold State.executes State.sourcing State.peerDuty State.onDuty State.baseMode State.paired State.peerMode State.peerLost State.atB State.alive
    State.logicOn State.held
  rw [nd_of_rest h, pair_of_rest h]

theorem tollBars_of_rest {a b : State} (h : a.rest = b.rest) (op : Nat) (pl : List Byte) : a.tollBars op pl = b.tollBars op pl := by
  simp only [State.tollBars, State.tollOwns, toll_of_rest h]

theorem unitAllowed_of_rest {a b : State} (h : a.rest = b.rest) (op : Nat) (pl : List Byte) :
    unitAllowed op pl a = unitAllowed op pl b := by
  unfold unitAllowed classOf State.bulkOf
  rw [bulk_of_rest h]

/-- A taken request is its chapter's work on the state in which that begins. -/
theorem runPacket_taken {op : Nat} {rq : Request} {cls : Rights} {pl : List Byte} {s : State} (h : Taken op rq cls pl s)
    (body : Rights → Ticket → List Byte → State → State) :
    runPacket op rq body s = body cls (reqTicket rq op) pl (begun op rq cls s) := by
  obtain ⟨ha, hp, ht, hu⟩ := h
  have hv := verdict_of_passes op rq cls pl _ hp
  have hr := begun_rest op rq cls s
  have ht' : (begun op rq cls s).tollBars op pl = false := (tollBars_of_rest hr op pl).trans ht
  have hu' : ((begun op rq cls s).executes || unitAllowed op pl (begun op rq cls s)) = true := by
    rw [executes_of_rest hr, unitAllowed_of_rest hr]; exact hu
  simp only [runPacket, ha, if_true, runRequest, hv, Verdict.step]
  change (if (begun op rq cls s).tollBars op pl = true then _ else
    if ((begun op rq cls s).executes || unitAllowed op pl (begun op rq cls s)) = true then
      body cls (reqTicket rq op) pl (begun op rq cls s) else _) = _
  rw [ht', hu']
  rfl

/-! The session of a taken request holds its number as outstanding. -/

@[simp] theorem traceRec_host (kind : Nat) (pl : List Byte) (s : State) : (traceRec kind pl s).host = s.host := by
  have hd (s : State) : (traceDropped s).host = s.host := by simp only [traceDropped]; split <;> rfl
  simp only [traceRec]
  split
  · rfl
  · split
    · exact hd s
    · exact hd s

@[simp] theorem traceCmd_host (k n : Nat) (p : Packet) (pl : List Byte) (s : State) : (traceCmd k n p pl s).host = s.host :=
  traceRec_host ..

@[simp] theorem submitAt_host (p : GrnPort) (c : Nat) (t : Micros) (pl : List Byte) (s : State) :
    (submitAt p c t pl s).host = s.host := by
  simp only [submitAt]
  split
  · rfl
  · (repeat' split) <;> rfl

@[simp] theorem sessionRecord_host (k e : Nat) (ss : Session) (s : State) : (sessionRecord k e ss s).host = s.host :=
  submitAt_host ..

@[simp] theorem commandRecord_host (tk : Ticket) (st : Nat) (s : State) : (commandRecord tk st s).host = s.host :=
  submitAt_host ..

@[simp] theorem passTable_host (s : State) : (passTable s).host = s.host := by
  simp only [passTable]; split <;> rfl

theorem sess_of_host {a b : State} (h : a.host = b.host) (k : Nat) : a.sess k = b.sess k := by
  simp only [State.sess, h]

theorem sessionFor_of_host {a b : State} (h : a.host = b.host) (k : Nat) (l : Link) : a.sessionFor k l = b.sessionFor k l := by
  simp only [State.sessionFor, sess_of_host h]

theorem expects_of_sessions {a b : State} (h : a.host.sessions = b.host.sessions) (tk : Ticket) : a.expects tk = b.expects tk := by
  unfold State.expects State.sessionFor State.sess
  rw [h]

theorem markOf_setMark (ss : Session) (n : Nat) (m : SeqMark) : markOf (setMark ss n m) n = some m := by
  have h : (ss.marks.filter fun x => x.1 != n).find? (fun m => m.1 == n) = none := by
    rw [List.find?_eq_none]
    intro x hx
    simp only [List.mem_filter, bne_iff_ne] at hx
    simp [hx.2]
  simp [markOf, setMark, List.find?_append, h]

theorem sessionFor_some {s : State} {k : Nat} {l : Link} {ss : Session} (h : s.sessionFor k l = some ss) :
    k < 8 ∧ ss.state ≠ .free ∧ sameSender ss.link l = true ∧ s.sess k = ss := by
  simp only [State.sessionFor] at h
  split at h
  · rename_i hc
    simp only [Bool.and_eq_true, decide_eq_true_eq] at hc
    simp only [Option.some.injEq] at h
    exact ⟨hc.1.1, h ▸ hc.1.2, h ▸ hc.2, h⟩
  · cases h

theorem dequeue_sess (p : Packet) (s : State) (k : Nat) : (dequeue p s).sess k = s.sess k := (rfl)

/-- What a valid packet does to its session. -/
def hearing (rq : Request) (now : Micros) (ss : Session) : Session :=
  { ss with lastValid := now, state := if hasBit rq.flags flagAuth then .proven else ss.state }

theorem hearing_open (rq : Request) (now : Micros) (ss : Session) (h : ss.state ≠ .free) : (hearing rq now ss).state ≠ .free := by
  simp only [hearing]; split
  · simp
  · exact h

theorem heard_sess (rq : Request) (s : State) :
    (heard rq s).sess rq.session = hearing rq s.now (s.sess rq.session) := by
  have hm : (s.modSess rq.session (hearing rq s.now)).sess rq.session = hearing rq s.now (s.sess rq.session) :=
    State.modSess_same ..
  unfold heard
  dsimp only
  split
  · exact (sess_of_host (sessionRecord_host ..) _).trans hm
  · exact hm

theorem takeNumber_keeps (n : Nat) (f : Session) : (takeNumber n f).state = f.state ∧ (takeNumber n f).link = f.link ∧
    (takeNumber n f).key = f.key ∧ (takeNumber n f).rights = f.rights ∧ (takeNumber n f).keySlot = f.keySlot ∧
    markOf (takeNumber n f) n = some .outstanding := by
  have h : ∃ hi ms, takeNumber n f = { f with high := hi, marks := ms } := by
    unfold takeNumber
    generalize seqDiff n f.high = d
    dsimp only
    split <;> exact ⟨_, _, rfl⟩
  have hm : markOf (takeNumber n f) n = some .outstanding := markOf_setMark ..
  refine ⟨?_, ?_, ?_, ?_, ?_, hm⟩ <;> (obtain ⟨hi, ms, e⟩ := h; rw [e])

theorem takenState_sess (cls : Rights) (rq : Request) (s : State) (hc : cls ≠ 0) :
    (takenState cls rq s).sess rq.session = takeNumber rq.sequence (hearing rq s.now (s.sess rq.session)) := by
  simp only [takenState, hc, if_false]
  rw [sess_of_host (passTable_host _), sess_of_host (State.count_host ..), State.modSess_same, heard_sess rq s]

/-- The session right after a number has been taken in it. -/
theorem begun_session {op : Nat} {rq : Request} {cls : Rights} {s : State} {ss : Session} (hc : cls ≠ 0)
    (h : (s.begin rq.t).sessionFor rq.session rq.link = some ss) :
    ∃ ss', (begun op rq cls s).sessionFor rq.session rq.link = some ss' ∧ markOf ss' rq.sequence = some .outstanding ∧
      ss'.key = ss.key ∧ ss'.rights = ss.rights ∧ ss'.link = ss.link ∧ ss'.keySlot = ss.keySlot := by
  obtain ⟨hk, hf, hl, he⟩ := sessionFor_some h
  unfold begun
  have ha : (traceCmd 0x10 13 (reqPacket rq op) (bareBytes rq) (dequeue (reqPacket rq op) (s.begin rq.t))).sess rq.session = ss := by
    rw [sess_of_host (traceCmd_host ..), dequeue_sess, he]
  generalize traceCmd 0x10 13 (reqPacket rq op) (bareBytes rq) (dequeue (reqPacket rq op) (s.begin rq.t)) = a at ha ⊢
  have hb := takenState_sess cls rq a hc
  rw [ha] at hb
  obtain ⟨k1, k2, k3, k4, k5, k6⟩ := takeNumber_keeps rq.sequence (hearing rq a.now ss)
  refine ⟨_, ?_, k6, k3, k4, k2, k5⟩
  have hl' : sameSender (takeNumber rq.sequence (hearing rq a.now ss)).link rq.link = true := by rw [k2]; exact hl
  simp only [State.sessionFor, hb, hk, k1, hl', hearing_open rq a.now ss hf, ne_eq, not_false_eq_true, decide_true, Bool.and_self,
    if_true]

/-- A taken request has its place in its session. -/
theorem begun_expects {op : Nat} {rq : Request} {cls : Rights} {pl : List Byte} {s : State} (h : Taken op rq cls pl s) :
    (begun op rq cls s).expects (reqTicket rq op) = true := by
  obtain ⟨_, ⟨_, _, _, _, _, _, _, hc⟩, _⟩ := h
  rcases hc with ⟨_, _, _, h255, _⟩ | ⟨_, _, h1, ss, hs, _⟩
  · simp [State.expects, reqTicket, h255]
  · obtain ⟨ss', hs', hm, _⟩ := begun_session (op := op) (cls := cls) (Nat.one_le_iff_ne_zero.mp h1) hs
    simp [State.expects, reqTicket, hs', hm]

/-! A final reply. -/

theorem sent_of_send (p : Packet) (s : State) : Sent p (send p s) := by
  unfold send
  extract_lets auth s1
  clear_value s1
  split
  · exact Or.inr (Or.inl (by simp))
  · split
    · exact Or.inl (by simp)
    · split
      · exact Or.inr (Or.inr (Or.inl (by simp)))
      · exact Or.inr (Or.inr (Or.inr (by simp)))

theorem replied_of_answer (tk : Ticket) (st : Nat) (pl : List Byte) (s : State) : Replied tk st pl (answer tk st pl s) := by
  unfold answer
  extract_lets s1
  refine ⟨_, sent_of_send _ _, ?_⟩
  have hf : ∀ (a b : Bool), hasBit (128 + (if a then 64 else 0) + (if b then 8 else 16)) flagReply = true := by decide
  simp only [replyPacket]
  split
  · exact ⟨hf _ _, rfl, rfl, rfl, rfl, rfl, rfl, List.prefix_append ..⟩
  · exact ⟨hf _ _, rfl, rfl, rfl, rfl, rfl, rfl, List.prefix_refl _⟩

/-- The final reply of a request that has its place goes out. -/
theorem replied_of_finish (cls : Rights) (tk : Ticket) (st : Nat) (pl : List Byte) (s : State) (h : s.expects tk = true) :
    Replied tk st pl (finish cls tk st pl s) := by
  simp only [finish, h]
  exact replied_of_answer ..

/-- A taken command of reply kind I is finished with what its part answers. -/
theorem answerNow_taken {op : Nat} {rq : Request} {cls : Rights} {pl : List Byte} {s : State} (h : Taken op rq cls pl s)
    (f : Ticket → List Byte → State → Nat × List Byte × State) :
    answerNow op rq f s = .next (finish cls (reqTicket rq op) (f (reqTicket rq op) pl (begun op rq cls s)).1
      (f (reqTicket rq op) pl (begun op rq cls s)).2.1 (f (reqTicket rq op) pl (begun op rq cls s)).2.2) := by
  rw [answerNow, runPacket_taken h]

/-- A command of reply kind I is served where its part answers DONE and keeps the sessions. -/
theorem serves_of {op : Nat} {row : Request → Instr} {ok : Ticket → List Byte → State → Prop}
    {bytes : Ticket → List Byte → State → List Byte} {effect : Ticket → List Byte → State → State}
    (f : Ticket → List Byte → State → Nat × List Byte × State) (hrow : ∀ rq s, exec (row rq) s = answerNow op rq f s)
    (hf : ∀ tk pl s, ok tk pl s → ∃ s', f tk pl s = (stDone, bytes tk pl s, s') ∧ s'.rest = (effect tk pl s).rest ∧
      s'.host.sessions = s.host.sessions) : Serves op row ok bytes effect := by
  intro rq cls pl s ht hok
  obtain ⟨s', he, hr, hs⟩ := hf _ _ _ hok
  refine ⟨_, (hrow rq s).trans (answerNow_taken ht f), ?_, ?_⟩
  · rw [he]
    exact (finish_rest ..).trans hr
  · rw [he]
    exact replied_of_finish _ _ _ _ _ ((expects_of_sessions hs _).trans (begun_expects ht))

/-- A read is served where its part answers DONE and leaves the state, free values apart. -/
theorem reads_of {op : Nat} {row : Request → Instr} {ok : List Byte → State → Prop} {bytes : List Byte → State → List Byte}
    (f : Ticket → List Byte → State → Nat × List Byte × State) (hrow : ∀ rq s, exec (row rq) s = answerNow op rq f s)
    (hf : ∀ tk pl s, ok pl s → ∃ n, f tk pl s = (stDone, bytes pl s, { s with free := n })) : Reads op row ok bytes :=
  serves_of f hrow fun tk pl s h => by
    obtain ⟨n, hn⟩ := hf tk pl s h
    exact ⟨_, hn, rfl, rfl⟩

/-- A command whose part is `body` is accepted where that part is `effect`. -/
theorem accepts_of {op : Nat} {row : Request → Instr} {ok : Ticket → List Byte → State → Prop}
    {effect : Rights → Ticket → List Byte → State → State} (body : Rights → Ticket → List Byte → State → State)
    (hrow : ∀ rq s, exec (row rq) s = .next (runPacket op rq body s))
    (hb : ∀ cls tk pl s, ok tk pl s → body cls tk pl s = effect cls tk pl s) : Accepts op row ok effect := by
  intro rq cls pl s ht hok
  rw [hrow, runPacket_taken ht, hb _ _ _ _ hok]

end Sys2Proof.Machine
end

