-- ==== Sys2Proof/Machine/FrontLamps.lean ====
section
/-! DEFINITION. The front status lamps (R90, R99, R114, R116, R117, Table 2.5): what each shows, as a function of the state. -/

namespace Sys2Proof.Machine

/-- What a front lamp shows. -/
inductive LampShow where
  | off | steady | doubleFlash
  /-- Flashing at 1 Hz, 2 Hz, 4 Hz, 8 Hz. -/
  | flash (hertz : Nat)
  /-- Flash 0.25 Hz: 250 ms on in each 4 s. -/
  | slow
  deriving DecidableEq, Repr

/-- The MODE lamp (Table 2.5). A node held in cold reset counts as in BOOT (R116). -/
def State.modeLamp (s : State) : LampShow :=
  if !s.logicOn then .off
  else match s.nd.mode with
    | .dormant => .off
    | .duty => .steady
    | .standby => .flash 1
    | .boot => .flash 4
    | .commission => .flash 4
    | .resync => .flash 4
    | .hold => .doubleFlash
    | .safe => .slow

/-- What makes the FAULT lamp flash: pair discrepancy (R456), slot mismatch (R506), an unsupported SFP (R90), a module supply
input lost (R99), nRESET classed as stuck (R114). -/
def State.faultShown (s : State) : Bool :=
  (s.paired && decide (s.pair.faults % 8192 ≠ 0)) || s.cfg.slotMismatch || s.nd.sfp.any (·.2.refused) ||
    s.nd.power.lostA || s.nd.power.lostB || s.nd.cause.getLsbD 7

/-- The FAULT lamp (Table 2.5). -/
def State.faultLamp (s : State) : LampShow :=
  if !s.logicOn then .off
  else if s.nd.mode = .safe then .steady
  else if s.faultShown then .flash 1 else .off

/-- The WITHDRAW lamp (Tables 2.4, 2.5). -/
def State.withdrawLamp (s : State) : LampShow :=
  match s.nd.withdraw with
  | .off => .off
  | .flash2 => .flash 2
  | .steady => .steady
  | .flash8 => .flash 8

/-- The reservoir's charger runs: while the logic domain is on and until the reservoir stands at 5.0 V (R103, Table 3.2). -/
def State.charging (s : State) : Bool := s.logicOn && decide (s.nd.power.vRes < 5)

end Sys2Proof.Machine
end

