-- ==== Sys2Proof/Tests/Slice0.lean ====
section
/-! SUPPORT. Tests of single commands, and for every statement operands and a state that meet its hypotheses. Expected values are the
spec's own, by its tables and rules. -/

set_option Elab.async false

namespace Sys2Proof.Tests
open Sys2Proof Sys2Proof.Machine

/-! States to try commands on. -/

/-- The sender of the test requests: a host on SVC. -/
def host : Link := ⟨true, false, 0, 0, 0⟩

/-- Its session, opened with a key of the highest rights. -/
def session : Session := { Session.closed with state := .proven, rights := 4, link := host, notifyHold := 100 }

/-- A unit that runs in a mode, on a solo base, with session 0 open. -/
def unit (m : Mode) : State :=
  { State.reset with
    nd := { NodeSt.reset with mode := m }
    host := { HostSt.reset with sessions := [(0, session)] } }

/-- The unit in COMMISSION. -/
def lab : State := unit .commission

/-- The unit in DUTY. -/
def duty : State := unit .duty

/-- A request of `host` in session 0, with its MAC. -/
def ask (op : Nat) (pl : List Byte) (s : State) : Request :=
  let q : Request := ⟨s.now, host, 1, 0x60, 0, 0, 0, 1, 0, 0, 0, []⟩
  { q with payload := pl ++ macOf session.key { reqPacket q op with payload := pl } }

/-- What lets a request of `ask` past the checks of Table 16.4. -/
def passes? (op cls : Nat) (pl : List Byte) (s : State) : Bool :=
  let x := s.begin s.now
  !x.nd.mgmtStalled && decide (x.addressed 0x60 = .here) && decide (opClass op ≠ none) && decide (opClass op ≠ some 0) &&
    decide (x.sessionFor 0 host = some session) && decide (classOf op pl x = cls) && decide (1 ≤ cls) && decide (cls ≤ 4) &&
    decide (pl.length ≤ 992)

/-- What lets it through to its chapter. -/
def taken? (op cls : Nat) (pl : List Byte) (s : State) : Bool :=
  let x := s.begin s.now
  passes? op cls pl s && x.alive && !x.tollBars op pl && (x.executes || unitAllowed op pl x)

theorem shaBytes_length (x : ShaState) : (shaBytes x).length = 32 := by
  simp [shaBytes, le]

theorem macOf_length (k : List Byte) (p : Packet) : (macOf k p).length = 32 := shaBytes_length _

/-- The check of `passes?` is enough. -/
theorem passes_ask {op cls : Nat} {pl : List Byte} {s : State} (h : passes? op cls pl s = true) :
    Passes op (ask op pl s) cls pl (s.begin s.now) := by
  simp only [passes?, Bool.and_eq_true, decide_eq_true_eq, Bool.not_eq_true'] at h
  obtain ⟨⟨⟨⟨⟨⟨⟨⟨h2, h3⟩, h4⟩, h5⟩, h6⟩, h7⟩, h8⟩, h9⟩, h10⟩ := h
  have hl : (ask op pl s).payload.length = pl.length + 32 := by simp [ask, macOf_length]
  have hb : bareBytes (ask op pl s) = pl := by
    have : hasBit (ask op pl s).flags flagAuth = true := by simp only [ask]; decide
    simp only [bareBytes, this, if_true, hl]
    simp [ask]
  refine ⟨(by decide : hasBit 0x60 flagReply = false), .inl rfl, h2, rfl, by omega,
    .inl (by decide : hasBit 0x60 flagLocal = true), h3, .inr ⟨h4, h5, h8, session, h6, hb.symm, ?_,
      fun _ => (by decide : hasBit 0x60 flagAuth = true), ?_, h9, ?_, ?_⟩⟩
  · exact h7.symm
  · intro _
    refine ⟨by omega, ?_⟩
    simp [ask, reqPacket]
  · exact .inl (by decide : 1 ≤ seqDiff 1 0 ∧ seqDiff 1 0 ≤ 256)
  · decide

theorem taken_ask {op cls : Nat} {pl : List Byte} {s : State} (h : taken? op cls pl s = true) : Taken op (ask op pl s) cls pl s := by
  simp only [taken?, Bool.and_eq_true, Bool.not_eq_true'] at h
  exact ⟨h.1.1.2, passes_ask h.1.1.1, h.1.2, h.2⟩

/-- Some request is taken with operands that satisfy `ok`. -/
def Asked (op : Nat) (ok : Ticket → List Byte → State → Prop) : Prop :=
  ∃ rq cls pl s, Taken op rq cls pl s ∧ ok (reqTicket rq op) pl (begun op rq cls s)

theorem asked {op : Nat} {ok : Ticket → List Byte → State → Prop} (cls : Nat) (pl : List Byte) (s : State)
    (h : taken? op cls pl s = true) (k : ok (reqTicket (ask op pl s) op) pl (begun op (ask op pl s) cls s)) : Asked op ok :=
  ⟨_, _, _, _, taken_ask h, k⟩

/-- Some state, with time moved on, satisfies a guard. -/
def Occurs (guard : State → Prop) : Prop := ∃ t s, guard (State.begin s t)

theorem occurs {guard : State → Prop} (s : State) (h : guard (s.begin s.now)) : Occurs guard := ⟨_, _, h⟩

/-- `s` with parameters in force. -/
def wired (c : Cfg) (s : State) : State := { s with cfg := { s.cfg with inForce := c } }

/-- `s` with channel `n` set to a function with a wiring. -/
def as (n fn wiring : Nat) (s : State) : State := wired ([(Subj.pid .ch n 0, fn), (Subj.pid .ch n 1, wiring)] ++ s.cfg.inForce) s

/-- `s` with bay 15 running and its gate open. -/
def live (s : State) : State := s.modBay 15 fun y => { y with state := .running, claim := true }

/-- `s` at a time. -/
def at_ (t : Nat) (s : State) : State := { s with now := t, node := t }

/-- A heartbeat of a peer in a mode, eligible. -/
def beat (mode : Nat) : Heartbeat := ⟨mode, false, false, false, true, false, false, false, false, 0xFFFF, 0, 0, 0, 0, 0, 0⟩

/-- A unit in a mode in position A of a pair whose other unit sends heartbeats of a mode. -/
def pair (m : Mode) (peer : Nat) : State :=
  let s := unit m
  { s with nd := { s.nd with pairBase := true, peerPres := true }, pair := { s.pair with hb := some (beat peer) } }

/-- The ticket of a request of `host` that something waits for. -/
def tk : Ticket := ⟨host, 0x20, 0, 0, 0, 1, 0⟩

/-- A sessionless request of `host`. -/
def open_ (pl : List Byte) (s : State) : Request := ⟨s.now, host, 1, 0x20, 255, 0, 0, 1, 0, 0, 0, pl⟩

theorem taken_open {op : Nat} {pl : List Byte} {s : State} (h : ((s.begin s.now).alive && !(s.begin s.now).nd.mgmtStalled &&
    decide ((s.begin s.now).addressed 0x20 = .here) && decide (opClass op = some 0) && decide (pl.length ≤ 1024) &&
    !(s.begin s.now).tollBars op pl && ((s.begin s.now).executes || unitAllowed op pl (s.begin s.now))) = true) :
    Taken op (open_ pl s) 0 pl s := by
  simp only [Bool.and_eq_true, decide_eq_true_eq, Bool.not_eq_true'] at h
  obtain ⟨⟨⟨⟨⟨⟨h1, h2⟩, h3⟩, h4⟩, h5⟩, h6⟩, h7⟩ := h
  exact ⟨h1, ⟨(by decide : hasBit 0x20 flagReply = false), .inl rfl, h2, rfl, h5, .inl (by decide : hasBit 0x20 flagLocal = true), h3,
    .inl ⟨h4, rfl, rfl, rfl, (by decide : hasBit 0x20 flagAuth = false)⟩⟩, h6, h7⟩

theorem opened {op : Nat} {ok : Ticket → List Byte → State → Prop} (pl : List Byte) (s : State)
    (h : ((s.begin s.now).alive && !(s.begin s.now).nd.mgmtStalled &&
    decide ((s.begin s.now).addressed 0x20 = .here) && decide (opClass op = some 0) && decide (pl.length ≤ 1024) &&
    !(s.begin s.now).tollBars op pl && ((s.begin s.now).executes || unitAllowed op pl (s.begin s.now))) = true)
    (k : ok (reqTicket (open_ pl s) op) pl (begun op (open_ pl s) 0 s)) : Asked op ok :=
  ⟨_, _, _, _, taken_open h, k⟩

/-- A unit with a session that has staged channel 511 as a current output. -/
def staging : State :=
  { lab with cfg := { lab.cfg with staged := [(Subj.pid .ch 511 0, some 7)], stageOwner := some 0 } }

/-- The setup of the last object of a kind as the staged configuration of `staging` has it, a curve with its end above
its start. -/
def lastSetup (j : Subj) : List Byte :=
  let bs := setupBytes [(Subj.pid .ch 511 0, 7)] j (j.count - 1)
  if j = .curve then overlay bs 8 (f32Bytes 1) else bs

/-- A committed bank without records. -/
def good : Bank := { Bank.blank with sound := true, committed := true }

/-- `s` with channel `n` a current input with HART polling over a modem. -/
def modem (n m : Nat) (s : State) : State :=
  wired [(Subj.pid .ch n 0, 2), (Subj.pid .hart n 0, 1)] (s.modCh n fun r => { r with modem := m })

/-- The request that sets it. -/
def setLast (j : Subj) : Request := ask (setRow j).1 (lastSetup j) staging

theorem stages (j : Subj) : ∃ st, stageTry 0 (setupChanges j (j.count - 1) (lastSetup j)) (begun (setRow j).1 (setLast j) 3 staging) =
    .ok st := by
  have h : (stageTry 0 (setupChanges j (j.count - 1) (lastSetup j)) (begun (setRow j).1 (setLast j) 3 staging)).toBool = true := by
    cases j <;> decide +kernel
  cases he : stageTry 0 (setupChanges j (j.count - 1) (lastSetup j)) (begun (setRow j).1 (setLast j) 3 staging) with
  | ok st => exact ⟨st, rfl⟩
  | error e => rw [he] at h; cases h

theorem lastSetup_ok (j : Subj) : (lastSetup j).length = j.size ∧ fieldAt (lastSetup j) 0 j.keyLen = j.count - 1 ∧
    (reservedOf j (lastSetup j)).any (· != 0#8) = false ∧ firstBad j (lastSetup j) = none := by
  cases j <;> decide +kernel

/-- `s` with session 0 changed. -/
def talking (f : Session → Session) (s : State) : State := s.modSess 0 f

/-- A transfer on the configuration image at handle 3. -/
def transfer (write : Bool) (total : Nat) (closing : Option Ticket) : Bulk :=
  ⟨1, write, 0, total, [], [], 0, 0, closing, []⟩

/-- A unit with that transfer. -/
def moving (write : Bool) (total : Nat) (closing : Option Ticket) : State :=
  { lab with host := { lab.host with bulk := [(3, some (transfer write total closing))] } }

/-- `s` with a valid image in slot 1. -/
def otherImage (s : State) : State := { s with cfg := { s.cfg with fw1 := { FwSlot.blank with state := .valid } } }

/-- `s` on trial. -/
def trial (s : State) : State :=
  { s with cfg := { s.cfg with fw0 := { s.cfg.fw0 with state := .trial }, trialFrom := some 0 } }

/-- A unit whose Toll partition runs, in a state. -/
def toll (st : TollState) (opened : Bool) : State :=
  { lab with toll := { lab.toll with state := st, switchOpen := opened, fwOk := true, set := some [] } }

/-- A unit whose live bank sets HB_ENABLE and whose other bank is blank of records. -/
def twoBanks : State :=
  { lab with cfg := { lab.cfg with
      bank0 := { good with gen := 2, records := [(0x11000001, 1)] }, bank1 := { good with gen := 1 }, inForce := [(0x11000001, 1)] } }


/-- `s` with its supply supervision changed. -/
def pow (f : PowerSt → PowerSt) (s : State) : State := s.modPower f

/-- `s` with its node state changed. -/
def nd (f : NodeSt → NodeSt) (s : State) : State := s.modNd f

/-- A supply at one voltage throughout. -/
def volts (v : Rat) : Supply := ⟨v, v, v⟩

/-- A unit whose logic domain is off. -/
def dark (s : State) : State := pow (fun p => { p with onSince := none }) s

/-- A unit at a time with one alarm point at the last place: a COMPUTED one with its FSRC and FLAGS. -/
def oneTag (fsrc flags : Nat) (r : PtRun) (t : Nat) : State :=
  let s := at_ t (wired [(Subj.pid .pt 65535 0, 5), (Subj.pid .pt 65535 5, fsrc), (Subj.pid .pt 65535 4, flags)] duty)
  { s with alarm := { s.alarm with pts := [(65535, r)] } }

/-- A unit with the Hopper Bell enabled, at its first tick, and the dead man's alarm returned but not acknowledged. -/
def ringing (f : BellSt → BellSt) : State :=
  (at_ 100000 (wired [(0x11000001, 1)] duty)).modBell fun b => f { b with sys := [(10, .rtnUnack)] }

/-- That unit with a key pressed at panel slot 63. -/
def pressed (k : Key) : State := ringing fun b => { b with panels := [(63, { PanelRun.initial with key := some ⟨1, k, 0⟩ })] }

/-- A unit on duty that polls panel slot 63 on bus A. -/
def panelled : State := wired [(0x11000001, 1), (0x11030000 + 4 * 63, 1), (0x11030000 + 4 * 63 + 1, 1), (0x11030000 + 4 * 63 + 2, 9)] duty

/-- It waits for the panel's reply. -/
def polled : State := setWait false (some ⟨63, 4, 0⟩) panelled

/-- `s` with its Granary draining urgently. -/
def urgently (s : State) : State := { s with grn := { s.grn with urgent := true, recovering := false } }

/-- `s` with its Granary recovered. -/
def found (s : State) : State := { s with grn := { s.grn with recovering := false } }

/-- `s` with trusted time. -/
def trusted (s : State) : State :=
  { s with clk := { s.clk with oscStop := false, lowBak := false, rangeEnd := false } }

/-- A unit at a time with channel 511 set to a function with a wiring and other parameters, its bay running. -/
def ch511 (fn wiring : Nat) (c : Cfg) (t : Nat) : State :=
  at_ t (live (wired ([(Subj.pid .ch 511 0, fn), (Subj.pid .ch 511 1, wiring)] ++ c) lab))

/-- Changes of what runs on channel 511, bay 15 and lane 31. -/
def chan (f : ChanRun → ChanRun) (s : State) : State := s.modCh 511 f
def supv (f : SupRun → SupRun) (s : State) : State := s.modSup 511 f
def outp (f : OutRun → OutRun) (s : State) : State := s.modOut 511 f
def hrt (f : HartRun → HartRun) (s : State) : State := s.modHart 511 f
def digi (f : DioRun → DioRun) (s : State) : State := s.modDio 511 f
def lamp (f : LampRun → LampRun) (s : State) : State := s.modLamp 511 f
def bay (f : BayRun → BayRun) (s : State) : State := s.modBay 15 f

/-- A unit with lane 31 armed on channel 511. -/
def laned (f : LaneRun → LaneRun) (t : Nat) : State :=
  (at_ t (live (wired [(Subj.pid .ch 511 0, 18), (Subj.pid .lane 31 3, 511)] lab))).modLane 31 fun r => f { r with state := .armed }

/-- A HART exchange under way, and a device. -/
def exchange : HartTrans := ⟨.poll, 15, 0, 3, [], 2, 0, false⟩
def device : HartDev := ⟨15, .found, 0, 0, 0, f32NaN, f32NaN, f32NaN, f32NaN, f32NaN, 0, none, none⟩

/-- A closed switch. -/
def shut : SwitchRun := { SwitchRun.initial with closed := true }

/-- A frame of ring 1 from another unit with all 63 hops behind it, and a unit whose port 0 is up. -/
def frame (pl : List Byte) : Frame := ⟨true, false, false, false, 1, 63, 0, 0, 1, 0, 1, 1, Config.unitAddress + 1, pl, 0x9C4D, false, 64⟩
def ringed (s : State) : State := s.modPort 0 fun y => { y with state := .up }

theorem frame_unit (pl : List Byte) : (frame pl).unit ≠ Config.unitAddress := Nat.succ_ne_self _

/-- How that unit receives that frame. -/
theorem received (kind : Nat) (pl : List Byte) (s : State)
    (h : (s.logicOn && !s.nd.dataStalled && (s.portState ((0 : Port) : Nat)).works && (s.ringId 0 == 1)) = true) :
    receive kind ((0 : Port) : Nat) (frame pl) s = (true, hearUnit 0 (frame pl).unit
      (if (frame pl).unit == (s.port 0).nUnit then s.modPort 0 fun x => { x with bytes := x.bytes + 84 } else s)) := by
  simp only [Bool.and_eq_true, Bool.not_eq_true', beq_iff_eq] at h
  obtain ⟨⟨⟨h1, h2⟩, h3⟩, h4⟩ := h
  have hf : forward kind ((0 : Port) : Nat) (frame pl) = id := by
    funext x
    simp [forward, State.forwards, frame]
  have hg : foreignFrame (frame pl) = false := rfl
  simp only [receive, h1, h2, h3, hf, hg, if_neg (frame_unit pl)]
  simp [police, wireBytes, frame, h4]

theorem named : fieldAt (frame (le 6 Config.unitAddress ++ [])).payload 0 6 = Config.unitAddress := by
  show fieldAt (le 6 Config.unitAddress ++ []) 0 6 = _
  rw [fieldAt_le]
  exact Nat.mod_eq_of_lt Config.unitBits.isLt

theorem noteMore_copying (k : Nat) (f : Frame) (s : State) : (noteMore k f s).copying = s.copying := by
  unfold noteMore; split <;> rfl

theorem hearUnit_copying (k unit : Nat) (s : State) : (hearUnit k unit s).copying = s.copying := rfl

theorem firstCopy_copying (kind p : Nat) (f : Frame) (s : State) : (firstCopy kind p f s).2.copying = s.copying := by
  unfold firstCopy
  simp only []
  split
  · split <;> rfl
  · rfl

theorem not_copying : (noteMore 0 (frame []) (firstCopy 6 0 (frame [])
    (receive 6 ((0 : Port) : Nat) (frame []) ((ringed duty).begin (ringed duty).now)).2).2).copying = false := by
  rw [noteMore_copying, firstCopy_copying, received 6 [] _ (by decide +kernel), hearUnit_copying]
  split <;> decide +kernel

theorem some_of {α : Type} {o : Option α} (h : o.isSome = true) : ∃ y, o = some y := Option.isSome_iff_exists.mp h

/-- `s` with a record at intake port 3. -/
def submitting (s : State) : State :=
  { s with grn := { GranarySt.reset with recovering := false, ports := [(3, ⟨[⟨0x080, 0, [1#8]⟩], []⟩)] } }

/-- `s` at a time with its pair state changed. -/
def paired (t : Nat) (f : PairSt → PairSt) (s : State) : State := at_ t { s with pair := f s.pair }

/-- A commit of nothing, and `s` with a commit under way. -/
def change : Commit := ⟨4, 0, none, false, false, [], [], [], 0, false, false, false, 0, []⟩
def changing (c : Commit) (s : State) : State := { s with cfg := { s.cfg with commit := some c } }

/-- A channel whose reference check may run goes first where no other of its bay is ready and none has run. -/
theorem first_ref {n d : Nat} {x : State} (h : x.refReady n = some d)
    (k : ∀ m ∈ bayChans (bayOf n), m ≠ n → x.refReady m = none) (l : (x.bay (bayOf n)).refUser = none) :
    x.refReady n = some d ∧
      (∀ m ∈ bayChans (bayOf n), m ≠ n → ∀ e, x.refReady m = some e → d < e ∨ d = e ∧ n < m) ∧
      ∀ u e, (x.bay (bayOf n)).refUser = some (u, e) → e + 2200 ≤ x.node :=
  ⟨h, fun m hm hn _ he => by simp [k m hm hn] at he, fun _ _ hu => by simp [l] at hu⟩

/-- The setup of the last object of every kind meets the hypotheses of SetupCommandsStage. -/
theorem test_meets_SetupCommandsStage : ∀ j : Subj, ∃ st, Asked (setRow j).1 fun tk pl s =>
    pl.length = j.size ∧ fieldAt pl 0 j.keyLen < j.count ∧ (tollHeld (j.pid (fieldAt pl 0 j.keyLen) 0) && s.tollOwns) = false ∧
      (reservedOf j pl).any (· != 0#8) = false ∧ firstBad j pl = none ∧
      stageTry tk.session (setupChanges j (fieldAt pl 0 j.keyLen) pl) s = .ok st := by
  intro j
  obtain ⟨st, h⟩ := stages j
  obtain ⟨h1, h2, h3, h4⟩ := lastSetup_ok j
  refine ⟨st, asked 3 (lastSetup j) staging (by cases j <;> decide +kernel) ?_⟩
  rw [h2]
  exact ⟨h1, by cases j <;> decide, by cases j <;> decide +kernel, h3, h4, h⟩

/-- Operands and states that meet the hypotheses of SetupsAreReturned, clause by clause. -/
theorem test_meets_SetupsAreReturned :
    ∀ j : Subj, ∃ c, Asked (getRow j).1 fun _ pl s => pl.length = j.keyLen + 1 ∧ fieldAt pl 0 j.keyLen < j.count ∧ s.bankView
      (byteAt pl j.keyLen) = some c :=
  fun j => ⟨[(Subj.pid .ch 511 0, 7)], asked 1 (le j.keyLen (j.count - 1) ++ [1#8]) staging (by cases j <;> decide +kernel)
    (by cases j <;> decide +kernel)⟩

/-- Operands and states that meet the hypotheses of FieldReadsAnswer, clause by clause. -/
theorem test_meets_FieldReadsAnswer :
    (Asked 0x0203 (fun _ => fun pl _ => pl.length = 2 ∧ fieldAt pl 0 2 < 512)) ∧
    (Asked 0x0204 (fun _ => fun pl _ => pl.length = 1 ∧ fieldAt pl 0 1 < 16)) ∧
    (Asked 0x0215 (fun _ => fun pl _ => pl.length = 2 ∧ fieldAt pl 0 2 < 512)) ∧
    (Asked 0x0222 (fun _ => fun pl _ => pl.length = 2 ∧ fieldAt pl 0 2 < 512)) ∧
    (Asked 0x0233 (fun _ => fun pl _ => pl.length = 2 ∧ fieldAt pl 0 2 < 512)) ∧
    (Asked 0x0243 (fun _ => fun pl _ => pl.length = 2 ∧ fieldAt pl 0 2 < 512)) ∧
    (Asked 0x0253 (fun _ => fun pl _ => pl.length = 2 ∧ fieldAt pl 0 2 < 512)) ∧
    (Asked 0x0263 (fun _ => fun pl _ => pl.length = 2 ∧ fieldAt pl 0 2 < 512)) ∧
    (Asked 0x0285 (fun _ => fun pl _ => pl.length = 1 ∧ fieldAt pl 0 1 < 32)) ∧
    (Asked 0x0272 (fun _ => fun pl _ => pl.length = 2 ∧ byteAt pl 0 < 16 ∧ hasBit (byteAt pl 1) 0 = false)) ∧
    (Asked 0x0272 (fun _ pl _ => pl.length = 2 ∧ byteAt pl 0 < 16 ∧ hasBit (byteAt pl 1) 0 = true)) :=
  ⟨asked 1 [255#8, 1#8] lab (by decide +kernel) (by decide +kernel),
   asked 1 [15#8] lab (by decide +kernel) (by decide +kernel),
   asked 1 [255#8, 1#8] lab (by decide +kernel) (by decide +kernel),
   asked 1 [255#8, 1#8] lab (by decide +kernel) (by decide +kernel),
   asked 1 [255#8, 1#8] lab (by decide +kernel) (by decide +kernel),
   asked 1 [255#8, 1#8] lab (by decide +kernel) (by decide +kernel),
   asked 1 [255#8, 1#8] lab (by decide +kernel) (by decide +kernel),
   asked 1 [255#8, 1#8] lab (by decide +kernel) (by decide +kernel),
   asked 1 [31#8] lab (by decide +kernel) (by decide +kernel),
   asked 1 [15#8, 0#8] lab (by decide +kernel) (by decide +kernel),
   asked 2 [15#8, 1#8] lab (by decide +kernel) (by decide +kernel)⟩

/-- Operands and states that meet the hypotheses of NodeReadsAnswer, clause by clause. -/
theorem test_meets_NodeReadsAnswer :
    (Asked 0x0301 (fun _ => fun pl _ => pl = [])) ∧
    (Asked 0x1003 (fun _ => fun pl _ => pl.length = 2)) ∧
    (Asked 0x1004 (fun _ => fun pl _ => pl.length = 4 ∧ 1 ≤ fieldAt pl 2 2 ∧ fieldAt pl 2 2 ≤ 127 ∧ fieldAt pl 0 2 + fieldAt
      pl 2 2 ≤ 65536)) ∧
    (Asked 0x1032 (fun _ => fun pl _ => pl.length = 2 ∧ fieldAt pl 0 2 < 16384)) ∧
    (Asked 0x1101 (fun _ => fun pl _ => pl = [])) ∧
    (Asked 0x1201 (fun _ pl _ => pl = [])) ∧
    (Asked 0x1304 (fun _ => fun pl _ => pl = [])) ∧
    (Asked 0x1401 (fun _ => fun pl _ => pl = [])) ∧
    (Asked 0x1403 (fun _ => fun pl _ => pl.length = 3 ∧ (byteAt pl 2 = 0 ∧ fieldAt pl 0 2 < 1024 ∨ byteAt pl 2 = 1 ∧ fieldAt
      pl 0 2 < 512))) ∧
    (Asked 0x1501 (fun _ => fun pl _ => pl = [])) ∧
    (Asked 0x1603 (fun _ => fun pl _ => pl = [])) ∧
    (Asked 0x1604 (fun _ pl _ => pl = [])) ∧
    (∃ (c : Cfg), Asked 0x1702 (fun _ pl s => pl.length = 5 ∧ byteAt pl 4 ≤ 2 ∧ s.bankRecords (byteAt pl 4) = some c)) ∧
    (Asked 0x1705 (fun _ => fun pl _ => pl = [])) ∧
    (∃ (c : CalCopy), Asked 0x1710 (fun _ => fun pl s => pl = [] ∧ s.cal = some c)) ∧
    (Asked 0x1720 (fun _ => fun pl _ => pl = [])) ∧
    (Asked 0x1801 (fun _ => fun pl _ => pl = [])) ∧
    (Asked 0x1802 (fun _ => fun pl s => pl.length = 2 ∧ 1 ≤ byteAt pl 1 ∧ byteAt pl 0 + byteAt pl 1 ≤ 16 ∧ s.tollRuns = true)) ∧
    (Asked 0x1903 (fun _ pl _ => pl = [])) :=
  ⟨asked 1 [] lab (by decide +kernel) (by decide +kernel),
   asked 1 [255#8, 255#8] lab (by decide +kernel) (by decide +kernel),
   asked 1 [129#8, 255#8, 127#8, 0#8] lab (by decide +kernel) (by decide +kernel),
   asked 1 [255#8, 63#8] lab (by decide +kernel) (by decide +kernel),
   asked 1 [] lab (by decide +kernel) (by decide +kernel),
   asked 1 [] lab (by decide +kernel) (by decide +kernel),
   asked 1 [] lab (by decide +kernel) (by decide +kernel),
   asked 1 [] lab (by decide +kernel) (by decide +kernel),
   asked 1 [255#8, 3#8, 0#8] lab (by decide +kernel) (by decide +kernel),
   asked 1 [] lab (by decide +kernel) (by decide +kernel),
   asked 1 [] lab (by decide +kernel) (by decide +kernel),
   opened [] lab (by decide +kernel) (by decide +kernel),
   ⟨[], asked 1 [0#8, 0#8, 0#8, 0#8, 2#8] { lab with cfg := { lab.cfg with bank0 := good, bank1 := good } }
     (by decide +kernel) (by decide +kernel)⟩,
   asked 1 [] lab (by decide +kernel) (by decide +kernel),
   ⟨CalCopy.factory, asked 1 [] lab (by decide +kernel) (by decide +kernel)⟩,
   asked 1 [] lab (by decide +kernel) (by decide +kernel),
   asked 1 [] lab (by decide +kernel) (by decide +kernel),
   asked 1 [15#8, 1#8] { lab with toll := { lab.toll with fwOk := true } } (by decide +kernel) (by decide +kernel),
   asked 1 [] lab (by decide +kernel) (by decide +kernel)⟩

/-- Operands and states that meet the hypotheses of MailboxCommandsWait, clause by clause. -/
theorem test_meets_MailboxCommandsWait :
    (Asked 0x0232 (fun _ pl s => outWriteCheck pl s = none)) ∧
    (Asked 0x0252 (fun _ pl s => doWriteCheck pl s = none)) ∧
    (Asked 0x0254 (fun _ pl s => pl.length = 8 ∧ fieldAt pl 0 2 < 512 ∧ s.fn (fieldAt pl 0 2) = .cnt ∧ s.nd.mode = .duty)) ∧
    (Asked 0x0262 (fun _ pl s => lampWriteCheck pl s = none)) ∧
    (Asked 0x0282 (fun _ pl s => laneArmCheck pl s = none)) ∧
    (Asked 0x0283 (fun _ pl s => laneDisarmCheck pl s = none)) ∧
    (Asked 0x0284 (fun _ pl s => laneResetCheck pl s = none)) ∧
    (Asked 0x1010 (fun _ pl _ => pl.length = 4)) ∧
    (Asked 0x1011 (fun _ pl _ => pl.length = 4)) ∧
    (Asked 0x1012 (fun _ pl _ => pl.length = 4 ∧ byteAt pl 2 ≤ 1 ∧ hasBit (byteAt pl 3) 0 = true)) ∧
    (Asked 0x1033 (fun _ pl _ => pl.length = 12 ∧ fieldAt pl 0 2 < 16384)) ∧
    (Asked 0x1102 (fun _ pl _ => pl.length = 16 ∧ (byteAt pl 0 < 16 ∨ byteAt pl 0 = 255))) ∧
    (Asked 0x1103 (fun _ pl _ => pl.length = 2)) :=
  ⟨asked 2 [255#8, 1#8, 0#8, 0#8, 0#8, 0#8] (as 511 7 0 duty) (by decide +kernel) (by decide +kernel),
   asked 2 [255#8, 1#8, 1#8] (as 511 10 0 duty) (by decide +kernel) (by decide +kernel),
   asked 2 [255#8, 1#8, 0#8, 0#8, 0#8, 0#8, 0#8, 0#8] (as 511 12 0 duty) (by decide +kernel) (by decide +kernel),
   asked 2 [255#8, 1#8, 2#8] (as 511 16 0 duty) (by decide +kernel) (by decide +kernel),
   asked 2 [31#8, 0#8, 0#8, 0#8, 0#8, 0#8, 0#8, 0#8] duty (by decide +kernel) (by decide +kernel),
   asked 3 [31#8, 1#8] duty (by decide +kernel) (by decide +kernel),
   asked 2 [31#8] duty (by decide +kernel) (by decide +kernel),
   asked 2 [255#8, 255#8, 0#8, 0#8] duty (by decide +kernel) (by decide +kernel),
   asked 2 [255#8, 255#8, 0#8, 0#8] duty (by decide +kernel) (by decide +kernel),
   asked 3 [255#8, 255#8, 1#8, 1#8] duty (by decide +kernel) (by decide +kernel),
   asked 2 ([255#8, 63#8] ++ zeros 10) duty (by decide +kernel) (by decide +kernel),
   asked 2 ([15#8] ++ zeros 15) duty (by decide +kernel) (by decide +kernel),
   asked 2 [0#8, 0#8] duty (by decide +kernel) (by decide +kernel)⟩

/-- Operands and states that meet the hypotheses of ChannelWorkBegins, clause by clause. -/
theorem test_meets_ChannelWorkBegins :
    (Asked 0x0214 (fun _ pl s => pl.length = 2 ∧ fieldAt pl 0 2 < 512 ∧ (s.fn (fieldAt pl 0 2)).excited = true ∧ wiringIn
      s.cfg.inForce (fieldAt pl 0 2) = 2 ∧ s.noCapture (fieldAt pl 0 2) = false ∧ (s.ch (fieldAt pl 0 2)).capture = none)) ∧
    (∃ (n : Chan) (c : LeadCapture), Occurs (fun x => (x.ch n).capture = some c ∧ 10 ≤ c.count)) ∧
    (Asked 0x0223 (fun _ pl s => pl.length = 2 ∧ fieldAt pl 0 2 < 512 ∧ s.supervised (fieldAt pl 0 2) = true ∧ s.gate (bayOf
      (fieldAt pl 0 2)) = true)) ∧
    (Asked 0x0223 (fun _ pl s => pl.length = 2 ∧ fieldAt pl 0 2 = 0xFFFF ∧ ∀ n < 512, s.supervised n = true → s.gate (bayOf n)
      = true)) ∧
    (Asked 0x0224 (fun _ pl s => pl.length = 2 ∧ fieldAt pl 0 2 < 512 ∧ s.supervised (fieldAt pl 0 2) = true ∧ s.gate (bayOf
      (fieldAt pl 0 2)) = true ∧ (s.sup (fieldAt pl 0 2)).check = none)) ∧
    (Asked 0x0242 (fun _ pl s => pl.length = 2 ∧ fieldAt pl 0 2 < 512 ∧ s.hartMode (fieldAt pl 0 2) ≠ 0 ∧ (s.ch (fieldAt pl 0
      2)).modem < 8 ∧ (s.hrt (fieldAt pl 0 2)).scan.isSome = true)) ∧
    (Asked 0x0242 (fun tk pl s => pl.length = 2 ∧ fieldAt pl 0 2 < 512 ∧ s.hartMode (fieldAt pl 0 2) ≠ 0 ∧ (s.ch (fieldAt pl 0
      2)).modem < 8 ∧ ((s.modHart (fieldAt pl 0 2) fun h => { h with scanTickets := h.scanTickets ++ [tk] }).hrt (fieldAt pl 0
      2)).scan = none)) ∧
    (Asked 0x0244 (fun _ pl s => 6 ≤ pl.length ∧ pl.length = 6 + byteAt pl 4 ∧ fieldAt pl 0 2 < 512 ∧ byteAt pl 2 ≤ 15 ∧
      s.hartMode (fieldAt pl 0 2) ≠ 0 ∧ s.gate (bayOf (fieldAt pl 0 2)) = true ∧ byteAt pl 3 ≠ 6 ∧ byteAt pl 3 ≠ 109 ∧ (byteAt
      pl 3 = 0 ∨ ((s.hrt (fieldAt pl 0 2)).dev (byteAt pl 2)).isSome = true) ∧ (s.hrt (fieldAt pl 0 2)).queue.length < 4)) ∧
    (Asked 0x0264 (fun _ pl s => pl.length = 2 ∧ fieldAt pl 0 2 < 512 ∧ s.fn (fieldAt pl 0 2) = .lamp ∧ (s.outp (fieldAt pl 0
      2)).drive = 1 ∧ (s.dio (fieldAt pl 0 2)).switch.closed = true ∧ (s.lamp (fieldAt pl 0 2)).onAt + s.lampBlank (fieldAt pl
      0 2) + 1000000 ≤ s.now ∧ (s.lamp (fieldAt pl 0 2)).learn = none)) ∧
    (∃ (n : Chan) (l : LampLearn), Occurs (fun x => (x.lamp n).learn = some l ∧ 1000 ≤ l.count)) :=
  ⟨asked 3 [255#8, 1#8] (live (as 511 5 2 lab)) (by decide +kernel) (by decide +kernel),
   ⟨511, ⟨tk, 0, 10⟩, occurs (lab.modCh 511 fun r => { r with capture := some ⟨tk, 0, 10⟩ }) (by decide +kernel)⟩,
   asked 3 [255#8, 1#8] (live (as 511 1 0 lab)) (by decide +kernel) (by decide +kernel),
   asked 3 [255#8, 255#8] (live (as 511 1 0 lab)) (by decide +kernel) (by decide +kernel),
   asked 2 [255#8, 1#8] (live (as 511 1 0 lab)) (by decide +kernel) (by decide +kernel),
   asked 3 [255#8, 1#8] ((modem 511 7 lab).modHart 511 fun h => { h with scan := some 3 }) (by decide +kernel)
     (by decide +kernel),
   asked 3 [255#8, 1#8] (modem 511 7 lab) (by decide +kernel) (by decide +kernel),
   asked 3 [255#8, 1#8, 15#8, 0#8, 0#8, 0#8] (live (modem 511 7 lab)) (by decide +kernel) (by decide +kernel),
   asked 3 [255#8, 1#8] (((at_ 2000000 (as 511 16 0 lab)).modOut 511 fun o => { o with drive := 1 }).modDio 511 fun d =>
     { d with switch := { d.switch with closed := true } }) (by decide +kernel) (by decide +kernel),
   ⟨511, ⟨tk, 0, 0, 1000⟩, occurs (lab.modLamp 511 fun l => { l with learn := some ⟨tk, 0, 0, 1000⟩ }) (by decide +kernel)⟩⟩

/-- Operands and states that meet the hypotheses of PowerCommandsAct, clause by clause. -/
theorem test_meets_PowerCommandsAct :
    (Asked 0x0305 (fun _ pl _ => pl.length = 4)) ∧
    (∃ (s' : State), Asked 0x0303 (fun tk pl s => pl.length = 2 ∧ byteAt pl 0 < 8 ∧ ¬(s.nd.mode = .duty ∧ byteAt pl 0 = 4) ∧
      modeSet (byteAt pl 0) (hasBit (byteAt pl 1) 0) (inProgress tk s) = some s')) ∧
    (Asked 0x0303 (fun _ pl s => pl.length = 2 ∧ s.nd.mode = .duty ∧ byteAt pl 0 = 4 ∧ s.paired = true ∧ s.peerReady = true ∧
      s.host.afterHandover = none)) ∧
    (Asked 0x0302 (fun _ pl s => pl.length = 2 ∧ (byteAt pl 0 = 1 ∨ byteAt pl 0 = 2) ∧ (hasBit (byteAt pl 1) 0 = true ∨
      s.paired = false ∨ s.onDuty = false ∨ s.peerMode = 4))) ∧
    (Asked 0x0304 (fun _ pl s => pl.length = 9 ∧ (s.paired = true ∧ s.onDuty = false ∨ s.paired = false ∧ hasBit (byteAt pl 8)
      0 = true))) :=
  ⟨asked 2 [122#8, 0#8, 0#8, 0#8] lab (by decide +kernel) (by decide +kernel),
   ⟨askCommission (inProgress (reqTicket (ask 0x0303 [2#8, 1#8] (unit .boot)) 0x0303) (begun 0x0303 (ask 0x0303 [2#8, 1#8]
     (unit .boot)) 4 (unit .boot))), asked 4 [2#8, 1#8] (unit .boot) (by decide +kernel)
     (by (repeat' apply And.intro) <;> first | decide +kernel | rfl)⟩,
   asked 4 [4#8, 1#8] (pair .duty 4) (by decide +kernel) (by decide +kernel),
   asked 4 [2#8, 1#8] lab (by decide +kernel) (by decide +kernel),
   asked 4 (zeros 8 ++ [1#8]) lab (by decide +kernel) (by decide +kernel)⟩

/-- Operands and states that meet the hypotheses of GranaryCommandsAct, clause by clause. -/
theorem test_meets_GranaryCommandsAct :
    (Asked 0x1202 (fun tk pl s => pl.length = 6 ∧ 16 ≤ fieldAt pl 4 2 ∧ fieldAt pl 4 2 ≤ 1004 ∧ s.freezeOf tk.session = none)) ∧
    (∃ (f : Freeze), Asked 0x1202 (fun tk pl s => pl.length = 6 ∧ 16 ≤ fieldAt pl 4 2 ∧ fieldAt pl 4 2 ≤ 1004 ∧ s.freezeOf
      tk.session = some f)) ∧
    (Asked 0x1203 (fun _ pl s => pl = [] ∧ s.grn.freeze = none)) ∧
    (∃ (f : Freeze), Asked 0x1203 (fun tk pl s => pl = [] ∧ s.grn.freeze = some f ∧ f.holder = tk.session)) ∧
    (Asked 0x1204 (fun tk pl s => pl = [] ∧ (s.freezeOf tk.session).isSome = true)) :=
  ⟨asked 1 [0#8, 0#8, 0#8, 0#8, 16#8, 0#8] lab (by decide +kernel) (by decide +kernel),
   ⟨⟨0, 0, 9, 0, 0⟩, asked 1 [0#8, 0#8, 0#8, 0#8, 236#8, 3#8]
     { lab with grn := { lab.grn with freeze := some ⟨0, 0, 9, 0, 0⟩ } } (by decide +kernel) (by decide +kernel)⟩,
   asked 1 [] lab (by decide +kernel) (by decide +kernel),
   ⟨⟨0, 0, 9, 0, 0⟩, asked 1 [] { lab with grn := { lab.grn with freeze := some ⟨0, 0, 9, 0, 0⟩ } } (by decide +kernel)
     (by decide +kernel)⟩,
   asked 1 [] { lab with grn := { lab.grn with freeze := some ⟨0, 0, 9, 0, 0⟩ } } (by decide +kernel) (by decide +kernel)⟩

/-- Operands and states that meet the hypotheses of ClockCommandsAct, clause by clause. -/
theorem test_meets_ClockCommandsAct :
    (Asked 0x1301 (fun _ pl _ => pl = [])) ∧
    (Asked 0x1302 (fun _ pl _ => pl.length = 32 ∧ (byteAt pl 0 = 1 ∨ byteAt pl 0 = 2))) ∧
    (Asked 0x1303 (fun _ pl s => pl.length = 8 ∧ (fieldAt pl 0 8 = 0 ∨ s.leapOk (fieldAt pl 0 8) = true) ∧ s.clk.source ≠
      .ring)) ∧
    (Asked 0x1305 (fun _ => fun pl _ => pl.length = 2 ∧ 64 ≤ byteAt pl 0 ∧ 1 ≤ byteAt pl 1 ∧ byteAt pl 0 + byteAt pl 1 ≤ 128)) ∧
    (Asked 0x1306 (fun _ pl _ => pl.length = byteAt pl 1 + 2 ∧ 64 ≤ byteAt pl 0 ∧ 1 ≤ byteAt pl 1 ∧ byteAt pl 0 + byteAt pl 1
      ≤ 128)) :=
  ⟨asked 1 [] lab (by decide +kernel) (by decide +kernel),
   asked 3 (2#8 :: zeros 31) lab (by decide +kernel) (by decide +kernel),
   asked 3 (zeros 8) lab (by decide +kernel) (by decide +kernel),
   asked 1 [64#8, 64#8] lab (by decide +kernel) (by decide +kernel),
   asked 2 [127#8, 1#8, 5#8] lab (by decide +kernel) (by decide +kernel)⟩

/-- Operands and states that meet the hypotheses of PairAndPortCommandsAct, clause by clause. -/
theorem test_meets_PairAndPortCommandsAct :
    (Asked 0x1402 (fun _ => fun pl _ => pl.length = 2 ∧ byteAt pl 0 < 4 ∧ hasBit (byteAt pl 1) 0 = false)) ∧
    (Asked 0x1402 (fun _ pl _ => pl.length = 2 ∧ byteAt pl 0 < 4 ∧ hasBit (byteAt pl 1) 0 = true)) ∧
    (Asked 0x1502 (fun _ pl _ => pl.length = 1 ∧ hasBit (byteAt pl 0) 0 = true)) ∧
    (Asked 0x1503 (fun _ pl s => pl.length = 1 ∧ hasBit (byteAt pl 0) 0 = true ∧ s.peerMode = 4)) :=
  ⟨asked 1 [3#8, 0#8] lab (by decide +kernel) (by decide +kernel),
   asked 2 [3#8, 1#8] lab (by decide +kernel) (by decide +kernel),
   asked 3 [1#8] lab (by decide +kernel) (by decide +kernel),
   asked 3 [1#8] (pair .duty 4) (by decide +kernel) (by decide +kernel)⟩

/-- Operands and states that meet the hypotheses of SessionsOpenAndClose, clause by clause. -/
theorem test_meets_SessionsOpenAndClose :
    (∃ (key : List Byte) (rights ports k : Nat), Asked 0x1601 (fun tk pl s => pl.length = 36 ∧ byteAt pl 0 < 8 ∧ s.keySlot
      (byteAt pl 0) = (key, rights, ports) ∧ rights ≠ 0 ∧ hasBit ports (bit tk.link.svc) = true ∧ s.sessionPlace = some (k,
      false))) ∧
    (Asked 0x1602 (fun _ pl _ => pl = [])) ∧
    (∃ (k : Fin 8), Occurs (fun x => x.alive = true ∧ (x.paired = false ∨ x.executes = true) ∧ (x.sess k).state ≠ .free ∧
      (x.sess k).lastValid + 1000000 * x.param 0x16000001 ≤ x.now)) ∧
    (∃ (tab : List SessCopy), Occurs (fun x => x.alive = true ∧ x.paired = true ∧ x.onDuty = false)) :=
  ⟨⟨Config.deliveryKey, 4, 3, 1, opened (zeros 36) lab (by decide +kernel)
     (by (repeat' apply And.intro) <;> first | decide +kernel | rfl)⟩,
   asked 1 [] lab (by decide +kernel) (by decide +kernel),
   ⟨0, occurs (at_ 300000000 lab) (by decide +kernel)⟩,
   ⟨[], occurs (pair .standby 3) (by decide +kernel)⟩⟩

/-- Operands and states that meet the hypotheses of WindowsArePeekedAndPoked, clause by clause. -/
theorem test_meets_WindowsArePeekedAndPoked :
    (Asked 0x1610 (fun tk pl _ => pl.length = 8 ∧ 1 ≤ fieldAt pl 4 2 ∧ fieldAt pl 4 2 ≤ (if hasBit tk.flags flagAuth then 984
      else 1016) ∧ inWindow (fieldAt pl 0 2) (fieldAt pl 2 2) (fieldAt pl 4 2) = true)) ∧
    (∃ (done : Nat) (s' : State), Asked 0x1611 (fun tk pl s => pl.length = 8 + fieldAt pl 4 2 ∧ 1 ≤ fieldAt pl 4 2 ∧ fieldAt
      pl 4 2 ≤ 984 ∧ inWindow (fieldAt pl 0 2) (fieldAt pl 2 2) (fieldAt pl 4 2) = true ∧ wholeFields (fieldAt pl 2 2)
      (fieldAt pl 4 2) = true ∧ ((fieldsIn (fieldAt pl 2 2) (fieldAt pl 4 2)).any fun f => decide (f.2.2 = .ro)) = false ∧
      pokeFields tk.session (fieldAt pl 2 2) (pl.drop 8) (fieldsIn (fieldAt pl 2 2) (fieldAt pl 4 2)) s = (stDone, done, s'))) ∧
    (∃ (k : Fin 8) (off len : Fin 28), Occurs (SessionUp k)) ∧
    (∃ (k : Fin 8) (off : Fin 24) (bs : List Byte), Occurs (SessionUp k)) ∧
    (∃ (k : Fin 8), Occurs (SessionUp k)) ∧
    (∃ (k : Fin 8), Occurs (SessionUp k)) ∧
    (∃ (k : Fin 8), Occurs (SessionUp k)) ∧
    (∃ (k : Fin 8), Occurs (fun _ => True)) ∧
    (∃ (k : Fin 8) (g : ClkStaging), Occurs (fun x => x.stagingOf k = some g ∧ g.began + 10000000 ≤ x.now)) :=
  ⟨asked 1 [19#8, 0#8, 0#8, 0#8, 64#8, 0#8, 0#8, 0#8] lab (by decide +kernel) (by decide +kernel),
   ⟨0x38, stageWrite 0 0x30 (slice (zeros 8) 0 8) (begun 0x1611 (ask 0x1611 [19#8, 0#8, 48#8, 0#8, 8#8, 0#8, 0#8, 0#8, 0#8,
     0#8, 0#8, 0#8, 0#8, 0#8, 0#8, 0#8] lab) 3 lab), asked 3 [19#8, 0#8, 48#8, 0#8, 8#8, 0#8, 0#8, 0#8, 0#8, 0#8, 0#8, 0#8,
     0#8, 0#8, 0#8, 0#8] lab (by decide +kernel) (by (repeat' apply And.intro) <;> first | decide +kernel | rfl)⟩,
   ⟨7, 27, 27, occurs (lab.modSess 7 fun _ => session) (by (repeat' apply And.intro) <;> first | decide +kernel | rfl)⟩,
   ⟨7, 23, [], occurs (lab.modSess 7 fun _ => session) (by (repeat' apply And.intro) <;> first | decide +kernel | rfl)⟩,
   ⟨7, occurs (lab.modSess 7 fun _ => session) (by (repeat' apply And.intro) <;> first | decide +kernel | rfl)⟩,
   ⟨7, occurs (lab.modSess 7 fun _ => session) (by (repeat' apply And.intro) <;> first | decide +kernel | rfl)⟩,
   ⟨7, occurs (lab.modSess 7 fun _ => session) (by (repeat' apply And.intro) <;> first | decide +kernel | rfl)⟩,
   ⟨7, occurs lab (by decide +kernel)⟩,
   ⟨7, ⟨7, 0, []⟩, occurs (at_ 10000000 { lab with clk := { lab.clk with staging := [⟨7, 0, []⟩] } }) (by decide +kernel)⟩⟩

/-- Operands and states that meet the hypotheses of BulkTransfersRun, clause by clause. -/
theorem test_meets_BulkTransfersRun :
    (∃ (h : Nat), Asked 0x1620 (fun tk pl s => pl.length = 8 ∧ byteAt pl 1 = 1 ∧ [0x01, 0x02, 0x03, 0x10, 0x11].contains
      (byteAt pl 0) = true ∧ fieldAt pl 4 4 ≤ bulkSize (byteAt pl 0) ∧ (s.transfers.filter fun b => b.session ==
      tk.session).length < 2 ∧ (s.transfers.any fun b => b.write && b.object == byteAt pl 0) = false ∧ ([0, 1, 2, 3].find? fun
      h => (s.bulkOf h).isNone) = some h ∧ writeRefused tk (byteAt pl 0) s = none)) ∧
    (∃ (h : Nat) (bs : List Byte) (s1 : State), Asked 0x1620 (fun tk pl s => pl.length = 8 ∧ byteAt pl 1 = 0 ∧ [0x01, 0x02,
      0x10, 0x20].contains (byteAt pl 0) = true ∧ (s.transfers.filter fun b => b.session == tk.session).length < 2 ∧ ([0, 1,
      2, 3].find? fun h => (s.bulkOf h).isNone) = some h ∧ readObject (byteAt pl 0) s = (some bs, s1))) ∧
    (∃ (b : Bulk), Asked 0x1621 (fun _ pl s => (modBulk (byteAt pl 0) id s).bulkOf (byteAt pl 0) = some b ∧ s.nd.mode ≠ .hold
      ∧ b.closing = none ∧ b.write = true ∧ pl.length = 8 + fieldAt pl 2 2 ∧ fieldAt pl 2 2 ≤ 984 ∧ pieceOk b.total (fieldAt
      pl 4 4) (fieldAt pl 2 2) = true)) ∧
    (∃ (b : Bulk), Asked 0x1622 (fun _ pl s => (modBulk (byteAt pl 0) id s).bulkOf (byteAt pl 0) = some b ∧ b.write = false ∧
      pl.length = 8)) ∧
    (∃ (b : Bulk), Asked 0x1624 (fun _ pl s => pl.length = 1 ∧ s.bulkOf (byteAt pl 0) = some b)) ∧
    (∃ (b : Bulk), Asked 0x1623 (fun _ pl s => pl.length = 8 ∧ (byteAt pl 1 = 0 ∨ byteAt pl 1 = 1 ∧ b.write = false) ∧
      b.closing = none ∧ (modBulk (byteAt pl 0) id s).bulkOf (byteAt pl 0) = some b)) ∧
    (∃ (b : Bulk), Asked 0x1623 (fun _ pl s => pl.length = 8 ∧ byteAt pl 1 = 1 ∧ b.write = true ∧ b.closing = none ∧ (modBulk
      (byteAt pl 0) id s).bulkOf (byteAt pl 0) = some b ∧ closeRefused (fieldAt pl 4 4) b (modBulk (byteAt pl 0) id s) =
      none)) ∧
    (∃ (h : Fin 4) (b : Bulk) (tk : Ticket), Occurs (fun x => x.bulkOf h = some b ∧ b.closing = some tk ∧ x.alive = true ∧
      x.nd.mgmtStalled = false)) ∧
    (∃ (h : Fin 4) (b : Bulk), Occurs (fun x => x.bulkOf h = some b ∧ x.alive = true ∧ x.nd.mode ≠ .hold ∧ b.closing = none ∧
      b.lastCmd + 60000000 ≤ x.now)) :=
  ⟨⟨0, asked 3 [1#8, 1#8, 0#8, 0#8, 0#8, 0#8, 60#8, 0#8] lab (by decide +kernel) (by decide +kernel)⟩,
   ⟨0, CalCopy.factory.bytes, begun 0x1620 (ask 0x1620 [2#8, 0#8, 0#8, 0#8, 0#8, 0#8, 0#8, 0#8] lab) 1 lab, asked 1 [2#8, 0#8,
     0#8, 0#8, 0#8, 0#8, 0#8, 0#8] lab (by decide +kernel) (by (repeat' apply And.intro) <;> first | decide +kernel | rfl)⟩,
   ⟨transfer true 8 none, asked 3 [3#8, 0#8, 8#8, 0#8, 0#8, 0#8, 0#8, 0#8, 1#8, 2#8, 3#8, 4#8, 5#8, 6#8, 7#8, 8#8] (moving
     true 8 none) (by decide +kernel) (by decide +kernel)⟩,
   ⟨transfer false 8 none, asked 1 [3#8, 0#8, 8#8, 0#8, 0#8, 0#8, 0#8, 0#8] (moving false 8 none) (by decide +kernel)
     (by decide +kernel)⟩,
   ⟨transfer true 8 none, asked 1 [3#8] (moving true 8 none) (by decide +kernel) (by decide +kernel)⟩,
   ⟨transfer true 8 none, asked 3 [3#8, 0#8, 0#8, 0#8, 0#8, 0#8, 0#8, 0#8] (moving true 8 none) (by decide +kernel)
     (by decide +kernel)⟩,
   ⟨transfer true 0 none, asked 3 [3#8, 1#8, 0#8, 0#8, 0#8, 0#8, 0#8, 0#8] (moving true 0 none) (by decide +kernel)
     (by decide +kernel)⟩,
   ⟨3, transfer true 0 (some tk), tk, occurs (moving true 0 (some tk)) (by decide +kernel)⟩,
   ⟨3, transfer true 0 none, occurs (at_ 60000000 (moving true 0 none)) (by decide +kernel)⟩⟩

/-- Operands and states that meet the hypotheses of ConfigurationCommandsAct, clause by clause. -/
theorem test_meets_ConfigurationCommandsAct :
    (∃ recs st, Asked 0x1701 (fun tk pl s => parseChanges pl.length pl = (recs, true) ∧ recs ≠ [] ∧ (s.cfg.stageOwner = none ∨
      s.cfg.stageOwner = some tk.session) ∧ (∀ r ∈ recs, sentError s r = none) ∧ stageTry tk.session (recs.map
      SentRecord.change) s = .ok st)) ∧
    (Asked 0x1704 (fun tk pl s => pl = [] ∧ s.cfg.stageOwner = some tk.session)) ∧
    (Asked 0x1703 (fun tk pl s => pl = [] ∧ s.cfg.staged.isEmpty = false ∧ s.cfg.stageOwner = some tk.session ∧ s.mayCommit =
      true ∧ commitCheck s s.stagedCfg = none ∧ (s.nd.mode = .duty → (planPhases s.liveRecords s.stagedCfg).length ≤ 160))) ∧
    (∃ (b : Bank), Asked 0x1706 (fun tk pl s => pl.length = 1 ∧ s.prev = some b ∧ hasBit (byteAt pl 0) 0 = true ∧
      s.cfg.staged.isEmpty = true ∧ (cfgDiff s.revertBase b.records).isEmpty = false ∧ s.mayCommit = true ∧ commitCheck
      (stageSet tk.session (cfgDiff s.revertBase b.records) s) b.records = none ∧ (s.nd.mode = .duty → (planPhases
      s.liveRecords b.records).length ≤ 160))) :=
  ⟨⟨[⟨0x11000001, 4, 0, 1⟩], [(0x11000001, some 1)], asked 3 [1#8, 0#8, 0#8, 17#8, 4#8, 0#8, 0#8, 0#8, 1#8, 0#8, 0#8, 0#8] lab
     (by decide +kernel) (by (repeat' apply And.intro) <;> first | decide +kernel | rfl)⟩,
   asked 3 [] staging (by decide +kernel) (by decide +kernel),
   asked 3 [] staging (by decide +kernel) (by decide +kernel),
   ⟨{ good with gen := 1 }, asked 3 [1#8] twoBanks (by decide +kernel) (by decide +kernel)⟩⟩

/-- Operands and states that meet the hypotheses of FirmwareCommandsAct, clause by clause. -/
theorem test_meets_FirmwareCommandsAct :
    (Asked 0x1721 (fun _ pl s => pl.length = 1 ∧ s.maySwitch = true ∧ (hasBit (byteAt pl 0) 0 = true ∨ s.onDuty = false ∨
      s.paired = true ∧ s.peerReady = true))) ∧
    (Asked 0x1723 (fun _ pl s => pl.length = 1 ∧ s.maySwitch = true ∧ hasBit (byteAt pl 0) 0 = true)) ∧
    (Asked 0x1722 (fun _ pl s => pl = [] ∧ s.onTrial = true ∧ s.nd.mode ≠ .hold)) ∧
    (∃ (a : Nat), Occurs (fun x => x.cfg.trialFrom = some a ∧ x.alive = true ∧ x.onTrial = true ∧ x.nd.mode ≠ .boot ∧ a +
      1000000 * x.param 0x17000002 ≤ x.now)) :=
  ⟨asked 4 [1#8] (otherImage duty) (by decide +kernel) (by decide +kernel),
   asked 4 [1#8] (otherImage lab) (by decide +kernel) (by decide +kernel),
   asked 4 [] (trial lab) (by decide +kernel) (by decide +kernel),
   ⟨0, occurs (at_ 600000000 (trial lab)) (by decide +kernel)⟩⟩

/-- Operands and states that meet the hypotheses of TollCommandsAct, clause by clause. -/
theorem test_meets_TollCommandsAct :
    (Asked 0x1803 (fun _ pl s => pl.length = 1 ∧ hasBit (byteAt pl 0) 0 = true ∧ s.maySeal = true)) ∧
    (Asked 0x1804 (fun _ pl s => pl.length = 1 ∧ hasBit (byteAt pl 0) 0 = true ∧ (s.toll.state = .sealed ∨ s.toll.state =
      .broken) ∧ s.toll.switchOpen = true)) ∧
    (Asked 0x1806 (fun _ pl s => pl.length = 1 ∧ hasBit (byteAt pl 0) 0 = true ∧ s.toll.state = .unsealed ∧ s.toll.allRead =
      true)) ∧
    (Asked 0x1805 (fun _ pl s => pl.length = 5 ∧ 1 ≤ byteAt pl 4 ∧ byteAt pl 4 ≤ 15 ∧ s.toll.state ≠ .absent)) :=
  ⟨asked 4 [1#8] (toll .unsealed false) (by decide +kernel) (by decide +kernel),
   asked 4 [1#8] (toll .broken true) (by decide +kernel) (by decide +kernel),
   asked 4 [1#8] (toll .unsealed true) (by decide +kernel) (by decide +kernel),
   asked 1 [0#8, 0#8, 0#8, 0#8, 15#8] (toll .unsealed true) (by decide +kernel) (by decide +kernel)⟩

/-- Operands and states that meet the hypotheses of NotificationCommandsAct, clause by clause. -/
theorem test_meets_NotificationCommandsAct :
    (Asked 0x1901 (fun _ pl _ => pl.length = 34 ∧ 10 ≤ fieldAt pl 32 2 ∧ fieldAt pl 32 2 ≤ 10000)) ∧
    (Asked 0x1902 (fun _ pl _ => pl.length = 32)) ∧
    (Asked 0x1904 (fun _ => fun pl _ => pl.length = 2 ∧ 1 ≤ byteAt pl 1 ∧ byteAt pl 0 + byteAt pl 1 ≤ 24)) ∧
    (∃ (k : Fin 8), Occurs (fun x => SessionUp k x ∧ (x.sess k).notifyDue x.now = true ∧ ((x.sess k).link.svc = true ∨
      x.host.replyQueue.length < 32 ∧ x.host.replyWait = []))) ∧
    (Occurs (fun x => x.logicOn = true)) ∧
    (Occurs (fun x => x.alive = true)) :=
  ⟨asked 1 (zeros 32 ++ [10#8, 0#8]) lab (by decide +kernel) (by decide +kernel),
   asked 1 (zeros 32) lab (by decide +kernel) (by decide +kernel),
   asked 1 [0#8, 24#8] lab (by decide +kernel) (by decide +kernel),
   ⟨0, occurs (at_ 100000 (talking (fun x => { x with items := [⟨0, 0x10, 1, false, 0, 0, [], false, 0⟩] }) lab))
     (by (repeat' apply And.intro) <;> first | decide +kernel | rfl)⟩,
   occurs lab (by decide +kernel),
   occurs lab (by decide +kernel)⟩

/-- Operands and states that meet the hypotheses of SupplyEventsAct, clause by clause. -/
theorem test_meets_SupplyEventsAct :
    (∃ (sup : Supply), Occurs (fun x => x.logicOn = true ∧ x.nd.power.ovSet = false ∧ 33 ≤ sup.vMod)) ∧
    (∃ (sup : Supply), Occurs (fun x => x.logicOn = true ∧ sup.vMod < 65 / 2)) ∧
    (∃ (sup : Supply), Occurs (fun x => x.logicOn = true ∧ x.nd.power.warnSet = false ∧ sup.vMod < 35 / 2 ∧ x.nd.mode.dips =
      true)) ∧
    (∃ (sup : Supply) (low : Supply) (ago : Nat), Occurs (fun x => x.logicOn = true ∧ x.nd.power.warnSet = true ∧ 18 ≤
      sup.vMod ∧ x.nd.mode = .hold)) ∧
    (∃ (sup : Supply) (low : Supply) (ago : Nat), Occurs (fun x => x.logicOn = true ∧ x.nd.power.warnSet = true ∧ 18 ≤
      sup.vMod ∧ x.nd.mode ≠ .hold)) ∧
    (∃ s : State, s.cycling = true ∧ s.holdOver = true) ∧
    (∃ (d : Dip), Occurs (fun x => x.nd.power.dip = some d ∧ x.nd.mode = .hold ∧ d.since + 1000 * x.param 0x03000001 ≤ x.now)) ∧
    (∃ (sup : Supply) (low : Supply) (ago : Nat), Occurs (fun x => sup.vMod < 15 ∧ x.nd.power.resetSet = false ∧ x.logicOn =
      true)) ∧
    (∃ (sup : Supply) (low : Supply) (ago : Nat), Occurs (fun x => sup.vMod < 15 ∧ x.logicOn = false)) ∧
    (∃ (r : Nat), Occurs (fun x => x.nd.power.resetAt = some r ∧ x.logicOn = true ∧ r + 2000 ≤ x.now)) ∧
    (∃ (sup : Supply) (pins : Pins) (lost : Bool), Occurs (fun x => x.logicOn = false ∧ x.nd.power.resetSet = true ∧ 18 ≤
      sup.vMod ∧ (x.nd.power.fell = true ∨ x.nd.wake = none))) ∧
    (∃ (sup : Supply) (pins : Pins) (lost : Bool), Occurs (fun x => x.logicOn = false ∧ x.nd.power.resetSet = true ∧ 18 ≤
      sup.vMod ∧ x.nd.power.fell = false ∧ x.nd.wake.isSome = true ∧ x.nd.woken = true)) ∧
    (∃ (v : Rat), Occurs (fun x => x.logicOn = true ∧ x.nd.power.lostA = false ∧ v < 12)) ∧
    (∃ (v : Rat), Occurs (fun x => x.logicOn = true ∧ x.nd.power.lostB = false ∧ v < 12)) ∧
    (∃ (v : Rat), Occurs (fun x => x.logicOn = true ∧ x.nd.power.lostB = true ∧ 14 ≤ v)) ∧
    (∃ (v : Rat) (vRes : Rat), Occurs (fun x => x.alive = true ∧ x.nd.power.cellTestAt + 86400000000 ≤ x.now ∧
      x.nd.power.cellLow = false ∧ 1 < v ∧ v ≤ 16 / 5)) ∧
    (∃ (v : Rat), Occurs (fun x => x.nd.power.backupLow = false ∧ v < 14 / 5)) ∧
    (∃ (v : Rat), Occurs (fun x => x.nd.power.backupLow = true ∧ 3 ≤ v)) :=
  ⟨⟨volts 33, occurs duty (by (repeat' apply And.intro) <;> first | decide +kernel | rfl)⟩,
   ⟨volts 32, occurs duty (by (repeat' apply And.intro) <;> first | decide +kernel | rfl)⟩,
   ⟨volts 17, occurs duty (by (repeat' apply And.intro) <;> first | decide +kernel | rfl)⟩,
   ⟨volts 18, volts 16, 0, occurs (at_ 0 (pow (fun p => { p with warnSet := true }) (unit .hold)))
     (by (repeat' apply And.intro) <;> first | decide +kernel | rfl)⟩,
   ⟨volts 18, volts 16, 0, occurs (at_ 0 (pow (fun p => { p with warnSet := true }) duty))
     (by (repeat' apply And.intro) <;> first | decide +kernel | rfl)⟩,
   ⟨unit .hold, by decide +kernel⟩,
   ⟨⟨0, 0, .duty, 17, 0, 17, 17⟩, occurs (at_ 60000000 (pow (fun p => { p with dip := some ⟨0, 0, .duty, 17, 0, 17, 17⟩ })
     (unit .hold))) (by (repeat' apply And.intro) <;> first | decide +kernel | rfl)⟩,
   ⟨volts 14, volts 14, 0, occurs duty (by (repeat' apply And.intro) <;> first | decide +kernel | rfl)⟩,
   ⟨volts 14, volts 14, 0, occurs (dark duty) (by (repeat' apply And.intro) <;> first | decide +kernel | rfl)⟩,
   ⟨0, occurs (at_ 2000 (pow (fun p => { p with resetAt := some 0 }) duty))
     (by (repeat' apply And.intro) <;> first | decide +kernel | rfl)⟩,
   ⟨volts 18, ⟨63, true, true, true, 65535⟩, false, occurs (at_ 0 (pow (fun p => { p with onSince := none, resetSet := true })
     duty)) (by (repeat' apply And.intro) <;> first | decide +kernel | rfl)⟩,
   ⟨volts 18, ⟨63, true, true, true, 65535⟩, false, occurs (nd (fun d => { d with wake := some 1, woken := true }) (at_ 0 (pow
     (fun p => { p with onSince := none, resetSet := true }) duty)))
     (by (repeat' apply And.intro) <;> first | decide +kernel | rfl)⟩,
   ⟨11, occurs duty (by (repeat' apply And.intro) <;> first | decide +kernel | rfl)⟩,
   ⟨0, occurs duty (by (repeat' apply And.intro) <;> first | decide +kernel | rfl)⟩,
   ⟨14, occurs (at_ 0 (pow (fun p => { p with lostB := true }) duty))
     (by (repeat' apply And.intro) <;> first | decide +kernel | rfl)⟩,
   ⟨16 / 5, 24, occurs (at_ 86400000000 (pow (fun p => { p with cellTestAt := 0 }) duty))
     (by (repeat' apply And.intro) <;> first | decide +kernel | rfl)⟩,
   ⟨27 / 10, occurs duty (by (repeat' apply And.intro) <;> first | decide +kernel | rfl)⟩,
   ⟨3, occurs (at_ 0 (pow (fun p => { p with backupLow := true }) duty))
     (by (repeat' apply And.intro) <;> first | decide +kernel | rfl)⟩⟩

/-- Operands and states that meet the hypotheses of ResetEventsAct, clause by clause. -/
theorem test_meets_ResetEventsAct :
    (∃ (v : Rat), Occurs (fun x => x.nd.nresetLow = false ∧ x.nresetStuck = false ∧ x.logicOn = true)) ∧
    (∃ (v : Rat), Occurs (fun x => x.nd.nresetLow = false ∧ x.nresetStuck = false ∧ x.logicOn = false ∧ x.nd.wake.isSome =
      true ∧ x.nd.power.resetSet = false ∧ 18 ≤ v)) ∧
    (Occurs (fun x => x.logicOn = true ∧ x.nd.nresetLow = false)) ∧
    (Occurs (fun x => x.nd.nresetLow = true)) ∧
    (Occurs (fun x => x.logicOn = true ∧ x.nd.nresetLow = true ∧ x.nresetStuck = false ∧ x.nd.nresetAt + 5000000 ≤ x.now)) ∧
    (Occurs (fun x => x.logicOn = true ∧ x.nd.nresetLow = false ∧ x.nresetStuck = true ∧ x.nd.nresetAt + 1000000 ≤ x.now)) ∧
    (Occurs (fun x => x.alive = true ∧ x.nd.ctrlStopped = false)) ∧
    (Occurs (fun x => x.alive = true ∧ x.controlFaulty = true)) ∧
    (∃ (w : Nat), Occurs (fun x => x.nd.ctrlWindow = some w ∧ w ≤ x.now)) ∧
    (Occurs (fun x => x.logicOn = true)) ∧
    (Occurs (fun x => x.logicOn = true ∧ x.nd.power.resetSet = false)) ∧
    (∃ (v : Rat) (w : Nat), Occurs (fun x => x.nd.wake = some w ∧ x.logicOn = false ∧ w ≠ 0 ∧ w ≤ x.clk.clock ∧
      x.nd.power.resetSet = false ∧ 18 ≤ v)) ∧
    (∃ (v : Rat) (w : Nat), Occurs (fun x => x.nd.wake = some w ∧ x.logicOn = false ∧ w ≠ 0 ∧ w ≤ x.clk.clock ∧
      (x.nd.power.resetSet = true ∨ v < 18))) :=
  ⟨⟨24, occurs duty (by decide +kernel)⟩,
   ⟨18, occurs (at_ 0 (nd (fun d => { d with wake := some 0 }) (dark duty)))
     (by (repeat' apply And.intro) <;> first | decide +kernel | rfl)⟩,
   occurs duty (by decide +kernel),
   occurs (at_ 0 (nd (fun d => { d with nresetLow := true }) duty)) (by decide +kernel),
   occurs (at_ 5000000 (nd (fun d => { d with nresetLow := true }) duty)) (by decide +kernel),
   occurs (at_ 1000000 (nd (fun d => { d with cause := 0x80#32 }) duty)) (by decide +kernel),
   occurs duty (by decide +kernel),
   occurs (at_ 0 (nd (fun d => { d with overrunRun := 3 }) duty)) (by decide +kernel),
   ⟨0, occurs (at_ 0 (nd (fun d => { d with ctrlWindow := some 0 }) duty)) (by decide +kernel)⟩,
   occurs duty (by decide +kernel),
   occurs duty (by decide +kernel),
   ⟨18, 1, occurs (let s := (at_ 0 (nd (fun d => { d with wake := some 1 }) (dark duty)));
     { s with clk := { s.clk with clock := 1 } }) (by (repeat' apply And.intro) <;> first | decide +kernel | rfl)⟩,
   ⟨17, 1, occurs (let s := (at_ 0 (nd (fun d => { d with wake := some 1 }) (dark duty)));
     { s with clk := { s.clk with clock := 1 } }) (by (repeat' apply And.intro) <;> first | decide +kernel | rfl)⟩⟩

/-- Operands and states that meet the hypotheses of SeatAndBootEventsAct, clause by clause. -/
theorem test_meets_SeatAndBootEventsAct :
    (Occurs (fun x => x.nd.seatOpen = false ∧ x.alive = true)) ∧
    (Occurs (fun x => x.nd.withdraw = .flash2 ∧ x.grn.urgent = true ∧ x.drains = true)) ∧
    (∃ (pins : Pins), Occurs (fun x => x.nd.seatOpen = true ∧ (x.logicOn = false ∨ x.nd.hasRun = true))) ∧
    (∃ (img0 : Bool) (img1 : Bool) (toll : Bool), Occurs (fun x => x.alive = true ∧ x.nd.mode = .boot ∧ x.nd.ctrlStopped =
      false ∧ x.nd.bootPaused = false ∧ x.pair.decideAt = none ∧ (recovered x).nd.resetKind ≠ .warm ∧ (bootImage (fun k => if
      k = 0 then img0 else img1) (recovered x)).1 = true ∧ (bootToll toll (bootImage (fun k => if k = 0 then img0 else img1)
      (recovered x)).2).paired = false)) ∧
    (∃ (img0 : Bool) (img1 : Bool) (toll : Bool), Occurs (fun x => x.alive = true ∧ x.nd.mode = .boot ∧ x.nd.ctrlStopped =
      false ∧ x.nd.bootPaused = false ∧ x.pair.decideAt = none ∧ (recovered x).nd.resetKind ≠ .warm ∧ (bootImage (fun k => if
      k = 0 then img0 else img1) (recovered x)).1 = true ∧ (bootToll toll (bootImage (fun k => if k = 0 then img0 else img1)
      (recovered x)).2).paired = true)) ∧
    (∃ (d : Nat), Occurs (fun x => x.pair.decideAt = some d ∧ x.alive = true ∧ x.nd.mode = .boot ∧ x.nd.ctrlStopped = false ∧
      x.nd.bootPaused = false ∧ d ≤ x.now ∧ x.paired = true)) ∧
    (∃ (d : Nat), Occurs (fun x => x.pair.decideAt = some d ∧ x.alive = true ∧ x.nd.mode = .boot ∧ x.nd.ctrlStopped = false ∧
      x.nd.bootPaused = false ∧ d ≤ x.now ∧ x.paired = true)) ∧
    (∃ (tF : Rat), Occurs (fun x => x.alive = true ∧ x.nd.mode ≠ .safe ∧ 100 < tF)) ∧
    (∃ (drawn : Rat) (tF : Rat) (loss : List Rat) (pBay : List Rat), Occurs (fun x => loss.length = 16 ∧ pBay.length = 16 ∧
      x.alive = true ∧ x.nd.mode ≠ .boot ∧ x.nd.gov.tickAt + 100000 ≤ x.now ∧ (noteDraw (loss.foldl (· + ·) drawn) tF pBay
      x).budgetNow < loss.foldl (· + ·) drawn)) ∧
    (∃ (slot : Fin 64) (posB : Bool) (pres : Bool), Occurs (fun x => x.alive = true ∧ (x.nd.slotPins ≠ slot ∨ x.nd.posPin ≠
      posB))) ∧
    (∃ (b : Nat) (tied : Bool), Occurs (fun x => tget false x.nd.strapTied b ≠ tied ∧ x.alive = true)) :=
  ⟨occurs duty (by decide +kernel),
   occurs (urgently (at_ 0 (nd (fun d => { d with withdraw := .flash2 }) duty))) (by decide +kernel),
   ⟨⟨63, true, true, true, 65535⟩, occurs (at_ 0 (nd (fun d => { d with seatOpen := true }) duty)) (by decide +kernel)⟩,
   ⟨true, true, true, occurs (found (unit .boot)) (by decide +kernel)⟩,
   ⟨true, true, true, occurs (at_ 0 (nd (fun d => { d with pairBase := true, peerPres := true }) (found (unit .boot))))
     (by decide +kernel)⟩,
   ⟨0, occurs (let s := pair .boot 3; { s with pair := { s.pair with decideAt := some 0 } }) (by decide +kernel)⟩,
   ⟨0, occurs (let s := pair .boot 3; { s with pair := { s.pair with decideAt := some 0 } }) (by decide +kernel)⟩,
   ⟨101, occurs duty (by (repeat' apply And.intro) <;> first | decide +kernel | rfl)⟩,
   ⟨400, 30, List.replicate 16 1, List.replicate 16 0, occurs (at_ 100000 (nd (fun d => { d with mode := .duty }) duty))
     (by (repeat' apply And.intro) <;> first | decide +kernel | rfl)⟩,
   ⟨63, true, true, occurs duty (by (repeat' apply And.intro) <;> first | decide +kernel | rfl)⟩,
   ⟨15, true, occurs duty (by (repeat' apply And.intro) <;> first | decide +kernel | rfl)⟩⟩

/-- Operands and states that meet the hypotheses of CyclesAndSweepsRun, clause by clause. -/
theorem test_meets_CyclesAndSweepsRun :
    (∃ s : State, (s.beginCycle).cycling = true) ∧
    (∃ s : State, s.beginCycle.cycling = true) ∧
    (Occurs (fun x => x.atSweep.sweepDue = true)) ∧
    (∃ (p : Nat), Occurs (fun y => let x := y.atSweep; x.sweepDue = true ∧ (x.pt p).active = false ∧ (x.afterSweep p).active =
      true)) ∧
    (∃ (p : Nat), Occurs (fun y => let x := y.atSweep; x.sweepDue = true ∧ (x.pt p).active = true ∧ (x.afterSweep p).active =
      false)) ∧
    (∃ (p : Nat), Occurs (fun y => let x := y.atSweep; x.sweepDue = true ∧ (x.pt p).shelveLeft = 1 ∧ (x.afterSweep
      p).shelveLeft = 0)) ∧
    (∃ (p : Nat), Occurs (fun y => let x := y.atSweep; x.sweepDue = true ∧ (x.pt p).blocked = true ∧ (x.afterSweep p).blocked
      = false)) ∧
    (Occurs (fun x => x.atSweep.sweepDue = true)) ∧
    (Occurs (fun x => x.alive = true ∧ x.nd.mode ≠ .hold ∧ x.nd.mode ≠ .commission ∧ x.alarm.frozen ≠ [] ∧ x.alarm.frozenAt +
      200000 ≤ x.now ∧ x.cfg.commit = none)) ∧
    (∃ s : State, s.beginRing.logicOn = true) :=
  ⟨⟨duty, by decide +kernel⟩,
   ⟨duty, by decide +kernel⟩,
   occurs (oneTag 0 0 PtRun.initial 10000) (by (repeat' apply And.intro) <;> first | decide +kernel | rfl),
   ⟨65535, occurs (oneTag 0 0 PtRun.initial 10000) (by decide +kernel)⟩,
   ⟨65535, occurs (oneTag 0x10 0 { PtRun.initial with active := true } 10000) (by decide +kernel)⟩,
   ⟨65535, occurs (oneTag 0 0 { PtRun.initial with shelveLeft := 1 } 60000000) (by decide +kernel)⟩,
   ⟨65535, occurs (oneTag 0 128 { PtRun.initial with blocked := true } 10000) (by decide +kernel)⟩,
   occurs (oneTag 0 0 PtRun.initial 10000) (by decide +kernel),
   occurs (let s := at_ 200000 duty; { s with alarm := { s.alarm with frozen := [65535] } }) (by decide +kernel),
   ⟨duty, by decide +kernel⟩⟩

/-- Operands and states that meet the hypotheses of BellTicksRun, clause by clause. -/
theorem test_meets_BellTicksRun :
    (Occurs (fun x => x.tickDue = true)) ∧
    (Occurs (fun x => x.tickDue = true ∧ x.bell.stage = .stage1 ∧ x.afterTick.stage = .stage2)) ∧
    (Occurs (fun x => x.tickDue = true ∧ x.bell.stage = .stage2 ∧ x.afterTick.stage = .stage3)) ∧
    (Occurs (fun x => x.tickDue = true ∧ x.bell.stage = .attend ∧ x.afterTick.stage = .stage3)) ∧
    (Occurs (fun x => x.tickDue = true ∧ x.bell.dm = .armed ∧ x.afterTick.dm = .prewarn)) ∧
    (Occurs (fun x => x.tickDue = true ∧ x.bell.dm ≠ .expired ∧ x.afterTick.dm = .expired)) ∧
    (Occurs (fun x => x.tickDue = true ∧ x.bell.duty ≠ x.afterTick.duty)) ∧
    (Occurs (fun x => x.tickDue = true ∧ x.bell.overrideUntil.isSome = true ∧ x.afterTick.overrideUntil = none)) ∧
    (∃ (k : Nat) (e : KeyEvent), Occurs (fun x => x.tickDue = true ∧ (x.panel k).key = some e ∧ e.key = .ack)) ∧
    (∃ (k : Nat) (e : KeyEvent), Occurs (fun x => x.tickDue = true ∧ (x.panel k).key = some e ∧ e.key = .silence)) ∧
    (∃ (k : Nat) (e : KeyEvent), Occurs (fun x => x.tickDue = true ∧ (x.panel k).key = some e ∧ e.key = .accept)) ∧
    (∃ (k : Nat) (e : KeyEvent), Occurs (fun x => x.tickDue = true ∧ (x.panel k).key = some e ∧ e.key = .dmOn)) ∧
    (∃ (k : Nat) (e : KeyEvent), Occurs (fun x => x.tickDue = true ∧ (x.panel k).key = some e ∧ e.key = .dmReset)) ∧
    (∃ (k : Nat) (e : KeyEvent), Occurs (fun x => x.tickDue = true ∧ (x.panel k).key = some e ∧ e.key = .dmOff)) ∧
    (∃ (k : Nat) (e : KeyEvent), Occurs (fun x => x.tickDue = true ∧ (x.panel k).key = some e ∧ e.key = .manned)) ∧
    (∃ (k : Nat) (e : KeyEvent), Occurs (fun x => x.tickDue = true ∧ (x.panel k).key = some e ∧ e.key = .unmanned)) :=
  ⟨occurs (ringing id) (by (repeat' apply And.intro) <;> first | decide +kernel | rfl),
   occurs (ringing fun b => { b with stage := .stage1, timer := some 1, unmanned := true }) (by decide +kernel),
   occurs (ringing fun b => { b with stage := .stage2, timer := some 1 }) (by decide +kernel),
   occurs (ringing fun b => { b with stage := .attend, timer := some 1 }) (by decide +kernel),
   occurs (ringing fun b => { b with dm := .armed, dmLeft := 2 }) (by decide +kernel),
   occurs (ringing fun b => { b with dm := .prewarn, dmLeft := 1 }) (by decide +kernel),
   occurs (ringing fun b => { b with overrideEng := 15, overrideUntil := some 100000000 }) (by decide +kernel),
   occurs (trusted (ringing fun b => { b with overrideEng := 15, overrideUntil := some 0 })) (by decide +kernel),
   ⟨63, ⟨1, .ack, 0⟩, occurs (pressed .ack) (by decide +kernel)⟩,
   ⟨63, ⟨1, .silence, 0⟩, occurs (pressed .silence) (by decide +kernel)⟩,
   ⟨63, ⟨1, .accept, 0⟩, occurs (pressed .accept) (by decide +kernel)⟩,
   ⟨63, ⟨1, .dmOn, 0⟩, occurs (pressed .dmOn) (by decide +kernel)⟩,
   ⟨63, ⟨1, .dmReset, 0⟩, occurs (pressed .dmReset) (by decide +kernel)⟩,
   ⟨63, ⟨1, .dmOff, 0⟩, occurs (pressed .dmOff) (by decide +kernel)⟩,
   ⟨63, ⟨1, .manned, 0⟩, occurs (pressed .manned) (by decide +kernel)⟩,
   ⟨63, ⟨1, .unmanned, 0⟩, occurs (pressed .unmanned) (by decide +kernel)⟩⟩

/-- Operands and states that meet the hypotheses of PanelsAndStallsAct, clause by clause. -/
theorem test_meets_PanelsAndStallsAct :
    (∃ (busB : Bool) (k : Nat), Occurs (fun x => x.polls = true ∧ x.bell.wait busB = none ∧ x.gapKept busB = true ∧ x.nextSlot
      busB (if busB then x.bell.nextB else x.bell.nextA) = some k)) ∧
    (∃ (busB : Bool) (bs : List Byte) (w : PanelWait), Occurs (fun x => x.polls = true ∧ x.bell.wait busB = some w ∧
      x.inWindow busB w = true ∧ replyGood (x.slotField w.slot 2) w.seq bs = true ∧ byteAt bs 5 = x.slotField w.slot 0)) ∧
    (∃ (busB : Bool) (bs : List Byte) (w : PanelWait), Occurs (fun x => x.polls = true ∧ x.bell.wait busB = some w ∧
      x.inWindow busB w = true ∧ replyGood (x.slotField w.slot 2) w.seq bs = true ∧ byteAt bs 5 ≠ x.slotField w.slot 0)) ∧
    (∃ (busB : Bool) (bs : List Byte) (w : PanelWait), Occurs (fun x => x.polls = true ∧ x.bell.wait busB = some w ∧
      (x.inWindow busB w = false ∨ replyGood (x.slotField w.slot 2) w.seq bs = false))) ∧
    (∃ (busB : Bool) (w : PanelWait), Occurs (fun x => x.bell.wait busB = some w ∧ x.mgmtUp = true ∧ w.sentAt + 1000 + 2 *
      x.charTime busB ≤ x.now)) ∧
    (∃ (m : List Byte), Occurs (fun x => x.alive = true ∧ x.paired = true ∧ x.onDuty = false)) ∧
    (∃ (m : List Byte), Occurs (fun x => x.alive = true ∧ x.paired = true ∧ x.onDuty = true ∧ x.bell.syncAt + 1000000 ≤
      x.now)) ∧
    (Occurs (fun x => x.alive = true ∧ x.nd.mode ≠ .boot ∧ x.nd.ctrlStalled = false ∧ max x.nd.regChannel.flip x.nd.runFrom +
      3000 ≤ x.node)) ∧
    (Occurs (fun x => x.sweeps = true ∧ x.nd.fabricStalled = false ∧ usedPoints x.cfg.inForce ≠ [] ∧ max x.alarm.offAt (max
      x.nd.regAlarm.flip x.nd.runFrom) + 30000 ≤ x.node)) ∧
    (∃ bus, Occurs (fun x => x.logicOn = true ∧ x.nd.dataStalled = false ∧ (bus = true ∨ max x.nd.regRemote.flip x.nd.upFrom +
      1000 ≤ x.node))) ∧
    (Occurs (fun x => x.mgmtUp = true ∧ max x.nd.regService.flip x.nd.upFrom + 2000000 ≤ x.node)) ∧
    (Occurs (fun x => x.alive = true ∧ x.toll.state ≠ .absent ∧ x.nd.tollStalled = false ∧ max x.nd.regToll.flip x.nd.runFrom
      + 1000000 ≤ x.node ∧ x.toll.fwOk = true)) ∧
    (∃ (b : Bay), Occurs (fun x => (x.bay b).state = .running ∧ x.gate b = true ∧ (x.bay b).ssRun = false ∧ (x.bay b).syncAt +
      1000 * x.cf .bay b 0 ≤ x.now)) :=
  ⟨⟨false, 63, occurs (at_ 100000 panelled) (by decide +kernel)⟩,
   ⟨false, panelFrame 9 0x81 4 (1#8 :: zeros 7), ⟨63, 4, 0⟩, occurs (at_ 2000 polled) (by decide +kernel)⟩,
   ⟨false, panelFrame 9 0x81 4 (2#8 :: zeros 7), ⟨63, 4, 0⟩, occurs (at_ 2000 polled) (by decide +kernel)⟩,
   ⟨false, [], ⟨63, 4, 0⟩, occurs (at_ 2000 polled) (by decide +kernel)⟩,
   ⟨false, ⟨63, 4, 0⟩, occurs (at_ 2000000 polled) (by decide +kernel)⟩,
   ⟨[], occurs (pair .standby 3) (by decide +kernel)⟩,
   ⟨[], occurs (at_ 1000000 (pair .duty 4)) (by decide +kernel)⟩,
   occurs (at_ 3000 duty) (by decide +kernel),
   occurs (at_ 30000 (oneTag 0 0 PtRun.initial 0)) (by decide +kernel),
   ⟨false, occurs (at_ 1000 (nd (fun d => { d with regRemote := ⟨1, 0⟩ }) (pair .standby 3))) (by decide +kernel)⟩,
   occurs (at_ 2000000 (nd (fun d => { d with regService := ⟨1, 0⟩ }) duty)) (by decide +kernel),
   occurs (at_ 1000000 (toll .sealed false)) (by decide +kernel),
   ⟨15, occurs (at_ 100000 (live duty)) (by decide +kernel)⟩⟩

/-- Operands and states that meet the hypotheses of MeasurementEventsAct, clause by clause. -/
theorem test_meets_MeasurementEventsAct :
    (∃ (n : Chan) (v : Rat) (v2 : Rat) (raws : List Rat) (pip : Option (Bool × Rat)) (cm : Inputs), Occurs (fun x => x.alive =
      true ∧ (x.converting n || x.underWay n) = true ∧ (x.subFn n).converts = true ∧ x.ownReadings = true)) ∧
    (∃ (n : Chan) (v : Rat) (v2 : Rat) (raws : List Rat) (pip : Option (Bool × Rat)) (cm : Inputs), Occurs (fun x => x.alive =
      true ∧ (x.converting n || x.underWay n) = true ∧ x.fn n = .iout ∧ (x.ch n).nextEnd ≤ x.node)) ∧
    (∃ (n : Chan) (v : Rat) (v2 : Rat) (raws : List Rat) (pip : Option (Bool × Rat)) (cm : Inputs), Occurs (fun x => x.alive =
      true ∧ (x.converting n || x.underWay n) = true ∧ x.fn n = .vout ∧ (x.ch n).nextEnd ≤ x.node)) ∧
    (∃ (n : Chan) (v : Rat) (v2 : Rat) (raws : List Rat) (pip : Option (Bool × Rat)) (cm : Inputs), Occurs (fun x => x.alive =
      true ∧ (x.converting n || x.underWay n) = true ∧ (x.fn n).repeater = true)) ∧
    (∃ (n : Chan) (v1 : Rat) (v2 : Rat) (d : Nat), Occurs (fun x => x.refReady n = some d ∧ (∀ m ∈ bayChans (bayOf n), m ≠ n →
      ∀ e, x.refReady m = some e → d < e ∨ d = e ∧ (n : Nat) < m) ∧ ∀ u e, (x.bay (bayOf n)).refUser = some (u, e) → e + 2200
      ≤ x.node)) ∧
    (∃ (n : Chan) (v : Rat) (d : Nat) (g : Nat), Occurs (fun x => (x.ch n).leadDue = some d ∧ x.slot n 1000 = some g ∧ d ≤ g ∧
      x.leadChecks n = true ∧ x.converting n = true ∧ x.gate (bayOf n) = true ∧ (x.sup n).check = none ∧ x.aheadBy n false g =
      false ∧ x.waitsSettled n 1000 d = false)) ∧
    (∃ (n : Chan) (d : Nat) (g : Nat) (len : Nat), Occurs (fun x => (x.sup n).due = some d ∧ len = blockTimeOf (x.segments n
      (x.supSetup n)) ∧ x.checkSlot n len = some g ∧ d ≤ g ∧ (x.sup n).check = none ∧ x.supervised n = true ∧ x.running n =
      true ∧ x.nd.mode ≠ .hold ∧ x.gate (bayOf n) = true ∧ (x.ch n).tripped = false ∧ x.checkWaits n len = false ∧ x.aheadBy n
      true g = false)) ∧
    (∃ (n : Chan) (f1 : Tone) (f2 : Tone) (f3 : Tone) (g1 : Tone) (g3 : Tone) (c : CheckRun), Occurs (fun x => (x.sup n).check
      = some c ∧ c.endAt ≤ x.node ∧ c.tickets = [])) ∧
    (∃ (n : Chan), Occurs (fun x => x.sourcesOn n = true ∧ x.burst n = true)) ∧
    (∃ (n : Chan), Occurs (fun x => x.sourcesOn n = true ∧ x.burst n = false ∨ x.sourcesOn n = false ∧ x.leadRuns n = true)) ∧
    (∃ (b : Bay) (v : List Rat) (sensor : Rat), Occurs (fun x => v.length = 128 ∧ (x.bay b).state = .running)) :=
  ⟨⟨511, 1, 1, [], none, ⟨1, 0⟩, occurs (ch511 1 0 [] 0) (by decide +kernel)⟩,
   ⟨511, 1, 1, [], none, ⟨1, 0⟩, occurs (ch511 7 0 [] 0) (by decide +kernel)⟩,
   ⟨511, 1, 1, [], none, ⟨1, 0⟩, occurs (ch511 8 0 [] 0) (by decide +kernel)⟩,
   ⟨511, 1, 1, [], none, ⟨1, 0⟩, occurs (ch511 14 0 [] 0) (by decide +kernel)⟩,
   ⟨511, 1, 1, 0, occurs (chan (fun r => { r with refDue := some 0 }) (ch511 5 1 [(Subj.pid .ch 511 3, 4)] 3000)) (first_ref
     (by decide +kernel) (by decide +kernel) (by decide +kernel))⟩,
   ⟨511, 1, 0, 0, occurs (chan (fun r => { r with leadDue := some 0 }) (ch511 5 3 [(Subj.pid .ch 511 3, 4), (Subj.pid .meas
     511 3, 1)] 3000)) (by decide +kernel)⟩,
   ⟨511, 0, 0, blockTimeOf ((ch511 5 1 [(Subj.pid .ch 511 3, 4)] 0).segments 511 ((ch511 5 1 [(Subj.pid .ch 511 3, 4)]
     0).supSetup 511)), occurs (supv (fun r => { r with due := some 0 }) (ch511 5 1 [(Subj.pid .ch 511 3, 4)] 0))
     (by decide +kernel)⟩,
   ⟨511, ⟨0, 0⟩, ⟨0, 0⟩, ⟨0, 0⟩, ⟨0, 0⟩, ⟨0, 0⟩, ⟨0, 0, [], []⟩, occurs (supv (fun r =>
     { r with check := some ⟨0, 0, [], []⟩ }) (ch511 5 1 [] 0)) (by decide +kernel)⟩,
   ⟨511, occurs (ch511 5 1 [] 0) (by decide +kernel)⟩,
   ⟨511, occurs (ch511 5 1 [(Subj.pid .ch 511 3, 5)] 0) (by decide +kernel)⟩,
   ⟨15, List.replicate 128 0, 25, occurs (live lab) (by decide +kernel)⟩⟩

/-- Operands and states that meet the hypotheses of ProtectionAndBayEventsAct, clause by clause. -/
theorem test_meets_ProtectionAndBayEventsAct :
    (∃ (n : Chan) (k : Fin 4) (v : Rat) (mA : Rat), Occurs (fun x => x.running n = true ∧ (x.ch n).isOpen k = false ∧
      x.connWord n k ≠ 0 ∧ (insideWindows (x.connWord n k) v && insideCurrents (x.connWord n k) mA) = false ∧ ((hartGuard n
      (tripChannel n k v mA x)).fn n).analogOut = false)) ∧
    (∃ (n : Chan) (k : Fin 4) (v : Rat) (mA : Rat), Occurs (fun x => x.running n = true ∧ (x.ch n).isOpen k = false ∧
      x.connWord n k ≠ 0 ∧ (insideWindows (x.connWord n k) v && insideCurrents (x.connWord n k) mA) = false ∧ ((hartGuard n
      (tripChannel n k v mA x)).fn n).analogOut = true ∧ (hartGuard n (tripChannel n k v mA x)).outStatus n ≠ x.outStatus n)) ∧
    (∃ (n : Chan), Occurs (fun x => x.running n = true ∧ (x.ch n).mayReconnect x.now = true ∧ (restartDigital n (reconnect n
      x)).fn n ≠ .iout ∧ (restartDigital n (reconnect n x)).fn n ≠ .vout ∧ ((restartDigital n (reconnect n x)).fn n).analogOut
      = false)) ∧
    (∃ (n : Chan), Occurs (fun x => x.running n = true ∧ (x.ch n).mayReconnect x.now = true ∧ (restartDigital n (reconnect n
      x)).fn n = .iout ∧ (((restartDigital n (reconnect n x)).modOut n fun o =>
      { o with vRail := 5 / 2, railGoal := 5 / 2, railAt := (restartDigital n (reconnect n x)).now }).fn n).analogOut = true)) ∧
    (∃ (b : Bay), Occurs (fun x => (x.bay b).state = .starting ∧ x.logicOn = true)) ∧
    (∃ (b : Bay), Occurs (fun x => x.alive = true ∧ ((x.bay b).state = .running ∨ (x.bay b).state = .starting) ∧ x.onDuty =
      false)) ∧
    (∃ (b : Bay) (h : Heartbeat), Occurs (fun x => x.alive = true ∧ ((x.bay b).state = .running ∨ (x.bay b).state = .starting)
      ∧ x.onDuty = true ∧ x.paired = true ∧ x.pair.hb = some h ∧ hasBit h.bayOk b = true ∧ x.peerLost = false)) :=
  ⟨⟨511, 0, 34, 0, occurs (chan (fun r => { r with connA := 0x100 }) (ch511 1 0 [] 0)) (by decide +kernel)⟩,
   ⟨511, 3, 34, 0, occurs (chan (fun r => { r with connD := 0x2 }) (ch511 7 0 [] 0)) (by decide +kernel)⟩,
   ⟨511, occurs (chan (fun r =>
     { r with protTrip := true, terms := [(0, { TermRun.initial with opened := true, insideSince := some 0 })] }) (ch511 1 0
     [] 100000)) (by decide +kernel)⟩,
   ⟨511, occurs (chan (fun r =>
     { r with protTrip := true, terms := [(0, { TermRun.initial with opened := true, insideSince := some 0 })] }) (ch511 7 0
     [] 100000)) (by decide +kernel)⟩,
   ⟨15, occurs (bay (fun r => { r with state := .starting }) lab) (by decide +kernel)⟩,
   ⟨15, occurs (live lab) (by decide +kernel)⟩,
   ⟨15, { beat 3 with bayOk := 0x8000 }, occurs (live
     { pair .duty 3 with pair := { (pair .duty 3).pair with hb := some { beat 3 with bayOk := 0x8000 } } })
     (by decide +kernel)⟩⟩

/-- Operands and states that meet the hypotheses of OutputEventsAct, clause by clause. -/
theorem test_meets_OutputEventsAct :
    (∃ (n : Chan) (mA : Rat) (v : Rat), Occurs (fun x => (x.fn n = .iout ∨ x.fn n = .vout) ∧ x.running n = true ∧ (x.outp
      n).railAt + 100 ≤ x.now)) ∧
    (∃ (n : Chan) (k : Fin 6) (mA : Rat) (v : Rat), Occurs (fun x => (if (k : Nat) < 3 then x.fn n = .iout else x.fn n =
      .vout) ∧ x.running n = true ∧ x.gate (bayOf n) = true ∧ (x.ch n).tripped = false ∧ x.condition n k mA v = true ∧ hasBit
      (x.outp n).status (conditionBit k) = false)) ∧
    (∃ (n : Chan) (k : Fin 6) (mA : Rat) (v : Rat), Occurs (fun x => (if (k : Nat) < 3 then x.fn n = .iout else x.fn n =
      .vout) ∧ x.running n = true ∧ x.gate (bayOf n) = true ∧ (x.ch n).tripped = false ∧ x.conditionGone n k mA v = true)) ∧
    (∃ (n : Chan) (mA : Rat) (v : Rat) (h : Rat), Occurs (fun x => x.fn n = .iout ∧ hasBit (x.outp n).status 1 = true ∧
      x.running n = true ∧ (x.outp n).iHeld = some h ∧ mA ≠ 0 ∧ v ≠ 0)) ∧
    (∃ (n : Chan) (mA : Rat), Occurs (fun x => x.fn n = .iout ∧ hasBit (x.outp n).status 2 = true ∧ x.running n = true ∧
      hasBit (x.outp n).status 4 = false ∧ hasBit (x.cf .out n 4) 0 = true ∧ 1 ≤ (x.outp n).drive ∧ (x.outp n).drive / 10 ≤
      mA)) ∧
    (∃ (n : Chan) (f : Nat), Occurs (fun x => (x.outp n).failSince = some f ∧ x.cycling = true ∧ f + 1000 * x.of n (·.hold) ≤
      x.now)) ∧
    (∃ (n : Chan), Occurs (fun x => x.cycling = true ∧ x.of n (·.timeout) ≠ 0 ∧ x.of n (·.src) = 0 ∧ (x.outp n).writtenAt +
      1000 * x.of n (·.timeout) ≤ x.now)) ∧
    (∃ (n : Chan) (stuck : Bool) (held : Nat), Occurs (fun x => (x.fn n).repeater = true ∧ x.running n = true ∧ x.gate (bayOf
      n) = true ∧ (x.dio n).switch.trippedAt = none ∧ (x.ch n).tripped = false ∧ (x.stuckRule n stuck).2 = true ∧ (x.stuckRule
      n stuck).1 ≤ (held : Rat))) :=
  ⟨⟨511, 20, 30, occurs (ch511 7 0 [] 100) (by decide +kernel)⟩,
   ⟨511, 0, 2, 24, occurs (outp (fun r => { r with drive := 20, vRail := 24 }) (ch511 7 0 [] 0)) (by decide +kernel)⟩,
   ⟨511, 5, 0, 0, occurs (ch511 8 0 [] 0) (by decide +kernel)⟩,
   ⟨511, 1, 1, 1, occurs (outp (fun r => { r with status := 2, iHeld := some 1 }) (ch511 7 0 [] 0)) (by decide +kernel)⟩,
   ⟨511, 2, occurs (outp (fun r => { r with status := 4, drive := 20 }) (ch511 7 0 [] 0)) (by decide +kernel)⟩,
   ⟨511, 0, occurs (outp (fun r => { r with failSince := some 0 }) (ch511 7 0 [(Subj.pid .out 511 2, 0)] 10000000))
     (by decide +kernel)⟩,
   ⟨511, occurs (ch511 7 0 [(Subj.pid .out 511 6, 60000)] 60000000) (by decide +kernel)⟩,
   ⟨511, true, 1000000, occurs (outp (fun r => { r with pulse := some ⟨⟨0, 1000, 500⟩, none, true⟩ }) (ch511 14 0 [] 0))
     (by decide +kernel)⟩⟩

/-- Operands and states that meet the hypotheses of HartEventsAct, clause by clause. -/
theorem test_meets_HartEventsAct :
    (∃ (n : Chan), Occurs (fun x => (x.hrt n).trans = none ∧ x.hartBlocked n = false)) ∧
    (∃ (n : Chan) (a : HartAnswer) (y : HartTrans), Occurs (fun x => (x.hrt n).trans = some y ∧ y.sentAt ≤ x.now)) ∧
    (∃ (n : Chan) (bad : Bool) (y : HartTrans), Occurs (fun x => (x.hrt n).trans = some y ∧ y.sentAt + 305000 ≤ x.now ∧
      y.tries < x.cf .hart n 3)) ∧
    (∃ (n : Chan) (bad : Bool) (y : HartTrans), Occurs (fun x => (x.hrt n).trans = some y ∧ y.sentAt + 305000 ≤ x.now ∧ x.cf
      .hart n 3 ≤ y.tries)) ∧
    (∃ (n : Chan) (a : Fin 16) (uid : BitVec 40), Occurs (fun x => x.hartMode n ≠ 0 ∧ (x.ch n).modem < 8 ∧ x.running n = true
      ∧ x.gate (bayOf n) = true ∧ (x.hrt n).told.contains uid.toNat = false)) ∧
    (∃ (n : Chan) (a : Fin 16) (uid : BitVec 40), Occurs (fun x => x.hartMode n ≠ 0 ∧ (x.ch n).modem < 8 ∧ x.running n = true
      ∧ x.gate (bayOf n) = true ∧ (x.hrt n).told.contains uid.toNat = true ∧ (x.hrt n).ending a = false)) :=
  ⟨⟨511, occurs (chan (fun r => { r with modem := 7 }) (ch511 2 0 [(Subj.pid .hart 511 0, 1)] 0)) (by decide +kernel)⟩,
   ⟨511, ⟨0, false, 0, 0, 0, 0, 0, 0, 0, 0, []⟩, exchange, occurs (hrt (fun r => { r with trans := some exchange }) (ch511 2 0
     [(Subj.pid .hart 511 0, 1)] 0)) (by decide +kernel)⟩,
   ⟨511, true, exchange, occurs (hrt (fun r => { r with trans := some exchange }) (ch511 2 0 [(Subj.pid .hart 511 0, 1),
     (Subj.pid .hart 511 3, 5)] 305000)) (by decide +kernel)⟩,
   ⟨511, true, exchange, occurs (hrt (fun r => { r with trans := some exchange }) (ch511 2 0 [(Subj.pid .hart 511 0, 1)]
     305000)) (by decide +kernel)⟩,
   ⟨511, 15, 0, occurs (chan (fun r => { r with modem := 7 }) (ch511 2 0 [(Subj.pid .hart 511 0, 1)] 0)) (by decide +kernel)⟩,
   ⟨511, 15, 0, occurs (hrt (fun r => { r with told := [0] }) (chan (fun r => { r with modem := 7 }) (ch511 2 0 [(Subj.pid
     .hart 511 0, 1)] 0))) (by decide +kernel)⟩⟩

/-- Operands and states that meet the hypotheses of DigitalEventsAct, clause by clause. -/
theorem test_meets_DigitalEventsAct :
    (∃ (n : Chan) (v : Rat) (te : Nat), Occurs (fun x => x.subFn n = .di ∧ x.converting n = true ∧ x.gate (bayOf n) = true ∧
      (x.ch n).tripped = false ∧ x.decides n false = some te ∧ (diThresholds (x.cf .ch n 2)).2 ≤ v ∧ x.filterOf n ≤ ((x.dio
      n).sampled true te).run ∧ ((x.dio n).sampled true te).state = some false)) ∧
    (∃ (n : Chan) (vTA : Rat) (vTB : Rat) (c : LineClass) (te : Nat), Occurs (fun x => x.subFn n = .di ∧ x.converting n = true
      ∧ x.gate (bayOf n) = true ∧ x.decides n true = some te ∧ lineClassOf (vTB - vTA) = some c ∧ (x.dio n).lineRun ≠ 0 ∧
      (x.dio n).lineCand = c)) ∧
    (∃ (n : Chan), Occurs (fun x => (x.subFn n = .di ∨ x.subFn n = .cnt ∨ x.subFn n = .frq) ∧ x.dioFlag n 4 = true ∧ x.running
      n = true ∧ x.gate (bayOf n) = true ∧ (x.dio n).supply.closed = true)) ∧
    (∃ (n : Chan) (rising : Bool) (v : Rat) (held : Nat), Occurs (fun x => x.fn n = .cnt ∧ x.running n = true ∧ (x.ch
      n).tripped = false ∧ x.edgeCounts n ⟨rising, v, held⟩ = true)) ∧
    (∃ (n : Chan) (rising : Bool) (k : Fin 100) (v : Rat) (held : Nat), Occurs (fun x => x.fn n = .frq ∧ x.running n = true ∧
      (x.ch n).tripped = false ∧ x.edgeCounts n ⟨rising, v, held⟩ = true ∧ edgeTaken (x.edgeSel n) rising = true)) ∧
    (∃ (n : Chan), Occurs (fun x => x.fn n = .frq ∧ x.running n = true ∧ (x.dio n).gateEnd < x.node / (1000 * x.cf .dio n 8) *
      (1000 * x.cf .dio n 8))) ∧
    (∃ (n : Chan) (excess : Bool) (mA : Rat) (held : Nat), Occurs (fun x => (x.fn n).retries = true ∧ x.running n = true ∧
      x.gate (bayOf n) = true ∧ x.switchClosed n = true ∧ x.trips n ⟨excess, mA, held⟩ = true ∧ x.fn n ≠ .lamp)) ∧
    (∃ (n : Chan) (excess : Bool) (mA : Rat) (held : Nat), Occurs (fun x => (x.fn n).retries = true ∧ x.running n = true ∧
      x.gate (bayOf n) = true ∧ x.switchClosed n = true ∧ x.trips n ⟨excess, mA, held⟩ = true ∧ x.fn n = .lamp)) ∧
    (∃ (n : Chan), Occurs (fun x => x.running n = true ∧ x.gate (bayOf n) = true ∧ (x.dio n).supply.mayRetry x.now = true ∧
      x.dioFlag n 4 = true)) ∧
    (∃ (n : Chan), Occurs (fun x => x.running n = true ∧ x.gate (bayOf n) = true ∧ (x.fn n).retries = true ∧ (x.dio
      n).switch.mayRetry x.now = true ∧ ((x.fn n).repeater = true ∨ (x.outp n).drive ≠ 0) ∧ x.fn n ≠ .lamp)) ∧
    (∃ (n : Chan) (ext : Bool) (on : Bool) (mA : Rat) (v : Rat), Occurs (fun x => (x.fn n).switched = true ∧ x.converting n =
      true ∧ x.gate (bayOf n) = true ∧ (x.modDio n fun d => { d with iSw := mA }).doFault n ext mA v = on)) ∧
    (∃ (n : Chan) (mJ : Rat), Occurs (fun x => (x.fn n).retries = true ∧ x.running n = true)) :=
  ⟨⟨511, 24, 850, occurs (digi (fun r => { r with sample := true, run := 2, state := some false }) (ch511 9 0 [] 850))
     (by decide +kernel)⟩,
   ⟨511, 0, 12, .broken, 850, occurs (digi (fun r => { r with lineRun := 1, lineCand := .broken }) (ch511 9 0 [(Subj.pid .dio
     511 3, 8)] 850)) (by decide +kernel)⟩,
   ⟨511, occurs (digi (fun r => { r with supply := shut }) (ch511 9 0 [(Subj.pid .dio 511 3, 16)] 0)) (by decide +kernel)⟩,
   ⟨511, true, 24, 1000000, occurs (ch511 12 0 [] 0) (by decide +kernel)⟩,
   ⟨511, true, 99, 24, 1000000, occurs (ch511 13 0 [] 0) (by decide +kernel)⟩,
   ⟨511, occurs (ch511 13 0 [] 100000) (by decide +kernel)⟩,
   ⟨511, true, 100000, 1000000, occurs (digi (fun r => { r with switch := shut }) (ch511 10 0 [] 0)) (by decide +kernel)⟩,
   ⟨511, true, 100000, 1000000, occurs (digi (fun r => { r with switch := shut }) (ch511 16 0 [] 10000000))
     (by decide +kernel)⟩,
   ⟨511, occurs (digi (fun r => { r with supply := { shut with trippedAt := some 0 } }) (ch511 9 0 [(Subj.pid .dio 511 3, 16)]
     10000000)) (by decide +kernel)⟩,
   ⟨511, occurs (outp (fun r => { r with drive := 1 }) (digi (fun r => { r with switch := { shut with trippedAt := some 0 } })
     (ch511 10 0 [] 10000000))) (by decide +kernel)⟩,
   ⟨511, true, true, 0, 5, occurs (ch511 10 0 [] 0) (by decide +kernel)⟩,
   ⟨511, 600, occurs (ch511 15 0 [] 0) (by decide +kernel)⟩⟩

/-- Operands and states that meet the hypotheses of LampAndSupplyEventsAct, clause by clause. -/
theorem test_meets_LampAndSupplyEventsAct :
    (∃ (n : Chan) (mA : Rat), Occurs (fun x => x.fn n = .lamp ∧ x.running n = true ∧ x.gate (bayOf n) = true ∧ (x.lamp
      n).phaseOn = true ∧ (x.dio n).switch.closed = true ∧ (x.lamp n).learn = none ∧ (x.lamp n).onAt + x.lampBlank n ≤ x.now ∧
      (x.bay (bayOf n)).fsLost = false ∧ x.pair.claiming = none ∧ x.cr .lamp n 15 ≠ 0)) ∧
    (∃ (n : Chan) (mA : Rat), Occurs (fun x => x.fn n = .lamp ∧ x.coldTest n = true ∧ x.running n = true ∧ x.gate (bayOf n) =
      true ∧ x.coldFits n = true ∧ (x.bay (bayOf n)).fsLost = false ∧ (x.outp n).drive = 0)) ∧
    (∃ (n : Chan) (v : Rat), Occurs (fun x => x.fn n = .lamp ∧ x.running n = true ∧ (x.outp n).drive = 0 ∧ (5 : Rat) ≤ v)) ∧
    (∃ (n : Chan) (v : Rat), Occurs (fun x => x.fn n = .lamp ∧ x.running n = true ∧ (x.outp n).drive = 0 ∧ v < (5 : Rat) ∧
      (x.lamp n).state = .extV)) ∧
    (∃ (n : Chan), Occurs (fun x => x.fn n = .lamp ∧ (x.outp n).drive = 2 ∧ x.gate (bayOf n) = true ∧ ((x.outp n).latched &&
      (x.outp n).isLamp && (x.outp n).pulse.isSome) = false)) ∧
    (∃ (n : Chan), Occurs (fun x => (x.outp n).drive = 2 ∧ x.gate (bayOf n) = true ∧ ((x.outp n).latched && (x.outp n).isLamp
      && (x.outp n).pulse.isSome) = true)) ∧
    (∃ (b : Bay) (w : Fin 4) (on : Bool) (v : Rat), Occurs (fun x => (x.bay b).fsFlag w ≠ on ∧ fsCrossed w on v = true)) ∧
    (∃ (b : Bay) (v : Rat), Occurs (fun _ => v < 6)) ∧
    (∃ (b : Bay) (amps : Rat) (v : Rat) (isOpen : Bool) (loads : List Rat), Occurs (fun x => loads.length = 32 ∧ (x.bay
      b).state = .running ∧ ((noteSense b isOpen ((noteLoads b loads x).modBay b (·.current amps v x.now))).bay b).shedding =
      false)) ∧
    (∃ (b : Bay) (amps : Rat) (v : Rat) (isOpen : Bool) (loads : List Rat) (n : Nat) (y : State), Occurs (fun x =>
      loads.length = 32 ∧ (x.bay b).state = .running ∧ y = noteSense b isOpen ((noteLoads b loads x).modBay b (·.current amps
      v x.now)) ∧ (y.bay b).shedding = true ∧ y.gate b = true ∧ shedChoice b loads y = some n)) :=
  ⟨⟨511, 100, occurs (digi (fun r => { r with switch := shut }) (lamp (fun r => { r with phaseOn := true }) (ch511 16 0
     [(Subj.pid .lamp 511 15, 0x42C80000)] 1000000))) (by decide +kernel)⟩,
   ⟨511, 20, occurs (ch511 16 0 [] 0) (by decide +kernel)⟩,
   ⟨511, 5, occurs (ch511 16 0 [] 0) (by decide +kernel)⟩,
   ⟨511, 0, occurs (lamp (fun r => { r with state := .extV }) (ch511 16 0 [] 0)) (by decide +kernel)⟩,
   ⟨511, occurs (outp (fun r => { r with drive := 2 }) (ch511 16 0 [] 0)) (by decide +kernel)⟩,
   ⟨511, occurs (outp (fun r =>
     { r with latched := true, stage := some (16, 0), drive := 2, pulse := some ⟨⟨0, 1000, 500⟩, none, true⟩ }) (ch511 16 0 []
     0)) (by decide +kernel)⟩,
   ⟨15, 3, true, 8, occurs (live lab) (by decide +kernel)⟩,
   ⟨15, 5, occurs lab (by decide +kernel)⟩,
   ⟨15, 8, 24, false, List.replicate 32 0, occurs (live lab) (by decide +kernel)⟩,
   ⟨15, 8, 24, false, List.replicate 32 1, 511, noteSense 15 false ((noteLoads 15 (List.replicate 32 1) ((digi (fun r =>
     { r with switch := shut }) (bay (fun r => { r with shedding := true }) (ch511 10 0 [] 100000))).begin 100000)).modBay 15
     (·.current 8 24 100000)), occurs (digi (fun r => { r with switch := shut }) (bay (fun r => { r with shedding := true })
     (ch511 10 0 [] 100000))) (by (repeat' apply And.intro) <;> first | decide +kernel | rfl)⟩⟩

/-- Operands and states that meet the hypotheses of LaneEventsAct, clause by clause. -/
theorem test_meets_LaneEventsAct :
    (∃ (b : Bay) (flip : Nat), Occurs (fun x => x.cycling = true)) ∧
    (∃ (b : Bay) (flip : Nat), Occurs (fun x => x.cycling = true)) ∧
    (∃ (l : Lane), Occurs (fun x => (x.lane l).state ≠ .off ∧ (x.lane l).ls.expired = false ∧ (x.lane l).ls.validAt + 1000 *
      x.cf .lane l 10 ≤ x.now)) ∧
    (∃ (l : Lane), Occurs (fun x => (x.lane l).state ≠ .off ∧ (x.lane l).hs.expired = false ∧ (x.lane l).hs.validAt + 1000 *
      x.cf .lane l 10 ≤ x.now)) ∧
    (∃ (l : Lane) (mA : Rat) (held : Nat), Occurs (fun x => mA < 10 ∧ 100000 ≤ held ∧ (x.lane l).state ≠ .off ∧ (x.lane
      l).hs.closed = true ∧ (x.lane l).ls.closed = true)) ∧
    (∃ (l : Lane) (mA : Rat) (held : Nat), Occurs (fun x => 650 < mA ∧ 10000 ≤ held ∧ (x.lane l).state ≠ .off ∧ ((x.lane
      l).hs.closed = true ∨ (x.lane l).ls.closed = true))) ∧
    (∃ (l : Lane) (mA : Rat) (held : Nat), Occurs (fun x => 1500 ≤ mA ∧ 100 ≤ held ∧ (x.lane l).state ≠ .off ∧ ((x.lane
      l).hs.closed = true ∨ (x.lane l).ls.closed = true))) ∧
    (∃ (l : Lane) (v : Rat), Occurs (fun x => (x.lane l).state = .armed ∧ x.laneFlag l 3 = true ∧ (x.lane l).hs.closed = true
      ∧ (x.lane l).ls.closed = true ∧ (x.lane l).pulseAt + 1000000 * x.cf .lane l 11 ≤ x.node ∧ 5 < v)) ∧
    (∃ (l : Lane) (v : Rat), Occurs (fun x => (x.lane l).state = .armed ∧ x.laneFlag l 3 = true ∧ (x.lane l).hs.closed = true
      ∧ (x.lane l).ls.closed = true ∧ (x.lane l).pulseAt + 1000000 * x.cf .lane l 11 ≤ x.node ∧ v ≤ 5 ∧ (x.lane l).pulseHs =
      false)) ∧
    (∃ (l : Lane), Occurs (fun x => (x.lane l).state = .armed ∧ (x.lane l).overdue (x.degradeLimit l) x.node = true)) ∧
    (∃ (l : Lane), Occurs (fun x => (x.lane l).state ≠ .off)) :=
  ⟨⟨15, 0xFFFFFFFF, occurs (laned (fun r => { r with hs := r.hs }) 0) (by decide +kernel)⟩,
   ⟨15, 0, occurs (laned (fun r => { r with hs := r.hs }) 0) (by decide +kernel)⟩,
   ⟨31, occurs (laned (fun r => { r with hs := r.hs }) 20000) (by decide +kernel)⟩,
   ⟨31, occurs (laned (fun r => { r with ls := r.ls }) 20000) (by decide +kernel)⟩,
   ⟨31, 9, 100000, occurs (laned (fun r => { r with hs := { r.hs with closed := true }, ls := { r.ls with closed := true } })
     0) (by decide +kernel)⟩,
   ⟨31, 651, 10000, occurs (laned (fun r => { r with hs := { r.hs with closed := true }, ls := { r.ls with closed := true } })
     0) (by decide +kernel)⟩,
   ⟨31, 1500, 100, occurs (laned (fun r => { r with hs := { r.hs with closed := true }, ls := { r.ls with closed := true } })
     0) (by decide +kernel)⟩,
   ⟨31, 24, occurs (laned (fun r => { r with hs := { r.hs with closed := true }, ls := { r.ls with closed := true } })
     10000000) (by decide +kernel)⟩,
   ⟨31, 5, occurs (laned (fun r => { r with hs := { r.hs with closed := true }, ls := { r.ls with closed := true } })
     10000000) (by decide +kernel)⟩,
   ⟨31, occurs (laned (fun r => { r with degraded := true, legA := { r.legA with fault := true, degradeFrom := some 0 } })
     86400000000) (by decide +kernel)⟩,
   ⟨31, occurs (laned (fun r => { r with hs := r.hs }) 0) (by decide +kernel)⟩⟩

/-- Operands and states that meet the hypotheses of GranaryEventsAct, clause by clause. -/
theorem test_meets_GranaryEventsAct :
    (∃ (port : Fin 4) (r : Submission) (rest : List Submission) (y z : State), Occurs fun x => x.alive = true ∧ z = wearStep x
      ∧ (tget PortRun.initial z.grn.ports port).queue = r :: rest ∧ z.alive = true ∧ z.executes = true ∧ intakeRec r (setPort
      port { tget PortRun.initial z.grn.ports port with queue := rest } z) = some y) ∧
    (∃ (port : Fin 4) (r : Submission) (rest : List Submission) (z : State), Occurs (fun x => x.alive = true ∧ z = wearStep x
      ∧ (tget PortRun.initial z.grn.ports port).queue = r :: rest ∧ z.alive = true ∧ z.executes = false)) ∧
    (∃ (port : Fin 4), Occurs (fun x => x.alive = true)) ∧
    (Occurs (fun x => x.drains = true ∧ x.grn.pageFull = true)) ∧
    (∃ (r : Micros × GrnRec) (rs : List (Micros × GrnRec)), Occurs (fun x => x.grn.staged.drop x.grn.bodies = r :: rs ∧
      x.drains = true ∧ (x.drainsAtOnce = true ∨ r.1 + x.flushTime ≤ x.now))) ∧
    (Occurs (fun x => x.grn.eraseDue.isSome = true ∧ x.drains = true)) ∧
    (∃ (code : Fin 1024) (b : Bucket), Occurs (fun x => tfind x.grn.buckets code = some b ∧ x.alive = true ∧ b.flood = true ∧
      b.at_ ≤ x.node / 1000000 * 1000 ∧ x.grnDepth code ≤ (x.bucketAt code (x.node / 1000000 * 1000)).tokens)) ∧
    (∃ (code : Fin 1024) (b : Bucket), Occurs (fun x => tfind x.grn.buckets code = some b ∧ x.alive = true ∧ b.flood = true ∧
      b.since + 60000000 ≤ x.now)) ∧
    (∃ (f : Freeze), Occurs (fun x => x.grn.freeze = some f ∧ x.alive = true ∧ f.lease + 2000000 ≤ x.now)) ∧
    (∃ (f : Freeze), Occurs (fun x => x.grn.freeze = some f ∧ x.alive = true ∧ f.began + 60000000 ≤ x.now)) ∧
    (Occurs (fun x => x.alive = true ∧ x.grn.wearAt + 86400000000 ≤ x.now)) :=
  ⟨let ⟨y, h⟩ := some_of (o := intakeRec ⟨0x080, 0, [1#8]⟩ (setPort 3 ⟨[], []⟩ (wearStep ((submitting duty).begin 0))))
     (by decide +kernel); ⟨3, ⟨0x080, 0, [1#8]⟩, [], y, wearStep ((submitting duty).begin 0), occurs (submitting duty) ⟨by
     decide +kernel, rfl, rfl, by decide +kernel, by decide +kernel, h⟩⟩,
   ⟨3, ⟨0x080, 0, [1#8]⟩, [], wearStep ((submitting (pair .standby 3)).begin 0), occurs (submitting (pair .standby 3))
     (by (repeat' apply And.intro) <;> first | decide +kernel | rfl)⟩,
   ⟨3, occurs duty (by decide +kernel)⟩,
   occurs (at_ 0
     { duty with grn := { GranarySt.reset with recovering := false, staged := List.replicate 3 (0, ⟨0x080, 1, 0, zeros 200⟩) } })
     (by decide +kernel),
   ⟨(0, ⟨0x080, 1, 0, []⟩), [], occurs (at_ 100000
     { duty with grn := { GranarySt.reset with recovering := false, staged := [(0, ⟨0x080, 1, 0, []⟩)] } })
     (by decide +kernel)⟩,
   occurs (at_ 0 { duty with grn := { GranarySt.reset with recovering := false, eraseDue := some 0 } }) (by decide +kernel),
   ⟨0x080, ⟨100, 0, true, 0, 0, 0, 0⟩, occurs (at_ 1000000000
     { duty with grn := { GranarySt.reset with recovering := false, buckets := [(0x080, ⟨100, 0, true, 0, 0, 0, 0⟩)] } })
     (by decide +kernel)⟩,
   ⟨1023, ⟨0, 0, true, 0, 0, 0, 0⟩, occurs (at_ 60000000
     { duty with grn := { GranarySt.reset with recovering := false, buckets := [(1023, ⟨0, 0, true, 0, 0, 0, 0⟩)] } })
     (by decide +kernel)⟩,
   ⟨⟨0, 0, 9, 0, 0⟩, occurs (at_ 2000000
     { duty with grn := { GranarySt.reset with recovering := false, freeze := some ⟨0, 0, 9, 0, 0⟩ } }) (by decide +kernel)⟩,
   ⟨⟨0, 0, 9, 0, 0⟩, occurs (at_ 60000000
     { duty with grn := { GranarySt.reset with recovering := false, freeze := some ⟨0, 0, 9, 0, 0⟩ } }) (by decide +kernel)⟩,
   occurs (at_ 86400000000 duty) (by decide +kernel)⟩

/-- Operands and states that meet the hypotheses of TimeEventsAct, clause by clause. -/
theorem test_meets_TimeEventsAct :
    (∃ (ns : Fin 1000) (rising : Bool), Occurs (fun x => x.logicOn = true ∧ x.nd.dataStalled = false ∧ rising = !hasBit
      (x.param 0x13000004) 0)) ∧
    (∃ (x : Sentence), Occurs (fun y => y.logicOn = true ∧ x.known = true ∧ x.fast = (y.param 0x13000005 == 38400) ∧
      x.checksum = false)) ∧
    (∃ (x : Sentence) (st : Int) (label : Nat), Occurs (fun y => y.logicOn = true ∧ x.known = true ∧ x.fast = (y.param
      0x13000005 == 38400) ∧ x.checksum = true ∧ (x.zda = true ∨ x.statusA = true) ∧ y.clk.ppsStamp = some st ∧ sentenceLabel
      x (y.modClk fun c => { c with senOk := wrap32 (c.senOk + 1) }) = some (label, false) ∧ 50000 ≤ y.now - y.clk.ppsAt ∧
      y.now - y.clk.ppsAt ≤ 950000 ∧ y.clk.ppsLabelled = false)) ∧
    (Occurs (fun x => x.clk.timeLock = true ∧ x.clk.labelAt + 3000000 ≤ x.now)) ∧
    (Occurs (fun x => x.clk.ringLock = true ∧ x.clk.ringAt + 1000000 ≤ x.now)) ∧
    (Occurs (fun x => x.clk.step.isSome = true)) ∧
    (Occurs (fun x => x.logicOn = true ∧ x.leapDue = true)) ∧
    (Occurs (fun x => x.logicOn = true ∧ x.nd.dataStalled = false ∧ x.clk.rangeEnd = false ∧ x.node % 1000000 = 0)) ∧
    (Occurs (fun _ => True)) ∧
    (Occurs (fun x => clockLimit ≤ x.clk.clock ∧ x.clk.rangeEnd = false ∧ ∀ p, x.clk.step = some p → p.apply = none)) :=
  ⟨⟨999, true, occurs duty (by decide +kernel)⟩,
   ⟨⟨false, true, true, false, false, 2000, 1, 1, 0, 0, 0⟩, occurs duty (by decide +kernel)⟩,
   ⟨⟨false, true, true, true, false, 2000, 1, 1, 0, 0, 0⟩, 0, 0, occurs (at_ 50000
     { duty with clk := { ClockSt.reset with ppsStamp := some 0 } }) (by decide +kernel)⟩,
   occurs (at_ 3000000 { duty with clk := { ClockSt.reset with timeLock := true } }) (by decide +kernel),
   occurs (at_ 1000000 { duty with clk := { ClockSt.reset with ringLock := true } }) (by decide +kernel),
   occurs (at_ 10000 { duty with clk := { ClockSt.reset with step := some ⟨10000, 0, none⟩ } }) (by decide +kernel),
   occurs (at_ 10 { duty with clk := { ClockSt.reset with leapAt := 10 } }) (by decide +kernel),
   occurs (at_ 1000000 (trusted duty)) (by decide +kernel),
   occurs duty (by decide +kernel),
   occurs (at_ 0 { duty with clk := { ClockSt.reset with clock := clockLimit, rangeEnd := false } }) (by decide +kernel)⟩

/-- Operands and states that meet the hypotheses of FramesAreTaken, clause by clause. -/
theorem test_meets_FramesAreTaken :
    (∃ (ns : Fin 1000) (p : Port) (f : Frame), Occurs (fun x => (receive 1 p f x).1 = true ∧ f.unit ≠ Config.unitAddress)) ∧
    (∃ (ns : Fin 1000) (p : Port) (f : Frame), Occurs (fun x => (receive 1 p f x).1 = true ∧ f.unit = Config.unitAddress)) ∧
    (∃ (ns : Fin 1000) (p : Port) (f : Frame), Occurs (fun x => x.logicOn = true ∧ x.nd.dataStalled = false ∧ x.portState p ≠
      .disabled ∧ x.portState p ≠ .down ∧ foreignFrame f = false ∧ f.good = true)) ∧
    (∃ (ns : Fin 1000) (p : Port) (f : Frame), Occurs (fun x => x.logicOn = true ∧ x.nd.dataStalled = false ∧ x.portState p ≠
      .disabled ∧ x.portState p ≠ .down ∧ foreignFrame f = false ∧ f.good = false)) ∧
    (∃ (ns : Fin 1000) (p : Port) (f : Frame), Occurs (fun x => x.logicOn = true ∧ x.nd.dataStalled = false ∧ x.portState p ≠
      .disabled ∧ x.portState p ≠ .down ∧ foreignFrame f = true)) ∧
    (∃ (p : Port) (f : Frame), Occurs (fun x => (receive 3 p f x).1 = true ∧ f.unit ≠ Config.unitAddress ∧ (firstCopy 3 p f
      (receive 3 p f x).2).1 = true)) ∧
    (∃ (p : Port) (f : Frame), Occurs (fun x => (receive 4 p f x).1 = true ∧ f.unit ≠ Config.unitAddress ∧ fieldAt f.payload 0
      6 = Config.unitAddress ∧ (firstCopy 4 p f (lateCopy (p.val / 2) (receive 4 p f x).2)).1 = true)) ∧
    (∃ (p : Port) (f : Frame), Occurs (fun x => (receive 5 p f x).1 = true ∧ f.unit ≠ Config.unitAddress ∧ (firstCopy 5 p f
      (receive 5 p f x).2).1 = true)) ∧
    (∃ (p : Port) (f : Frame), Occurs (fun x => (receive 6 p f x).1 = true ∧ f.unit ≠ Config.unitAddress ∧ (firstCopy 6 p f
      (receive 6 p f x).2).1 = true ∧ (noteMore (p.val / 2) f (firstCopy 6 p f (receive 6 p f x).2).2).copying = false)) :=
  ⟨⟨999, 0, frame [], occurs (ringed duty) (⟨by rw [received _ _ _ (by decide +kernel)], frame_unit _⟩)⟩,
   ⟨999, 0, { frame [] with unit := Config.unitAddress }, occurs (ringed duty) (⟨by decide +kernel, rfl⟩)⟩,
   ⟨999, 0, frame [], occurs (ringed duty) (by decide +kernel)⟩,
   ⟨999, 0, { frame [] with good := false }, occurs (ringed duty) (by decide +kernel)⟩,
   ⟨999, 0, { frame [] with size := 1519 }, occurs (ringed duty) (by decide +kernel)⟩,
   ⟨0, frame [], occurs (ringed duty)
     (by refine ⟨?_, frame_unit _, ?_⟩ <;> rw [received _ _ _ (by decide +kernel)] <;> first | rfl | decide +kernel)⟩,
   ⟨0, frame (le 6 Config.unitAddress ++ []), occurs (ringed duty)
     (by refine ⟨?_, frame_unit _, ?_, ?_⟩ <;> first | exact named | (rw [received _ _ _ (by decide +kernel)] <;> first | rfl | decide +kernel))⟩,
   ⟨0, frame [], occurs (ringed duty)
     (by refine ⟨?_, frame_unit _, ?_⟩ <;> rw [received _ _ _ (by decide +kernel)] <;> first | rfl | decide +kernel)⟩,
   ⟨0, frame [], occurs (ringed duty)
     (by refine ⟨?_, frame_unit _, ?_, not_copying⟩ <;> rw [received _ _ _ (by decide +kernel)] <;> first | rfl | decide +kernel)⟩⟩

/-- Operands and states that meet the hypotheses of PortEventsAct, clause by clause. -/
theorem test_meets_PortEventsAct :
    (∃ (p : Port), Occurs (fun x => x.portState p = .cut ∧ (x.port p).cutAt + (x.port p).cutHold ≤ x.now)) ∧
    (∃ (p : Port), Occurs (fun x => x.logicOn = true ∧ ((x.portState p).works = true ∨ x.portState p = .miscabled) ∧ (x.port
      p).linkAt + 1000 ≤ x.now)) ∧
    (∃ (p : Port) (up : Bool), Occurs (fun x => x.logicOn = true)) ∧
    (Occurs (fun x => x.alive = true ∧ x.ponor.dataStarted = false ∧ 8 ≤ x.ponor.dataWait ∧ x.ponor.addrClash = false)) ∧
    (Occurs (fun x => x.ponor.addrClash = true ∧ 400 ≤ x.ponor.clashFree)) ∧
    (∃ (p : Port) (v : List Byte) (w : List Byte) (z : List Byte), Occurs (fun x => x.logicOn = true)) ∧
    (∃ (p : Port) (v : List Byte) (w : List Byte) (z : List Byte) (y : State), Occurs (fun x => y = followPort p (x.portState
      p) (x.modSfp p fun _ => ⟨true, true, fit 16 v, fit 16 w, fit 16 z, [], none⟩) ∧ y.logicOn = true)) ∧
    (∃ (p : Port), Occurs (fun x => x.logicOn = true)) ∧
    (∃ (p : Port) (d : List Rat), Occurs (fun x => x.logicOn = true ∧ (tget Sfp.none x.nd.sfp p).fitted = true ∧ (tget
      Sfp.none x.nd.sfp p).refused = false ∧ x.portEnabled p = true ∧ d ≠ [] ∧ ∀ a, (tget Sfp.none x.nd.sfp p).diagAt = some a
      → a + 1000000 ≤ x.now)) :=
  ⟨⟨0, occurs (at_ 1000000 ((ringed duty).modPort 0 fun y => { y with state := .cut, cutHold := 1000000 }))
     (by decide +kernel)⟩,
   ⟨0, occurs (at_ 1000 ((ringed duty).modPort 0 fun y => { y with state := .up })) (by decide +kernel)⟩,
   ⟨3, true, occurs duty (by decide +kernel)⟩,
   occurs { duty with ponor := { duty.ponor with dataWait := 8 } } (by decide +kernel),
   occurs { duty with ponor := { duty.ponor with addrClash := true, clashFree := 400 } } (by decide +kernel),
   ⟨3, [], [], [], occurs lab (by decide +kernel)⟩,
   ⟨3, [], [], [], followPort 3 ((lab.begin 0).portState 3) ((lab.begin 0).modSfp 3 fun _ => ⟨true, true, fit 16 [], fit 16
     [], fit 16 [], [], none⟩), occurs lab (by (repeat' apply And.intro) <;> first | decide +kernel | rfl)⟩,
   ⟨0, occurs lab (by decide +kernel)⟩,
   ⟨0, [1], occurs (duty.modSfp 0 fun y => { y with fitted := true })
     (by (repeat' apply And.intro) <;> first | decide +kernel | (intro a h; exact nomatch (show (none : Option Micros) = some a from h)))⟩⟩

/-- Operands and states that meet the hypotheses of PairEventsAct, clause by clause. -/
theorem test_meets_PairEventsAct :
    (∃ (pkt : Bool) (h : Heartbeat), Occurs (fun x => x.alive = true ∧ x.paired = true)) ∧
    (Occurs (fun x => x.alive = true ∧ x.paired = true ∧ x.pair.lostAt = none ∧ x.nd.resetTime + 2800 ≤ x.now ∧ laneOld
      x.pair.hbPairAt x.now = true ∧ laneOld x.pair.hbPktAt x.now = true)) ∧
    (∃ (a : Nat), Occurs (fun x => x.alive = true ∧ x.paired = true ∧ x.pair.lostAt = some a ∧ hasBit x.pair.faults 0 = false
      ∧ x.nd.resetTime + 2800 ≤ x.now ∧ laneOld x.pair.hbPairAt x.now = true ∧ laneOld x.pair.hbPktAt x.now = true)) ∧
    (∃ (m : PartI), Occurs (fun x => x.alive = true ∧ x.paired = true ∧ x.shadows = true ∧ (x.peerMode = 3 ∨ x.peerMode = 6) ∧
      x.pair.partI = none)) ∧
    (∃ (c : PartC), Occurs (fun x => x.alive = true ∧ x.paired = true ∧ x.shadows = true ∧ (x.peerMode = 3 ∨ x.peerMode = 6))) ∧
    (∃ (a : Nat), Occurs (fun x => x.alive = true ∧ x.paired = true ∧ x.peerLost = false ∧ x.pair.onPkt = false ∧
      x.pair.hbPairAt = some a ∧ a + 3000 ≤ x.now)) ∧
    (∃ (n : Chan), Occurs (fun x => x.alive = true ∧ x.paired = true ∧ x.nd.mode = .duty ∧ x.gate (bayOf n) = true ∧ 3 ≤ tget
      0 x.pair.readback n ∧ x.pair.declared = false)) ∧
    (∃ (k : Nat), Occurs (fun x => x.alive = true ∧ x.paired = true ∧ k < 66560 ∧ (x.waits = true ∧ x.peerMode = 3 ∧
      x.peerStuck = false ∧ x.param 0x15000004 ≤ tget 0 x.pair.disagree k ∨ x.nd.mode = .duty ∧ x.peerMode = 4))) ∧
    (∃ (c : Nat) (i : Nat), Occurs (fun x => x.alive = true ∧ x.paired = true)) ∧
    (∃ (i : Nat), Occurs (fun x => x.alive = true ∧ x.paired = true)) ∧
    (Occurs (fun x => x.alive = true ∧ x.paired = true)) ∧
    (Occurs (fun x => x.alive = true)) ∧
    (∃ s : State, s.alive = true ∧ s.paired = true ∧ s.nd.mode = .resync ∧ s.peerMode = 3) ∧
    (∃ (r : RecCopy) (y : State), Occurs fun x => x.alive = true ∧ x.paired = true ∧ x.executes = true ∧ intakeRec ⟨r.code,
      r.time, r.payload⟩ x = some y) ∧
    (∃ (r : RecCopy), Occurs (fun x => x.alive = true ∧ x.paired = true ∧ x.executes = false ∧ x.stageRoom ⟨r.code, r.time,
      r.payload⟩ = true)) :=
  ⟨⟨true, beat 3, occurs (pair .standby 3) (by decide +kernel)⟩,
   occurs (paired 2800 (fun p => { p with hbPairAt := some 0 }) (pair .duty 4)) (by decide +kernel),
   ⟨0, occurs (paired 2800 (fun p => { p with hbPairAt := some 0, lostAt := some 0 }) (pair .duty 4)) (by decide +kernel)⟩,
   ⟨⟨0, [], [], [], [], [], [], [], none, []⟩, occurs (pair .standby 3) (by decide +kernel)⟩,
   ⟨⟨0, [], []⟩, occurs (pair .standby 3) (by decide +kernel)⟩,
   ⟨0, occurs (paired 3000 (fun p => { p with hbPairAt := some 0 }) (pair .duty 4)) (by decide +kernel)⟩,
   ⟨511, occurs (paired 0 (fun p => { p with readback := [(511, 3)] }) (live (pair .duty 4))) (by decide +kernel)⟩,
   ⟨66559, occurs (pair .duty 4) (by decide +kernel)⟩,
   ⟨0, 0, occurs (pair .duty 4) (by decide +kernel)⟩,
   ⟨0, occurs (pair .duty 4) (by decide +kernel)⟩,
   occurs (pair .duty 4) (by decide +kernel),
   occurs duty (by decide +kernel),
   ⟨pair .resync 3, by decide +kernel⟩,
   let ⟨y, h⟩ := some_of (o := intakeRec ⟨0x080, 0, []⟩ ((submitting (pair .duty 4)).begin 0)) (by decide +kernel); ⟨⟨0x080,
     0, 0, []⟩, y, occurs (submitting (pair .duty 4)) ⟨by decide +kernel, by decide +kernel, by decide +kernel, h⟩⟩,
   ⟨⟨0x080, 0, 0, []⟩, occurs (submitting (pair .standby 3)) (by decide +kernel)⟩⟩

/-- Operands and states that meet the hypotheses of SluiceEventsAct, clause by clause. -/
theorem test_meets_SluiceEventsAct :
    (∃ (a : Nat), Occurs (fun x => x.alive = true ∧ x.paired = true ∧ x.waits = true ∧ x.pair.lostAt = some a ∧ a + 10000 ≤
      x.now ∧ x.pair.lostAsserted = true ∧ x.pair.peerLine = true ∧ x.peerDrove = true)) ∧
    (∃ (c : Claiming), Occurs (fun x => x.pair.claiming = some c ∧ x.alive = true ∧ x.paired = true ∧ x.stillHeld c = true)) ∧
    (∃ (c : Claiming), Occurs (fun x => x.pair.claiming = some c ∧ x.alive = true ∧ x.paired = true ∧ x.stillHeld c = false ∧
      c.began + 2000 ≤ x.now)) ∧
    (Occurs (fun x => x.nd.pairBase = true ∧ x.pair.peerLine = false)) ∧
    (∃ (c : Claiming), Occurs (fun x => x.pair.yieldAt = some c ∧ x.cycling = true ∧ x.paired = true ∧ c.began + (if x.atB
      then 300 else 100) ≤ x.now ∧ (x.atB = true → x.pair.peerLine = false) ∧ x.pair.shutIn = false)) ∧
    (∃ (c : Claiming), Occurs (fun x => x.pair.yieldAt = some c ∧ x.cycling = true ∧ x.paired = true ∧ c.began + (if x.atB
      then 300 else 100) ≤ x.now ∧ (x.atB = true ∧ x.pair.peerLine = true ∨ x.pair.shutIn = true))) ∧
    (Occurs (fun x => x.nd.pairBase = true ∧ x.pair.shutIn = false ∧ x.alive = true)) ∧
    (Occurs (fun x => x.nd.pairBase = true ∧ x.pair.shutIn = true ∧ x.alive = true)) ∧
    (Occurs (fun x => x.logicOn = true ∧ x.pair.own = true ∧ x.pair.servedAt + 2000 ≤ x.now)) ∧
    (∃ (mA : Rat), Occurs (fun x => x.alive = true ∧ x.nd.pairBase = true ∧ (x.pair.shutOut = true ∧ mA < 5 ∨ 15 < mA))) ∧
    (∃ (mA : Rat), Occurs (fun x => x.alive = true ∧ x.nd.pairBase = true ∧ (x.pair.own = true ∧ mA < 5 ∨ 15 < mA))) ∧
    (∃ (mA : Rat), Occurs (fun x => x.alive = true ∧ x.nd.pairBase = true ∧ x.pair.shutOut = true ∧ 5 ≤ mA ∧ mA ≤ 15)) ∧
    (∃ (mA : Rat), Occurs (fun x => x.alive = true ∧ x.nd.pairBase = true ∧ x.pair.own = true ∧ 5 ≤ mA ∧ mA ≤ 15)) ∧
    (∃ (o : Nat), Occurs (fun x => x.pair.offered = some o ∧ x.alive = true ∧ x.paired = true ∧ x.eligible = true ∧ x.peerMode
      = 3 ∧ o / 1000 < x.node / 1000 ∧ 50 ≤ x.node % 1000)) ∧
    (∃ (tk : Ticket) (limit : Nat) (w : Nat), Occurs (fun x => x.host.afterHandover = some (tk, limit, w) ∧ x.alive = true ∧
      x.onDuty = true ∧ limit ≤ x.now)) ∧
    (Occurs (fun x => x.nd.pairBase = true ∧ x.pair.peerLine = true ∧ (gatesMoved (x.modPair fun p =>
      { p with peerLine := false, peerFreeAt := x.now, lostAsserted := false })).alive = true)) :=
  ⟨⟨0, occurs (paired 10000 (fun p => { p with lostAt := some 0, lostAsserted := true, peerLine := true }) (pair .standby 3))
     (by decide +kernel)⟩,
   ⟨⟨1, 1, 0⟩, occurs (paired 20 (fun p => { p with claiming := some ⟨1, 1, 0⟩, peerLine := true }) (pair .duty 4))
     (by decide +kernel)⟩,
   ⟨⟨1, 1, 0⟩, occurs (paired 2000 (fun p => { p with claiming := some ⟨1, 1, 0⟩ }) (pair .duty 4)) (by decide +kernel)⟩,
   occurs (pair .duty 4) (by decide +kernel),
   ⟨⟨1, 1, 0⟩, occurs (paired 300 (fun p => { p with yieldAt := some ⟨1, 1, 0⟩ }) (pair .standby 3)) (by decide +kernel)⟩,
   ⟨⟨1, 1, 0⟩, occurs (paired 300 (fun p => { p with yieldAt := some ⟨1, 1, 0⟩, peerLine := true }) (nd (fun d =>
     { d with posB := true }) (pair .standby 3))) (by decide +kernel)⟩,
   occurs (pair .duty 4) (by decide +kernel),
   occurs (paired 0 (fun p => { p with shutIn := true }) (pair .duty 4)) (by decide +kernel),
   occurs (paired 2000 (fun p => { p with own := true }) (pair .duty 4)) (by decide +kernel),
   ⟨4, occurs (paired 0 (fun p => { p with shutOut := true }) (pair .duty 4)) (by decide +kernel)⟩,
   ⟨16, occurs (pair .duty 4) (by decide +kernel)⟩,
   ⟨15, occurs (paired 0 (fun p => { p with shutOut := true }) (pair .duty 4)) (by decide +kernel)⟩,
   ⟨5, occurs (paired 0 (fun p => { p with own := true }) (pair .duty 4)) (by decide +kernel)⟩,
   ⟨0, occurs (paired 1050 (fun p => { p with offered := some 0 }) (pair .standby 3)) (by decide +kernel)⟩,
   ⟨tk, 0, 0, occurs { duty with host := { duty.host with afterHandover := some (tk, 0, 0) } } (by decide +kernel)⟩,
   occurs (paired 0 (fun p => { p with peerLine := true }) (pair .duty 4)) (by decide +kernel)⟩

/-- Operands and states that meet the hypotheses of CommitAndServiceEventsAct, clause by clause. -/
theorem test_meets_CommitAndServiceEventsAct :
    (∃ (c : Commit), Occurs (fun x => x.cfg.commit = some c ∧ x.alive = true ∧ x.nd.mgmtStalled = false ∧ c.own = true ∧
      c.step = 3 ∧ c.bankWritten = false)) ∧
    (∃ (c : Commit), Occurs (fun x => x.cfg.commit = some c ∧ x.alive = true ∧ c.own = true ∧ x.paired = true)) ∧
    (∃ (c : Commit), Occurs (fun x => x.cfg.commit = some c ∧ x.alive = true ∧ c.own = true ∧ c.peerDone = false ∧ c.began +
      5000000 ≤ x.now)) ∧
    (∃ (epoch : Nat) (chs : List Change), Occurs (fun x => x.alive = true ∧ x.paired = true ∧ x.executes = false ∧ x.nd.mode ≠
      .hold)) ∧
    (∃ (xs : List (MbxWork × Nat × List Byte)), Occurs (fun x => x.host.mbx = .acked xs ∧ x.alive = true ∧ x.nd.mgmtStalled =
      false ∧ (x.nd.mode = .hold → ∀ y ∈ xs, x.endsCommit y = false))) ∧
    (∃ (op : Nat) (r : Request) (tk : Ticket), Occurs (fun x => x.alive = true ∧ x.paired = true ∧ x.host.passed = [tk] ∧ op ≠
      0x1601 ∧ hasBit r.flags flagReply = true ∧ tk.opcode = op ∧ tk.session = r.session ∧ tk.retry = r.retry ∧ tk.sequence =
      r.sequence)) ∧
    (∃ (a : Nat), Occurs (fun x => x.alive = true ∧ a = x.svcAddress ∧ x.nd.mgmtStalled = false)) ∧
    (∃ (a : Nat) (bs : List Byte), Occurs (fun x => x.alive = true ∧ a = x.svcAddress ∧ x.nd.mgmtStalled = false)) ∧
    (∃ (src : Nat) (port : Nat) (dest : Nat) (destPort : Nat) (sound : Bool) (bs : List Byte), Occurs (fun x => x.alive = true
      ∧ (dest = x.svcAddress ∨ dest = 0xFFFFFFFF) ∧ destPort = x.param 0x16000002)) :=
  ⟨⟨{ change with own := true, step := 3 }, occurs (changing { change with own := true, step := 3 } duty) (by decide +kernel)⟩,
   ⟨{ change with own := true }, occurs (changing { change with own := true } (pair .duty 4)) (by decide +kernel)⟩,
   ⟨{ change with own := true }, occurs (at_ 5000000 (changing { change with own := true } (pair .duty 4)))
     (by decide +kernel)⟩,
   ⟨1, [], occurs (pair .standby 3) (by decide +kernel)⟩,
   ⟨[], occurs { duty with host := { duty.host with mbx := .acked [] } } (by decide +kernel)⟩,
   ⟨0x0301, ⟨0, host, 1, 0xA0, 0, 0, 0, 0, 0, 0, 0, []⟩, { tk with opcode := 0x0301, session := 0, sequence := 0 }, occurs
     { pair .duty 4 with host := { duty.host with passed := [{ tk with opcode := 0x0301, session := 0, sequence := 0 }] } }
     (by decide +kernel)⟩,
   ⟨duty.svcAddress, occurs duty (by decide +kernel)⟩,
   ⟨duty.svcAddress, [], occurs duty (by decide +kernel)⟩,
   ⟨0, 0, 0xFFFFFFFF, duty.param 0x16000002, true, [], occurs duty (by decide +kernel)⟩⟩

/-- Operands and states that meet the hypotheses of TollEventsAct, clause by clause. -/
theorem test_meets_TollEventsAct :
    (∃ (cover : Bool), Occurs (fun x => x.toll.state ≠ .absent ∧ (x.modToll fun t => if cover then
      { t with coverOpen := true } else { t with switchOpen := true }).tollActs = true)) ∧
    (∃ (cover : Bool), Occurs (fun x => x.toll.state ≠ .absent)) ∧
    (∃ (f : Nat), Occurs (fun x => x.toll.peerSince = some f ∧ x.tollActs = true ∧ x.nd.peerPres = true ∧ f + 100000 ≤ x.now)) ∧
    (Occurs (fun x => x.tollActs = true ∧ x.toll.checkAt + 10000000 ≤ x.clk.clock)) ∧
    (Occurs (fun x => x.tollActs = true)) ∧
    (∃ (p : Nat), Occurs (fun x => x.tollActs = true ∧ x.tollOwns = true ∧ p < 16 ∧ (x.tollPt p).faultNow ≠ ((tollCapture
      x).tollPt p).faultNow)) :=
  ⟨⟨true, occurs (toll .sealed false) (by decide +kernel)⟩,
   ⟨false, occurs (toll .sealed true) (by decide +kernel)⟩,
   ⟨0, occurs (at_ 100000 (let s := toll .sealed false;
     { s with nd := { s.nd with peerPres := true }, toll := { s.toll with peerSince := some 0 } })) (by decide +kernel)⟩,
   occurs (let s := toll .sealed false; { s with clk := { s.clk with clock := 10000000 } }) (by decide +kernel),
   occurs (toll .sealed false) (by decide +kernel),
   ⟨15, occurs (let s := toll .sealed false;
     { s with toll := { s.toll with params := [(tollPid 15 0, 1), (tollPid 15 2, 0xFFFF)] } }) (by decide +kernel)⟩⟩

/-- A state with two commands waiting. -/
theorem test_meets_StepRunsTheFrontCommand :
    ∃ (c : Instr) (rest : List Instr) (s : State), s.pending = c :: rest :=
  ⟨.sweep 0, [.hbTick 0], { lab with pending := [.sweep 0, .hbTick 0] }, rfl⟩

/-- A state with none. -/
theorem test_meets_StepIdlesOnAnEmptyQueue : ∃ s : State, s.pending = [] := ⟨duty, rfl⟩

/-- A command with operands that can be, and lists one short and one too long. -/
theorem test_meets_WellFormedCommandsComplete :
    (∃ i : Instr, i.wellFormed = true) ∧ (∃ loads : List Rat, loads.length ≠ 32) ∧ (∃ v : List Rat, v.length ≠ 128) ∧
      (∃ loss pBay : List Rat, loss.length ≠ 16 ∨ pBay.length ≠ 16) :=
  ⟨⟨.bayCurrentSample 0 15 8 ⟨24, false⟩ (List.replicate 32 0), by decide +kernel⟩, ⟨List.replicate 31 0, by decide +kernel⟩,
   ⟨List.replicate 129 0, by decide +kernel⟩, ⟨List.replicate 16 0, List.replicate 17 0, by decide +kernel⟩⟩

/-- A sound state from which a step leads. -/
theorem test_meets_StepKeepsTheUnitSound : ∃ s t : State, Sound s ∧ step s = .next t := by
  refine ⟨{ duty with pending := [.hbTick 0] }, _, ⟨by decide, trivial, by decide, ?_⟩, rfl⟩
  intro i h
  cases List.mem_singleton.mp h
  decide

/-- A checkpoint in a sealed partition. -/
theorem test_meets_SealedParametersNeverChange :
    ∃ (i : Instr) (s t : State), s.tollOwns = true ∧ exec i s = .next t :=
  ⟨.tollCheckpoint 0, toll .sealed false, _, by decide +kernel, rfl⟩

/-- A packet with every field at its highest value, and bytes of a wrong length. -/
theorem test_meets_PacketsAreReadAsTheyAreWritten :
    (∃ p : Packet, p.version < 256 ∧ p.flags < 256 ∧ p.opcode < 65536 ∧ p.session < 256 ∧ p.retry < 256 ∧ p.status < 65536 ∧
      p.sequence < 4294967296 ∧ p.target < 65536 ∧ p.source < 65536 ∧ p.reserved < 65536 ∧ p.payload.length < 65536) ∧
    (∃ bs : List Byte, bs.length ≠ 28 + fieldAt bs 20 2) ∧ (∃ bs : List Byte, fieldAt bs 0 4 ≠ 0x31545645) ∧
    (∃ bs : List Byte, fieldAt bs (24 + fieldAt bs 20 2) 4 ≠ crc32 (bs.take (24 + fieldAt bs 20 2))) :=
  ⟨⟨⟨host, 255, 255, 65535, 255, 255, 65535, 4294967295, 65535, 65535, 65535, zeros 1024⟩, by decide +kernel⟩,
   ⟨zeros 27, by decide +kernel⟩, ⟨zeros 28, by decide +kernel⟩, ⟨zeros 28, by decide +kernel⟩⟩

/-- The setup of the last object of every kind, staged. -/
theorem test_meets_StagedSetupsReadBack : ∀ j : Subj, ∃ (pl : List Byte) (k session : Nat) (st : List Change) (s : State),
    pl.length = j.size ∧ fieldAt pl 0 j.keyLen = k ∧ k < j.count ∧ (j = .grp → k ≠ 0) ∧
      (reservedOf j pl).any (· != 0#8) = false ∧ stageTry session (setupChanges j k pl) s = .ok st := by
  intro j
  obtain ⟨st, h⟩ := stages j
  obtain ⟨h1, h2, h3, h4⟩ := lastSetup_ok j
  exact ⟨lastSetup j, _, 0, st, _, h1, h2, by cases j <;> decide, by cases j <;> decide, h3, h⟩

/-- A request of `host` without a MAC. -/
def plain (pl : List Byte) : Request := ⟨0, host, 1, 0x20, 0, 0, 0, 1, 0, 0, 0, pl⟩

/-- `CheckPasses` as a test. -/
def checkPasses? (op : Nat) (rq : Request) (s : State) (n : Nat) : Bool :=
  let inSession (f : Session → Bool) : Bool :=
    decide (opClass op = some 0) || (match s.sessionFor rq.session rq.link with | none => true | some ss => f ss)
  match n with
  | 2 => !hasBit rq.flags flagReply && (rq.link.svc || rq.link.viaPeer || decide (rq.source = rq.link.src))
  | 3 => decide (rq.version = 1)
  | 4 => decide (rq.payload.length ≤ 1024) && (!hasBit rq.flags flagAuth || decide (32 ≤ rq.payload.length))
  | 5 => hasBit rq.flags flagLocal || decide (rq.target = s.ponor.nodeAddr)
  | 6 => decide (s.addressed rq.flags = .here)
  | 7 => decide (opClass op ≠ none)
  | 8 => if opClass op = some 0 then decide (rq.session = 255) && !hasBit rq.flags flagAuth
      else (s.sessionFor rq.session rq.link).isSome
  | 9 => inSession fun ss => (!decide (2 ≤ classOf op (bareBytes rq) s) || hasBit rq.flags flagAuth) &&
      (!hasBit rq.flags flagAuth ||
        decide (macOf ss.key { reqPacket rq op with payload := bareBytes rq } = rq.payload.drop (bareBytes rq).length))
  | 10 => inSession fun ss => decide (classOf op (bareBytes rq) s ≤ ss.rights)
  | 11 => inSession fun ss => (decide (1 ≤ seqDiff rq.sequence ss.high) && decide (seqDiff rq.sequence ss.high ≤ 256)) ||
      ((decide (seqDiff rq.sequence ss.high = 0) || decide (4294967296 - 63 ≤ seqDiff rq.sequence ss.high)) &&
        decide (markOf ss rq.sequence = none))
  | 12 => inSession fun ss => decide ((ss.marks.filter fun m => decide (m.2 = SeqMark.outstanding)).length < 32)
  | _ => true

theorem inSession_iff (op : Nat) (o : Option Session) (f : Session → Bool) (p : Session → Prop) (h : ∀ ss, f ss = true ↔ p ss) :
    (decide (opClass op = some 0) || (match o with | none => true | some ss => f ss)) = true ↔
      (opClass op ≠ some 0 → ∀ ss, o = some ss → p ss) := by
  cases o with
  | none => simp
  | some x =>
    simp only [Bool.or_eq_true, decide_eq_true_eq, h, Option.some.injEq]
    constructor
    · intro h1 h2 ss h3
      cases h3
      exact h1.resolve_left h2
    · intro h1
      by_cases h2 : opClass op = some 0
      · exact .inl h2
      · exact .inr (h1 h2 x rfl)

theorem checkPasses?_iff (op : Nat) (rq : Request) (s : State) (n : Nat) :
    checkPasses? op rq s n = true ↔ CheckPasses op rq s n := by
  match n with
  | 0 => simp [checkPasses?, CheckPasses]
  | 1 => simp [checkPasses?, CheckPasses]
  | 2 => simp [checkPasses?, CheckPasses, or_assoc]
  | 3 => simp [checkPasses?, CheckPasses]
  | 4 => simp only [checkPasses?, CheckPasses]; cases hasBit rq.flags flagAuth <;> simp
  | 5 => simp [checkPasses?, CheckPasses]
  | 6 => simp [checkPasses?, CheckPasses]
  | 7 => simp [checkPasses?, CheckPasses]
  | 8 => simp only [checkPasses?, CheckPasses]; split <;> simp
  | 9 =>
    refine inSession_iff _ _ _ _ fun ss => ?_
    cases hasBit rq.flags flagAuth <;> simp
  | 10 => exact inSession_iff _ _ _ _ fun ss => by simp
  | 11 => exact inSession_iff _ _ _ _ fun ss => by simp [FreshNumber]
  | 12 => exact inSession_iff _ _ _ _ fun ss => by simp
  | n + 13 => simp [checkPasses?, CheckPasses]

theorem failed {op : Nat} {rq : Request} {s : State} (n : Nat)
    (h : ((List.range n).all (checkPasses? op rq s) && !checkPasses? op rq s n) = true) : FirstFailed op rq s n := by
  simp only [Bool.and_eq_true, List.all_eq_true, List.mem_range, Bool.not_eq_true', ← Bool.not_eq_true, checkPasses?_iff] at h
  exact h

/-- Some request fails check `n` first in a state where `more` holds. -/
def Fails (n : Nat) (more : Nat → Request → State → Prop) : Prop :=
  ∃ (op : Nat) (rq : Request) (s : State), (s.begin rq.t).alive = true ∧ (s.begin rq.t).nd.mgmtStalled = false ∧ FirstFailed op rq (s.begin rq.t) n ∧
    more op rq (s.begin rq.t)

theorem fails {n : Nat} {more : Nat → Request → State → Prop} (op : Nat) (rq : Request) (s : State)
    (h : ((s.begin rq.t).alive && !(s.begin rq.t).nd.mgmtStalled && (List.range n).all (checkPasses? op rq (s.begin rq.t)) &&
      !checkPasses? op rq (s.begin rq.t) n) = true)
    (k : more op rq (s.begin rq.t)) : Fails n more := by
  simp only [Bool.and_eq_true, Bool.not_eq_true'] at h
  exact ⟨op, rq, s, h.1.1.1, h.1.1.2, failed n (by simp [h.1.2, h.2]), k⟩

/-- `lab` with its session changed. -/
def told (f : Session → Session) : State := talking f lab

/-- For every check of Table 16.4 and every answer of it, a request that fails it first; and one that fails none. -/
theorem test_meets_ChecksStopRequestsInOrder :
    Fails 2 (fun _ _ _ => True) ∧ Fails 3 (fun _ _ _ => True) ∧ Fails 4 (fun _ _ _ => True) ∧ Fails 5 (fun _ _ _ => True) ∧
    Fails 6 (fun _ rq x => x.addressed rq.flags = .wrongUnit) ∧ Fails 6 (fun _ rq x => x.addressed rq.flags = .unreachable) ∧
    Fails 6 (fun _ rq x => x.addressed rq.flags = .pass) ∧ Fails 7 (fun _ _ _ => True) ∧ Fails 8 (fun _ _ _ => True) ∧
    Fails 9 (fun _ rq _ => hasBit rq.flags flagAuth = false) ∧
    Fails 9 (fun _ rq x => hasBit rq.flags flagAuth = true ∧ (x.sess rq.session).authFails = []) ∧
    Fails 10 (fun _ _ _ => True) ∧
    Fails 11 (fun _ rq x => ∃ ss, x.sessionFor rq.session rq.link = some ss ∧ markOf ss rq.sequence = none) ∧
    Fails 11 (fun _ rq x => ∃ ss, x.sessionFor rq.session rq.link = some ss ∧ 64 > seqDiff ss.high rq.sequence ∧
      markOf ss rq.sequence = some .outstanding) ∧
    Fails 11 (fun _ rq x => ∃ ss st r, x.sessionFor rq.session rq.link = some ss ∧ 64 > seqDiff ss.high rq.sequence ∧
      markOf ss rq.sequence = some (.complete st r)) ∧
    Fails 12 (fun _ _ _ => True) ∧
    (∃ (op : Nat) (rq : Request) (s : State), (s.begin rq.t).alive = true ∧ (s.begin rq.t).nd.mgmtStalled = false ∧ (∀ n, CheckPasses op rq (s.begin rq.t) n) ∧
      opClass op ≠ some 0) := by
  refine ⟨fails 0x0203 { plain [] with flags := 0xA0 } lab (by decide +kernel) trivial,
    fails 0x0203 { plain [] with version := 2 } lab (by decide +kernel) trivial,
    fails 0x0203 (plain (zeros 1025)) lab (by decide +kernel) trivial,
    fails 0x0203 { plain [] with flags := 0, target := 0xFFFE } lab (by decide +kernel) trivial,
    fails 0x0203 { plain [] with flags := 0x20 + 2 ^ flagPosA + 2 ^ flagPosB } lab (by decide +kernel) (by decide +kernel),
    fails 0x0203 { plain [] with flags := 0x20 + 2 ^ flagPosB } (paired 0 (fun p => { p with lostAt := some 0 }) (pair .duty 4))
      (by decide +kernel) (by decide +kernel),
    fails 0x0203 (plain []) (pair .standby 3) (by decide +kernel) (by decide +kernel),
    fails 0xFFFF (plain []) lab (by decide +kernel) trivial,
    fails 0x0203 { plain [] with session := 7 } lab (by decide +kernel) trivial,
    fails 0x0201 (plain []) lab (by decide +kernel) rfl,
    fails 0x0201 { plain (zeros 32) with flags := 0x60 } lab (by decide +kernel) (by decide +kernel),
    fails 0x0203 (plain []) (told fun x => { x with rights := 0 }) (by decide +kernel) trivial,
    fails 0x0203 { plain [] with sequence := 257 } lab (by decide +kernel) ⟨session, by decide +kernel⟩,
    fails 0x0203 (plain []) (told fun x => { x with high := 64, marks := [(1, .outstanding)] }) (by decide +kernel)
      ⟨{ session with high := 64, marks := [(1, .outstanding)] }, by decide +kernel⟩,
    fails 0x0203 (plain []) (told fun x => { x with high := 64, marks := [(1, .complete 0 [])] }) (by decide +kernel)
      ⟨{ session with high := 64, marks := [(1, .complete 0 [])] }, 0, [], by decide +kernel⟩,
    fails 0x0203 (plain []) (told fun x => { x with marks := (List.range 32).map fun k => (k + 2, .outstanding) })
      (by decide +kernel) trivial,
    0x0203, plain [], lab, by decide +kernel, by decide +kernel, ?_, by decide +kernel⟩
  intro n
  rw [← checkPasses?_iff]
  by_cases h : n < 13
  · exact List.all_eq_true.mp (by decide +kernel : (List.range 13).all (checkPasses? 0x0203 (plain []) (lab.begin 0)) = true) n
      (List.mem_range.mpr h)
  · obtain ⟨m, rfl⟩ : ∃ m, n = m + 13 := ⟨n - 13, by omega⟩
    rfl

/-- CH_SETUP of a channel of a sealed partition. -/
theorem test_meets_SealedPartitionRefusesItsChannels :
    ∃ (op : Nat) (rq : Request) (cls : Rights) (pl : List Byte) (s : State),
      (s.begin rq.t).alive = true ∧ Passes op rq cls pl (s.begin rq.t) ∧ (s.begin rq.t).tollBars op pl = true :=
  ⟨0x0201, _, 3, [63#8, 0#8], toll .sealed false, by decide +kernel, passes_ask (by decide +kernel), by decide +kernel⟩

/-- Points in each state of Table 10.4, suppressed, off and frozen. -/
theorem test_meets_PointsChangeByTheirTable :
    let fits (s : State) := (s.pt 65535).suppress ≠ 0 → (s.pt 65535).state = .normal
    (∃ s, fits s ∧ (s.pt 65535).state = .normal ∧ (s.pt 65535).suppress ≠ 0) ∧ (∃ s, fits s ∧ (s.pt 65535).state = .actAck) ∧
    (∃ s, fits s ∧ (s.pt 65535).state = .rtnUnack) ∧
    (∃ s, fits s ∧ s.ptKind 65535 = 0 ∧ s.alarm.frozen.contains 65535 = false) ∧
    (∃ s, fits s ∧ s.alarm.frozen.contains 65535 = true) ∧
    (∃ s : State, fits s ∧ (sweepPoint s 10000 65535 []).1.r.suppress ≠ 0) ∧
    (∃ s : State, fits s ∧ (sweepPoint s 10000 65535 []).1.r.state ≠ (s.pt 65535).state) :=
  ⟨⟨oneTag 0 0 { PtRun.initial with suppress := 3, inhibited := true } 10000, by decide +kernel⟩,
   ⟨oneTag 0 0 { PtRun.initial with state := .actAck, active := true } 10000, by decide +kernel⟩,
   ⟨oneTag 0 0 { PtRun.initial with state := .rtnUnack } 10000, by decide +kernel⟩, ⟨duty, by decide +kernel⟩,
   ⟨{ duty with alarm := { duty.alarm with frozen := [65535] } }, by decide +kernel⟩,
   ⟨oneTag 0 0 { PtRun.initial with inhibited := true } 10000, by decide +kernel⟩, ⟨oneTag 0 0 PtRun.initial 10000, by decide +kernel⟩⟩

/-- Lane 31 on legs 509 and 510, whose results are a value with a quality. -/
def legged (st : LaneState) (v : Nat) (q : Nat) : State :=
  let s := wired [(Subj.pid .ch 509 0, 17), (Subj.pid .ch 510 0, 17), (Subj.pid .ch 511 0, 18), (Subj.pid .lane 31 1, 509),
    (Subj.pid .lane 31 2, 510), (Subj.pid .lane 31 3, 511), (Subj.pid .lane 31 0, 0x18)] (live duty)
  let r : Result := { Result.initial with value := BitVec.ofNat 32 v, quality := q, seq := 1 }
  { s with field := { s.field with
      chan := [(509, { ChanRun.initial with latest := r }), (510, { ChanRun.initial with latest := r })]
      lane := [(31, { LaneRun.initial with state := st })] } }

/-- A lane armed with a leg in demand, and lanes that the compute phase leaves armed, tripped, unproven and off. -/
theorem test_meets_LanesChangeByTheirTable :
    (∃ s : State, (s.lane 31).state = .armed ∧
      ((evalLegs 31 s (s.lane 31)).legA.trips = true ∨ (evalLegs 31 s (s.lane 31)).legB.trips = true)) ∧
    (∃ s : State, ((laneCompute 31 [] s).lane 31).state = .armed) ∧
    (∃ s : State, ((laneCompute 31 [] s).lane 31).state = .tripped) ∧
    (∃ s : State, ((laneCompute 31 [] s).lane 31).state = .unproven) ∧ (∃ s : State, ((laneCompute 31 [] s).lane 31).state = .off) :=
  ⟨⟨legged .armed 0x42C80000 0, by decide +kernel⟩, ⟨legged .armed 0xC2C80000 0, by decide +kernel⟩,
   ⟨legged .armed 0x42C80000 0, by decide +kernel⟩, ⟨legged .unproven 0xC2C80000 0, by decide +kernel⟩, ⟨duty, by decide +kernel⟩⟩

/-- A leg in fault, and one that DEGRADED does not put into fault. -/
theorem test_meets_LegsInFaultAreNeitherInNorOutOfDemand :
    (∃ (x : Result) (g : LegRun), (g.eval false 1 0 1 0 x).fault = true ∧ g.demand = true) ∧ (∃ x : Result, x.quality = 7) :=
  ⟨⟨{ Result.initial with quality := 10 }, { LegRun.initial with demand := true }, by decide +kernel⟩,
   ⟨{ Result.initial with quality := 7 }, rfl⟩⟩

/-- Banks for each of the five cases. -/
theorem test_meets_TheHigherSoundBankIsLive :
    let ok (b : Bank) := b.sound = true ∧ b.committed = true
    let banks (a b : Bank) : State := { lab with cfg := { lab.cfg with bank0 := a, bank1 := b } }
    let older : Bank := { good with gen := 4294967294 }
    let newer : Bank := { good with gen := 4294967295 }
    (∃ s : State, ok s.cfg.bank0 ∧ ok s.cfg.bank1 ∧ s.cfg.bank1.gen < s.cfg.bank0.gen ∧ s = banks newer older) ∧
    (∃ s : State, ok s.cfg.bank0 ∧ ok s.cfg.bank1 ∧ s.cfg.bank0.gen < s.cfg.bank1.gen ∧ s = banks older newer) ∧
    (∃ s : State, ok s.cfg.bank0 ∧ ¬ok s.cfg.bank1 ∧ s = banks good { newer with committed := false }) ∧
    (∃ s : State, ¬ok s.cfg.bank0 ∧ ok s.cfg.bank1 ∧ s = banks { newer with sound := false } good) ∧
    (∃ s : State, ¬ok s.cfg.bank0 ∧ ¬ok s.cfg.bank1 ∧ s = banks Bank.blank Bank.blank) := by
  refine ⟨⟨_, ?_, ?_, ?_, rfl⟩, ⟨_, ?_, ?_, ?_, rfl⟩, ⟨_, ?_, ?_, rfl⟩, ⟨_, ?_, ?_, rfl⟩, ⟨_, ?_, ?_, rfl⟩⟩ <;> decide +kernel

/-- The last instant of the range, and its calendar time. -/
theorem test_meets_CalendarAndBinaryTimeAgree : (∃ t : Nat, t < clockLimit) ∧ (∃ c : Cal, c.ok = true) :=
  ⟨⟨clockLimit - 1, by decide +kernel⟩, ⟨Cal.of (clockLimit - 1), by decide +kernel⟩⟩

/-- A unit whose staging holds one record of `n` bytes. -/
def holding (n : Nat) : State := { duty with grn := { duty.grn with staged := [(0, ⟨0x001, 0, 0, zeros n⟩)] } }

theorem holding_full (n : Nat) (h : 4194288 ≤ n) : (holding n).stageRoom ⟨0x001, 0, []⟩ = false := by
  have e : exempt 0x001 = true := by decide
  have p : n ≤ pad4 n := by simp only [pad4]; omega
  simp only [State.stageRoom, holding, GranarySt.stagedBytes, recsBytes, List.foldl_cons, List.foldl_nil, recLen, zeros_length, e, if_true,
    decide_eq_false_iff_not]
  omega

/-- An exempt record, one with a token, one suppressed, and one without room. -/
theorem test_meets_GranaryKeepsItsOrder :
    (∃ (r : Submission) (s t : State), intakeRec r s = some t ∧ exempt r.code = true) ∧
    (∃ (r : Submission) (s t : State), intakeRec r s = some t ∧ 1 ≤ (s.bucketAt r.code (s.node / 1000)).tokens) ∧
    (∃ (r : Submission) (s t : State), intakeRec r s = some t ∧ exempt r.code = false ∧ (s.bucketAt r.code (s.node / 1000)).tokens < 1) ∧
    (∃ (r : Submission) (s : State), s.stageRoom r = false ∧ exempt r.code = true) := by
  obtain ⟨t1, h1⟩ := some_of (o := intakeRec ⟨0x001, 0, []⟩ duty) (by decide +kernel)
  obtain ⟨t2, h2⟩ := some_of (o := intakeRec ⟨0x080, 0, []⟩ duty) (by decide +kernel)
  obtain ⟨t3, h3⟩ := some_of
    (o := intakeRec ⟨0x080, 0, []⟩ { duty with grn := { duty.grn with buckets := [(0x080, ⟨0, 0, false, 0, 0, 0, 0⟩)] } })
    (by decide +kernel)
  exact ⟨⟨_, _, t1, h1, by decide +kernel⟩, ⟨_, _, t2, h2, by decide +kernel⟩, ⟨_, _, t3, h3, by decide +kernel, by decide +kernel⟩,
    ⟨⟨0x001, 0, []⟩, holding 4194288, holding_full _ (Nat.le_refl _), by decide +kernel⟩⟩

/-- A frame with a bad FCS, and one of another ring. -/
theorem test_meets_FramesThatDoNotBelongAreNotTaken :
    (∃ (t : Nat) (ns : Fin 1000) (p : Port) (f : Frame) (i : Instr), i = .syncFrame t ns p f ∧ f.good = false) ∧
    (∃ (t : Nat) (p : Port) (f : Frame) (s : State) (i : Instr), i = .dataFrame t p f ∧ f.ringId ≠ (s.begin t).ringId (p.val / 2)) :=
  ⟨⟨0, 999, 3, { frame [] with good := false }, _, rfl, rfl⟩,
   ⟨0, 3, { frame [] with ringId := 255 }, duty, _, rfl, by decide +kernel⟩⟩

/-- A unit whose logic runs. -/
theorem test_meets_ColdResetKeepsAndLoses : ∃ (t : Nat) (s : State), (s.begin t).logicOn = true := ⟨0, duty, by decide +kernel⟩

/-- A unit of a pair on duty. -/
theorem test_meets_ShutInTakesTheField :
    ∃ (t : Nat) (s : State), (s.begin t).nd.pairBase = true ∧ (s.begin t).pair.shutIn = false ∧ (s.begin t).alive = true :=
  ⟨0, pair .duty 4, by decide +kernel⟩

/-- The last byte of USER, and a memory that holds a byte. -/
theorem test_meets_BackupRamHoldsWhatIsWritten :
    (∃ (rq : Request) (cls : Rights) (pl : List Byte) (s : State), Taken 0x1306 rq cls pl s ∧ pl.length = byteAt pl 1 + 2 ∧
      64 ≤ byteAt pl 0 ∧ 1 ≤ byteAt pl 1 ∧ byteAt pl 0 + byteAt pl 1 ≤ 128 ∧ (begun 0x1306 rq cls s).clk.user.length = 64) ∧
    (∃ m : ByteMem, Memory.wf 0#8 m = true ∧ m ≠ []) :=
  ⟨⟨_, 2, [127#8, 1#8, 5#8], lab, taken_ask (by decide +kernel), by decide +kernel⟩, ⟨[(3, 5#8)], by decide +kernel⟩⟩

/-! Operands that cannot be. -/

/-- Every width of a packet header exceeded by one is refused. -/
theorem test_wellFormed_packet :
    (Instr.chRead { plain [] with version := 256 }).wellFormed = false ∧ (Instr.chRead { plain [] with flags := 256 }).wellFormed = false ∧
    (Instr.chRead { plain [] with session := 256 }).wellFormed = false ∧ (Instr.chRead { plain [] with retry := 256 }).wellFormed = false ∧
    (Instr.chRead { plain [] with status := 65536 }).wellFormed = false ∧
    (Instr.chRead { plain [] with sequence := 4294967296 }).wellFormed = false ∧
    (Instr.chRead { plain [] with target := 65536 }).wellFormed = false ∧ (Instr.chRead { plain [] with source := 65536 }).wellFormed = false ∧
    (Instr.chRead { plain [] with reserved := 65536 }).wellFormed = false ∧
    (Instr.chRead (plain (zeros 65536))).wellFormed = false ∧ (Instr.chRead (plain [])).wellFormed = true := by
  refine ⟨?_, ?_, ?_, ?_, ?_, ?_, ?_, ?_, ?_, ?_, ?_⟩
  case refine_10 => simp [Instr.wellFormed, Request.wellFormed, plain]
  all_goals decide +kernel

/-- Every width of a frame header exceeded by one is refused, and lists of readings that are too short. -/
theorem test_wellFormed_lists :
    let f : Frame := ⟨true, false, false, false, 1, 0, 0, 0, 1, 0, 0, 0, 1, [], 0x9C4D, false, 64⟩
    (Instr.nilFrame 0 0 { f with ringId := 65536 }).wellFormed = false ∧ (Instr.nilFrame 0 0 { f with hops := 256 }).wellFormed = false ∧
    (Instr.nilFrame 0 0 { f with prio := 16 }).wellFormed = false ∧ (Instr.nilFrame 0 0 { f with mode := 16 }).wellFormed = false ∧
    (Instr.nilFrame 0 0 { f with src := 65536 }).wellFormed = false ∧ (Instr.nilFrame 0 0 { f with dest := 65536 }).wellFormed = false ∧
    (Instr.nilFrame 0 0 { f with seq := 65536 }).wellFormed = false ∧
    (Instr.nilFrame 0 0 { f with cycle := 4294967296 }).wellFormed = false ∧
    (Instr.nilFrame 0 0 { f with unit := 281474976710656 }).wellFormed = false ∧ (Instr.nilFrame 0 0 f).wellFormed = true ∧
    (Instr.bayCurrentSample 0 0 0 ⟨0, false⟩ (List.replicate 31 0)).wellFormed = false ∧
    (Instr.terminalMonitorScan 0 0 (List.replicate 127 0) 0).wellFormed = false ∧
    (Instr.governorTick 0 0 0 (List.replicate 15 0) (List.replicate 16 0)).wellFormed = false ∧
    (Instr.governorTick 0 0 0 (List.replicate 16 0) (List.replicate 15 0)).wellFormed = false := by
  decide +kernel

/-- A frame's payload length field has 16 bits. -/
theorem test_wellFormed_frame :
    (Instr.nilFrame 0 0 ⟨true, false, false, false, 1, 0, 0, 0, 1, 0, 0, 0, 1, zeros 65536, 0x9C4D, false, 64⟩).wellFormed = false := by
  simp [Instr.wellFormed, Frame.wellFormed]

/-! Single commands. -/

/-- The state after a command. -/
def after (i : Instr) (s : State) : State :=
  match exec i s with | .next t => t | _ => s

/-- The status and payload of the replies a command sends. -/
def answers (i : Instr) (s : State) : List (Nat × List Byte) :=
  (after i s).out.filterMap fun e => match e with | .packet p => some (p.status, p.payload) | _ => none

/-- R166, R203, R333: the PIDs that the spec gives as examples. -/
theorem test_pids : Subj.pid .ch 0 4 = 0x02010004 ∧ Subj.pid .ch 134 0 = 0x02014300 ∧ Subj.pid .meas 134 0 = 0x021010C0 ∧
    Subj.pid .pt 0x0862 6 = 0x10260862 := by decide

/-- The check value of CRC-32 (IEEE 802.3). -/
theorem test_crc32 : crc32 [0x31#8, 0x32#8, 0x33#8, 0x34#8, 0x35#8, 0x36#8, 0x37#8, 0x38#8, 0x39#8] = 0xCBF43926 := by decide +kernel

/-- SHA-256 of "abc" begins BA 78 16 BF (FIPS 180-4). -/
theorem test_sha256 : (sha256 [0x61#8, 0x62#8, 0x63#8]).take 4 = [0xBA#8, 0x78#8, 0x16#8, 0xBF#8] := by decide +kernel

/-- Table 13.3: 2100-02-28 23:59:59.998600 was a Sunday; the next day is 2100-03-01, a Monday. -/
theorem test_calendar_rollover :
    Cal.of (3160857599998600) = ⟨2100, 2, 28, 23, 59, 59, 998600⟩ ∧ weekday 3160857599998600 = 7 ∧
    Cal.of 3160857601000000 = ⟨2100, 3, 1, 0, 0, 1, 0⟩ ∧ weekday 3160857601000000 = 1 := by decide +kernel

/-- Table 5.5: a restart at 0.200 ms of a 3-wire Pt100 at 10 S/s, with its reference check, is valid at 303.650 ms. -/
theorem test_restart :
    ((restart 511 200 true 250 (ch511 5 3 [(Subj.pid .ch 511 3, 3)] 200)).ch 511).tNext = 303650 := by decide +kernel

/-- Table 4.10: the first staging of bay 7 declares 5,518 mA. -/
theorem test_declared :
    baySum ((List.range 8).flatMap (fun k => [(Subj.pid .ch (224 + k) 0, 16), (Subj.pid .ch (224 + k) 7, 150)]) ++
      (List.range 2).map (fun k => (Subj.pid .ch (232 + k) 0, 16)) ++ (List.range 12).map (fun k => (Subj.pid .ch (234 + k) 0, 7)) ++
      (List.range 6).map (fun k => (Subj.pid .ch (246 + k) 0, 9)) ++ (List.range 4).map (fun k => (Subj.pid .ch (252 + k) 0, 10))) 7 =
        5518 := by decide +kernel

/-- Table 7.5: the needed 23.1 V are clipped to a rail target of 23.4 V at V_FS 24 V. -/
theorem test_rail_clipped :
    (outp (fun o => { o with vTerm := 231 / 10 }) (ch511 7 0 [] 0)).railTarget 511 = 234 / 10 := by decide +kernel

/-- R292, Table 9.5: a leg in demand trips an ARMED lane with TRIP_CAUSE 0x01. -/
theorem test_lane_trips : ((laneCompute 31 [] (legged .armed 0x42C80000 0)).lane 31).state = .tripped ∧
    ((laneCompute 31 [] (legged .armed 0x42C80000 0)).lane 31).tripCause = 1 := by decide +kernel

/-- Table 3.4: a confirmed warning takes a node in DUTY to HOLD, which returns to DUTY. -/
theorem test_warning_holds : (after (.supplyWarningConfirmed 50 (volts 17)) duty).nd.mode = .hold ∧
    (after (.supplyWarningConfirmed 50 (volts 17)) duty).nd.recorded = .duty := by decide +kernel

/-- Table 3.1: a supply that has not fallen to 17.5 V confirms no warning. -/
theorem test_no_warning : (after (.supplyWarningConfirmed 50 (volts (35 / 2))) duty).nd.mode = .duty := by decide +kernel

/-- Table 3.8: NRESET resets the node COLD with source 0x04. -/
theorem test_nreset : (after (.nresetAssert ⟨0, 24⟩) duty).nd.mode = .boot ∧ (after (.nresetAssert ⟨0, 24⟩) duty).nd.resetSource = 4 ∧
    (after (.nresetAssert ⟨0, 24⟩) duty).nd.resetKind = .cold := by decide +kernel

/-- R60: an open seat contact starts the double flash of WITHDRAW. -/
theorem test_seat_opens : (after (.seatContactOpen 0) duty).nd.withdraw = .flash2 := by decide +kernel

/-- R126: above 100 °C the node goes SAFE. -/
theorem test_thermal : (after (.thermalTrip 0 101) duty).nd.mode = .safe ∧ (after (.thermalTrip 0 100) duty).nd.mode = .duty := by
  decide +kernel

/-- Table 10.5: a point that becomes ACTIVE is raised, and RAISE_SEQ follows 65,535 with 1 (R321). -/
theorem test_point_raised :
    let r := (runSweep 10000 (oneTag 0 0 { PtRun.initial with raiseSeq := 65535 } 10000)).pt 65535
    r.state = .actUnack ∧ r.raiseSeq = 1 ∧ r.active = true := by decide +kernel

/-- Table 10.5: without RTN_ACK, ACTIVE clearing takes ACT_UNACK to NORMAL. -/
theorem test_point_returns :
    ((runSweep 10000 (oneTag 0x10 0 { PtRun.initial with state := .actUnack, active := true } 10000)).pt 65535).state =
      .normal := by decide +kernel

/-- Table 11.4: T1 running out in UNMANNED takes STAGE1 to STAGE2. -/
theorem test_stage2 :
    (after (.hbT1Expire 100000) (ringing fun b => { b with stage := .stage1, timer := some 1, unmanned := true })).bell.stage =
      .stage2 := by decide +kernel

/-- R350: DM_LEFT at 0 expires the dead man. -/
theorem test_dead_man : (after (.dmExpired 100000) (ringing fun b => { b with dm := .prewarn, dmLeft := 1 })).bell.dm = .expired := by
  decide +kernel

/-- R266: COUNT counts modulo 2^48. -/
theorem test_count_wraps :
    ((after (.cntEdge 0 511 ⟨true, 24, 4⟩) (digi (fun d => { d with count := 281474976710655 }) (ch511 12 0 [] 0))).dio 511).count = 0 := by
  decide +kernel

/-- Table 8.8: 5 V on a dark lamp show EXT_V. -/
theorem test_ext_v : ((after (.lampExtV 0 511 5) (ch511 16 0 [] 0)).lamp 511).state = .extV := by decide +kernel

/-- Table 8.11: a field supply below 15.0 V sets FS_LOW, one of 15.0 V does not. -/
theorem test_field_supply : ((after (.fieldSupplyThreshold 0 15 2 true (149 / 10)) (live lab)).bay 15).fsLow = true ∧
    ((after (.fieldSupplyThreshold 0 15 2 true 15) (live lab)).bay 15).fsLow = false := by decide +kernel

/-- R368, Table 12.4: a record takes the next SEQ and a token of its bucket. -/
theorem test_record_taken : (after (.granarySubmit 0 3) (submitting duty)).grn.nextSeq = wrap32 ((submitting duty).grn.nextSeq + 1) ∧
    (after (.granarySubmit 0 3) (submitting duty)).grn.staged.length = 1 := by decide +kernel

/-- R386: at the end of the range the clock stands and says so. -/
theorem test_range_end :
    (after (.clockRangeEnd 0) { duty with clk := { ClockSt.reset with clock := clockLimit, rangeEnd := false } }).clk.rangeEnd = true := by
  decide +kernel

/-- R430: a cut port opens after its hold. -/
theorem test_port_opens :
    ((after (.babbleReopen 1000000 0) ((ringed duty).modPort 0 fun y => { y with state := .cut, sync := true, cutHold := 1000000 })).port 0).state =
      .silent := by decide +kernel

/-- R447, Table 15.6: a heartbeat lost on both lanes sets fault bit 0. -/
theorem test_heartbeat_lost : hasBit (after (.heartbeatLoss 2800) (paired 2800 (fun p => { p with hbPairAt := some 0 })
    (pair .duty 4))).pair.faults 0 = true := by decide +kernel

/-- R438: SLUICE_SHUT_IN releases SLUICE_OWN. -/
theorem test_shut_in : (after (.sluiceShutIn 0 true) (paired 0 (fun p => { p with own := true }) (pair .duty 4))).pair.own = false := by
  decide +kernel

/-- R479: a session without a command for its idle time is closed. -/
theorem test_session_idle : ((after (.sessionIdleExpire 300000000 0) lab).sess 0).state = .free ∧
    ((after (.sessionIdleExpire 299999999 0) lab).sess 0).state = .proven := by decide +kernel

/-- R495: a transfer idle for 60 s ends. -/
theorem test_bulk_idle : (after (.bulkIdleExpire 60000000 3) (moving true 0 none)).bulkOf 3 = none := by decide +kernel

/-- R540: an opened seal switch breaks a sealed partition. -/
theorem test_seal_broken : (after (.tollSealBroken 0 false true) (toll .sealed false)).toll.state = .broken := by decide +kernel

/-- R536: the checkpoint is stamped with the clock. -/
theorem test_checkpoint :
    (after (.tollCheckpoint 0) (let s := toll .sealed false; { s with clk := { s.clk with clock := 10000000 } })).toll.checkAt =
      10000000 := by decide +kernel

/-- R474, Table 16.4: an opcode the node does not have, a wrong version and a class S request without a MAC. -/
theorem test_refusals : answers (.chRead { plain [2#8, 0#8] with version := 2 }) lab = [(stBadVersion, [])] ∧
    answers (.chSetup (plain [])) lab = [(stAuthRequired, [])] := by decide +kernel

/-- Table 4.13: CH_BAY of bay 15, off, answers DONE with the bay and STATE 0. -/
theorem test_ch_bay : (answers (.chBay (plain [15#8])) lab).map (fun a => (a.1, a.2.take 2)) = [(stDone, [15#8, 0#8])] := by
  decide +kernel

/-- The queue is first in, first out. -/
theorem test_first_in_first_out :
    (match step { duty with pending := [.thermalTrip 0 101, .sweep 0] } with | .next t => (t.nd.mode, t.pending) | _ => (.duty, [])) =
      (.safe, [.sweep 0]) := by decide +kernel

/-- Table 5.14: the reference function of type K gives 1.407 mV at 35 °C and 1.612 mV at 40 °C. -/
theorem test_type_k : rabs (tcVolts 0x13 35 - 1407 / 1000) < 1 / 2000 ∧ rabs (tcVolts 0x13 40 - 1612 / 1000) < 1 / 2000 := by
  decide +kernel

/-- R245: a high time of half a period of 1,000 µs, one shorter than 2 µs, and one that leaves less than 2 µs. -/
theorem test_pwm : highTime 50 1000 = 500 ∧ highTime (1 / 10) 1000 = 0 ∧ highTime (999 / 10) 1000 = 1000 := by decide +kernel

/-- R80: an asserted loop is open below 5 mA, and any loop shorted above 15 mA. -/
theorem test_loop : LoopState.judge .sound true (49 / 10) = .opened ∧ LoopState.judge .opened true 5 = .sound ∧
    LoopState.judge .shorted true 15 = .sound ∧ LoopState.judge .sound false (151 / 10) = .shorted := by decide +kernel

/-- R43: the boundary and the ring cycle of one millisecond fall at the same node time. -/
theorem test_cycles_meet : ((at_ 2500 duty).beginCycle).node = 3000 ∧ (((at_ 2500 duty).beginCycle).beginRing).node = 3000 := by
  decide +kernel

/-- R101: a dormant unit is not woken by NRESET below 18 V, and is woken at 18 V. -/
theorem test_wake_needs_supply : (after (.nresetAssert ⟨0, 179 / 10⟩) (nd (fun d => { d with wake := some 0 }) (dark duty))).logicOn = false ∧
    (after (.nresetAssert ⟨0, 18⟩) (nd (fun d => { d with wake := some 0 }) (dark duty))).logicOn = true := by decide +kernel

end Sys2Proof.Tests
end

section
/-! The evaluation of a safety leg (R292, R293): a result in fault and a sound result, each with its own equations. -/

namespace Sys2Proof.Machine

/-- The codes of STALE, OPEN, SHORT, COMPLIANCE, SETTLING and HELD (Table 5.11). -/
theorem legFault_iff (q : Nat) : legFault q = true ↔ q = 8 ∨ q = 2 ∨ q = 3 ∨ q = 6 ∨ q = 1 ∨ q = 10 := by
  simp [legFault]

theorem legFault_degraded : legFault 7 = false := by decide

theorem LegRun.trips_of_fault {g : LegRun} (h : g.fault = true) : g.trips = false := by
  simp [LegRun.trips, h]

theorem LaneRun.legsClear_of_leg_fault {r : LaneRun} {g : LegRun} (h : g.fault = true) (hleg : r.legA = g ∨ r.legB = g) :
    r.legsClear = false := by
  rcases hleg with rfl | rfl <;> simp [LaneRun.legsClear, h]

variable (low : Bool) (lim hyst : Rat) (confirm : Nat) (node : Micros) {x : Result} (g : LegRun)

/-- A result in fault takes the demand and the count away; `held` and `tDemand` are not written. -/
theorem LegRun.eval_of_fault (h : legFault x.quality = true) :
    g.eval low lim hyst confirm node x =
      { g with fault := true, demand := false, count := 0, seen := false, soundSince := none } := by
  simp [LegRun.eval, h]

theorem LegRun.eval_fault : (g.eval low lim hyst confirm node x).fault = legFault x.quality := by
  cases h : legFault x.quality with
  | true => rw [LegRun.eval_of_fault low lim hyst confirm node g h]
  | false => simp [LegRun.eval, h]

theorem LegRun.eval_held_of_sound (h : legFault x.quality = false) :
    (g.eval low lim hyst confirm node x).held = (g.eval low lim hyst confirm node x).demand := by
  simp [LegRun.eval, h]

/-- The demand time moves where the leg comes into demand and its last demand state out of fault was not in demand. -/
theorem LegRun.eval_tDemand_of_sound (h : legFault x.quality = false) :
    (g.eval low lim hyst confirm node x).tDemand =
      if (g.eval low lim hyst confirm node x).demand = true ∧ g.held = false then node else g.tDemand := by
  simp [LegRun.eval, h]

end Sys2Proof.Machine

open Sys2Proof Sys2Proof.Machine

/-- Settles O51: the fault is a fact of the quality alone, and the evaluation's two branches give the rest. -/
theorem legsInFaultAreNeitherInNorOutOfDemand : Obligations.LegsInFaultAreNeitherInNorOutOfDemand := by
  intro low lim hyst confirm node x g e
  have hfault : e.fault = legFault x.quality := LegRun.eval_fault low lim hyst confirm node g
  refine ⟨?quality, ?degraded, ?inFault, ?sound⟩
  case quality => rw [hfault, legFault_iff]
  case degraded =>
    intro hq
    rw [hfault, hq, legFault_degraded]
  case inFault =>
    intro h
    have heval : e = _ := LegRun.eval_of_fault low lim hyst confirm node g (hfault ▸ h)
    exact ⟨LegRun.trips_of_fault h, by rw [heval], by rw [heval], by rw [heval],
      fun _ hleg => LaneRun.legsClear_of_leg_fault h hleg⟩
  case sound =>
    intro h
    have hsound : legFault x.quality = false := hfault ▸ h
    exact ⟨LegRun.eval_held_of_sound low lim hyst confirm node g hsound,
      LegRun.eval_tDemand_of_sound low lim hyst confirm node g hsound⟩
end

section
/-! Leap years (R384): the model counts a year from 2000, the rule speaks of the calendar year. -/

namespace Sys2Proof.Machine

/-- 4, 100 and 400 divide 2000, so a year and its count from 2000 have the same divisors among them. -/
theorem two_thousand_add_mod (k : Nat) {d : Nat} (hd : d ∣ 2000) : (2000 + k) % d = k % d := by
  rw [Nat.add_mod, Nat.mod_eq_zero_of_dvd hd, Nat.zero_add, Nat.mod_mod]

theorem leapYear_iff_count (k : Nat) : leapYear k = true ↔ k % 4 = 0 ∧ (k % 100 ≠ 0 ∨ k % 400 = 0) := by
  simp [leapYear]

/-- R384 as the manual words it. -/
theorem leapYear_iff (k : Nat) :
    leapYear k = true ↔ (2000 + k) % 4 = 0 ∧ ¬((2000 + k) % 100 = 0 ∧ (2000 + k) % 400 ≠ 0) := by
  have h4 : (2000 + k) % 4 = k % 4 := two_thousand_add_mod k (by decide)
  have h100 : (2000 + k) % 100 = k % 100 := two_thousand_add_mod k (by decide)
  have h400 : (2000 + k) % 400 = k % 400 := two_thousand_add_mod k (by decide)
  rw [leapYear_iff_count, h4, h100, h400, Decidable.not_and_iff_not_or_not, Decidable.not_not]

theorem monthLens_february (k : Nat) : (monthLens k).getD 1 0 = if leapYear k then 29 else 28 := rfl

end Sys2Proof.Machine

open Sys2Proof Sys2Proof.Machine

/-- Settles O53: the rule holds of every year, and the four centuries are evaluated. -/
theorem leapYears : Obligations.LeapYears := by
  refine ⟨leapYear_iff, ?y2000, ?y2100, ?y2200, ?y2300, monthLens_february⟩ <;> decide
end

section
/-! The checks of Table 16.4 (R474): what the first check that fails makes of the verdict, what a verdict answers, and that a request
no check stops is taken. -/

namespace Sys2Proof.Machine

variable {op : Nat} {rq : Request} {s : State}

/-! Steps 2 to 8: the frame, the addressing, the opcode. -/

/-- Check 2 in the words of `verdict`: the packet is a request, and on a ring it comes from where it says. -/
theorem dropped_iff : (hasBit rq.flags flagReply || (!rq.link.svc && !rq.link.viaPeer && rq.source != rq.link.src)) = true ↔
    ¬CheckPasses op rq s 2 := by
  cases h : hasBit rq.flags flagReply <;> simp [CheckPasses, h, and_assoc]

theorem verdict_of_check2_fails (h : ¬CheckPasses op rq s 2) : verdict op rq s = .drop :=
  if_pos (dropped_iff.mpr h)

theorem dropped_eq_false (h : CheckPasses op rq s 2) :
    (hasBit rq.flags flagReply || (!rq.link.svc && !rq.link.viaPeer && rq.source != rq.link.src)) = false :=
  Bool.eq_false_iff.mpr fun hd => dropped_iff.mp hd h

theorem frameVerdict_of_version (h : ¬CheckPasses op rq s 3) : frameVerdict rq s = some (.refuse 3 stBadVersion) :=
  if_pos h

/-- Check 4 in the words of `frameVerdict`. -/
theorem badLength_iff : (1024 < rq.payload.length ∨ (hasBit rq.flags flagAuth ∧ rq.payload.length < 32)) ↔
    ¬CheckPasses op rq s 4 := by
  simp only [CheckPasses, Classical.not_and_iff_not_or_not, Nat.not_le, Classical.not_imp]

/-- Check 5 in the words of `frameVerdict`. -/
theorem wrongNode_iff : (!hasBit rq.flags flagLocal && rq.target != s.ponor.nodeAddr) = true ↔ ¬CheckPasses op rq s 5 := by
  simp [CheckPasses]

theorem frameVerdict_of_length (h3 : CheckPasses op rq s 3) (h : ¬CheckPasses op rq s 4) :
    frameVerdict rq s = some (.refuse 4 stBadLength) := by
  rw [frameVerdict, if_neg fun hv => hv h3, if_pos (badLength_iff.mpr h)]

theorem frameVerdict_of_node (h3 : CheckPasses op rq s 3) (h4 : CheckPasses op rq s 4) (h : ¬CheckPasses op rq s 5) :
    frameVerdict rq s = some (.refuse 5 stWrongNode) := by
  rw [frameVerdict, if_neg fun hv => hv h3, if_neg fun hb => badLength_iff.mp hb h4, if_pos (wrongNode_iff.mpr h)]

theorem frameVerdict_none (h3 : CheckPasses op rq s 3) (h4 : CheckPasses op rq s 4) (h5 : CheckPasses op rq s 5) :
    frameVerdict rq s = none := by
  rw [frameVerdict, if_neg fun hv => hv h3, if_neg fun hb => badLength_iff.mp hb h4, if_neg fun hb => wrongNode_iff.mp hb h5]

section
variable (hm : s.nd.mgmtStalled = false)
include hm

theorem verdict_of_frameVerdict {v : Verdict} (h2 : CheckPasses op rq s 2) (hf : frameVerdict rq s = some v) :
    verdict op rq s = v := by
  simp [verdict, dropped_eq_false h2, hm, hf]

/-- Past check 5 a packet that another unit is to execute goes no further. -/
theorem verdict_of_away (hp : ∀ m < 6, CheckPasses op rq s m) :
    (s.addressed rq.flags = .wrongUnit → verdict op rq s = .refuse 6 stWrongUnit) ∧
    (s.addressed rq.flags = .unreachable → verdict op rq s = .refuse 6 stUnreachable) ∧
    (s.addressed rq.flags = .pass → verdict op rq s = .pass) := by
  have hf := frameVerdict_none (hp 3 (by decide)) (hp 4 (by decide)) (hp 5 (by decide))
  simp only [verdict, dropped_eq_false (hp 2 (by decide)), hm, hf, Bool.false_eq_true, if_false]
  refine ⟨?_, ?_, ?_⟩ <;> (intro ha; rw [ha])

/-- Past check 6 the class of the opcode decides. -/
theorem verdict_of_here (hp : ∀ m < 7, CheckPasses op rq s m) :
    (opClass op = none → verdict op rq s = .refuse 7 stUnknownOpcode) ∧
    (opClass op = some 0 → verdict op rq s =
      if rq.session = 255 && !hasBit rq.flags flagAuth then .take 0 rq.payload else .refuse 8 stNoSession) ∧
    (opClass op ≠ none → opClass op ≠ some 0 → verdict op rq s = sessionVerdict op rq s) := by
  have hf := frameVerdict_none (hp 3 (by decide)) (hp 4 (by decide)) (hp 5 (by decide))
  have ha : s.addressed rq.flags = .here := hp 6 (by decide)
  simp only [verdict, dropped_eq_false (hp 2 (by decide)), hm, hf, ha, Bool.false_eq_true, if_false]
  cases opClass op with
  | none => simp
  | some c => cases c <;> simp

theorem verdict_of_check8_fails (hp : ∀ m < 8, CheckPasses op rq s m) (h : ¬CheckPasses op rq s 8) :
    verdict op rq s = .refuse 8 stNoSession := by
  obtain ⟨-, hfree, hsess⟩ := verdict_of_here hm fun m hlt => hp m (Nat.lt_succ_of_lt hlt)
  by_cases h0 : opClass op = some 0
  · simp only [CheckPasses, h0, if_true] at h
    rw [hfree h0, if_neg (by simpa using h)]
  · simp only [CheckPasses, h0, if_false, Option.isSome_iff_ne_none, ne_eq, Decidable.not_not] at h
    rw [hsess (hp 7 (by decide)) h0, sessionVerdict, h]

end

/-! Steps 9 to 12: the session. -/

/-- A check of a session that fails, fails in the session the request names. -/
theorem not_forall_session {o : Option Session} {p : Session → Prop}
    (h : ¬(opClass op ≠ some 0 → ∀ ss, o = some ss → p ss)) : opClass op ≠ some 0 ∧ ∃ ss, o = some ss ∧ ¬p ss := by
  simpa only [Classical.not_imp, Classical.not_forall, exists_prop] using h

/-- Past check 8 a request of a class with a session is judged in it. -/
theorem verdict_in_session (hm : s.nd.mgmtStalled = false) {k : Nat} (hp : ∀ m < k, CheckPasses op rq s m) (hk : 8 < k)
    (h0 : opClass op ≠ some 0) : verdict op rq s = sessionVerdict op rq s :=
  (verdict_of_here hm fun m hlt => hp m (by omega)).2.2 (hp 7 (by omega)) h0

section
variable {ss : Session} (hss : s.sessionFor rq.session rq.link = some ss)
include hss

theorem sessionVerdict_authRequired (hc : 2 ≤ classOf op (bareBytes rq) s) (ha : hasBit rq.flags flagAuth = false) :
    sessionVerdict op rq s = .refuse 9 stAuthRequired := by
  simp [sessionVerdict, hss, hc, ha]

theorem sessionVerdict_badMac (ha : hasBit rq.flags flagAuth = true)
    (hmac : macOf ss.key { reqPacket rq op with payload := bareBytes rq } ≠ rq.payload.drop (bareBytes rq).length) :
    sessionVerdict op rq s = .badMac := by
  simp [sessionVerdict, hss, ha, hmac]

/-- Past check 9 the rights decide, then the number. -/
theorem sessionVerdict_of_check9 (h0 : opClass op ≠ some 0) (h9 : CheckPasses op rq s 9) :
    sessionVerdict op rq s = if ss.rights < classOf op (bareBytes rq) s then .lowRights
      else sequenceVerdict rq.sequence (classOf op (bareBytes rq) s) (bareBytes rq) ss := by
  obtain ⟨hauth, hmac⟩ := h9 h0 ss hss
  cases ha : hasBit rq.flags flagAuth with
  | true => simp [sessionVerdict, hss, ha, hmac ha]
  | false =>
    have hc : ¬2 ≤ classOf op (bareBytes rq) s := fun h => Bool.false_ne_true (ha.symm.trans (hauth h))
    simp [sessionVerdict, hss, ha, hc]

end

section
variable {seq : Nat} {ss : Session} (cls : Rights) (pl : List Byte)

/-- A number within 64 of H, counted down from H. -/
theorem seqDiff_window {a b : Nat} (h : seqDiff a b < 64) : seqDiff b a = 0 ∨ 4294967296 - 63 ≤ seqDiff b a := by
  unfold seqDiff at h ⊢
  omega

theorem sequenceVerdict_of_fresh (h : FreshNumber seq ss) :
    sequenceVerdict seq cls pl ss =
      if 32 ≤ (ss.marks.filter fun m => decide (m.2 = SeqMark.outstanding)).length then .again 12 stBusy [] else .take cls pl := by
  by_cases hnew : 1 ≤ seqDiff seq ss.high ∧ seqDiff seq ss.high ≤ 256
  · simp only [sequenceVerdict, hnew, and_self, if_true]
  · obtain ⟨hwin, hfree⟩ := h.resolve_left hnew
    simp only [sequenceVerdict, if_neg hnew, if_pos hwin, hfree]

/-- A number outside the window is too high or too old, told apart at half the range (R478; log 49). -/
theorem sequenceVerdict_of_unheld (h : ¬FreshNumber seq ss) (hk : markOf ss seq = none) :
    sequenceVerdict seq cls pl ss = .again 11 (if seqDiff seq ss.high < 2147483648 then stSeqRange else stSeqStale) [] := by
  obtain ⟨hnew, hwin⟩ := not_or.mp h
  have hout : ¬(seqDiff seq ss.high = 0 ∨ 4294967296 - 63 ≤ seqDiff seq ss.high) := fun hw => hwin ⟨hw, hk⟩
  simp only [sequenceVerdict, if_neg hnew, if_neg hout]
  split <;> rfl

theorem sequenceVerdict_of_held (h : ¬FreshNumber seq ss) (hw : 64 > seqDiff ss.high seq) :
    (markOf ss seq = some .outstanding → sequenceVerdict seq cls pl ss = .again 11 stInProgress []) ∧
    (∀ st r, markOf ss seq = some (.complete st r) → sequenceVerdict seq cls pl ss = .again 11 st r) := by
  obtain ⟨hnew, -⟩ := not_or.mp h
  simp only [sequenceVerdict, if_neg hnew, if_pos (seqDiff_window hw)]
  constructor
  · intro hk
    simp only [hk]
  · intro st r hk
    simp only [hk]

end

/-! What a verdict other than `take` comes to. -/

/-- The state in which a judged packet is settled: out of the queue it waited in, its arrival traced. -/
def arrived (op : Nat) (rq : Request) (v : Verdict) (s : State) : State :=
  traceCmd 0x10 v.step (reqPacket rq op) (bareBytes rq) (dequeue (reqPacket rq op) s)

@[simp] theorem arrived_rest (op : Nat) (rq : Request) (v : Verdict) (s : State) : (arrived op rq v s).rest = s.rest := by
  simp [arrived]

@[simp] theorem arrived_sess (op : Nat) (rq : Request) (v : Verdict) (s : State) (k : Nat) :
    (arrived op rq v s).sess k = s.sess k :=
  (sess_of_host (traceCmd_host ..) k).trans (dequeue_sess ..)

theorem discard_rest_congr {a b : State} (h : a.rest = b.rest) : (discard a).rest = (discard b).rest :=
  congrArg (fun r : State => { r with host := { r.host with discarded := r.host.discarded + 1 } }) h

theorem declined_of_answer (tk : Ticket) (st : Nat) {a b : State} (h : b.rest = a.rest) :
    Declined tk st a (answer tk st [] b) :=
  ⟨(answer_rest ..).trans h, replied_of_answer ..⟩

/-- A first wrong MAC is answered and recorded, and the session stays (R479). -/
theorem authFail_first (tk : Ticket) {ss : Session} (s : State) (h : ss.authFails = []) :
    ∃ b, b.rest = s.rest ∧ authFail tk ss s = answer tk stAuthFail [] b :=
  ⟨(commandRecord tk stAuthFail (s.modSess tk.session fun x => { x with authFails := [s.now] })).count 12 1, by simp,
    by simp [authFail, h]⟩

section
variable (body : Rights → Ticket → List Byte → State → State) (ha : (s.begin rq.t).alive = true)
include ha

theorem runPacket_of_verdict {v : Verdict} (hv : verdict op rq (s.begin rq.t) = v) (hn : ∀ cls pl, v ≠ .take cls pl) :
    runPacket op rq body s = settleVerdict op rq (arrived op rq v (s.begin rq.t)) v := by
  simp only [runPacket, ha, if_true, runRequest, hv]
  cases v with
  | take cls pl => exact absurd rfl (hn cls pl)
  | _ => rfl

theorem runPacket_drop (hv : verdict op rq (s.begin rq.t) = .drop) :
    Quiet (discard (s.begin rq.t)) (runPacket op rq body s) := by
  rw [runPacket_of_verdict body ha hv (by simp)]
  exact discard_rest_congr (arrived_rest ..)

theorem runPacket_refuse {n st : Nat} (hv : verdict op rq (s.begin rq.t) = .refuse n st) :
    Declined (reqTicket rq op) st (s.begin rq.t) (runPacket op rq body s) := by
  rw [runPacket_of_verdict body ha hv (by simp)]
  exact declined_of_answer _ _ (arrived_rest ..)

theorem runPacket_pass (hv : verdict op rq (s.begin rq.t) = .pass) :
    Emission.peer 1 (packetBytes (reqPacket rq op)) ∈ (runPacket op rq body s).out := by
  rw [runPacket_of_verdict body ha hv (by simp)]
  simp [settleVerdict, passOn]

theorem runPacket_badMac (hv : verdict op rq (s.begin rq.t) = .badMac) (hf : ((s.begin rq.t).sess rq.session).authFails = []) :
    Declined (reqTicket rq op) stAuthFail (s.begin rq.t) (runPacket op rq body s) := by
  rw [runPacket_of_verdict body ha hv (by simp)]
  obtain ⟨b, hb, he⟩ := authFail_first (reqTicket rq op) (arrived op rq .badMac (s.begin rq.t)) hf
  rw [settleVerdict, arrived_sess, he]
  exact declined_of_answer _ _ (hb.trans (arrived_rest ..))

theorem runPacket_lowRights (hv : verdict op rq (s.begin rq.t) = .lowRights) :
    Declined (reqTicket rq op) stRights (s.begin rq.t) (runPacket op rq body s) := by
  rw [runPacket_of_verdict body ha hv (by simp)]
  exact declined_of_answer _ _ (by simp)

theorem runPacket_again {n st : Nat} {r : List Byte} (hv : verdict op rq (s.begin rq.t) = .again n st r) :
    Quiet (s.begin rq.t) (runPacket op rq body s) ∧ Replied (reqTicket rq op) st r (runPacket op rq body s) := by
  rw [runPacket_of_verdict body ha hv (by simp)]
  exact ⟨by simp [Quiet, settleVerdict], replied_of_answer ..⟩

end

/-! Each check from 9 on that fails first. -/

section
variable (hm : s.nd.mgmtStalled = false)
include hm

theorem verdict_of_check9_fails (h : FirstFailed op rq s 9) :
    (hasBit rq.flags flagAuth = false → verdict op rq s = .refuse 9 stAuthRequired) ∧
    (hasBit rq.flags flagAuth = true → verdict op rq s = .badMac) := by
  obtain ⟨hp, hf⟩ := h
  obtain ⟨h0, ss, hss, hbad⟩ := not_forall_session hf
  rw [verdict_in_session hm hp (by decide) h0]
  constructor
  · intro ha
    have hclass := Classical.not_imp.mp fun himp => hbad ⟨himp, by simp [ha]⟩
    exact sessionVerdict_authRequired hss hclass.1 ha
  · intro ha
    exact sessionVerdict_badMac hss ha (by simpa [ha] using hbad)

theorem verdict_of_check10_fails (h : FirstFailed op rq s 10) : verdict op rq s = .lowRights := by
  obtain ⟨hp, hf⟩ := h
  obtain ⟨h0, ss, hss, hlow⟩ := not_forall_session hf
  rw [verdict_in_session hm hp (by decide) h0, sessionVerdict_of_check9 hss h0 (hp 9 (by decide)), if_pos (Nat.lt_of_not_le hlow)]

/-- Past check 10 the number decides. -/
theorem verdict_of_check10 {k : Nat} (hp : ∀ m < k, CheckPasses op rq s m) (hk : 10 < k) (h0 : opClass op ≠ some 0) {ss : Session}
    (hss : s.sessionFor rq.session rq.link = some ss) :
    verdict op rq s = sequenceVerdict rq.sequence (classOf op (bareBytes rq) s) (bareBytes rq) ss := by
  rw [verdict_in_session hm hp (by omega) h0, sessionVerdict_of_check9 hss h0 (hp 9 (by omega)),
    if_neg (Nat.not_lt.mpr (hp 10 hk h0 ss hss))]

theorem verdict_of_check11_fails (h : FirstFailed op rq s 11) {ss : Session} (hss : s.sessionFor rq.session rq.link = some ss) :
    ¬FreshNumber rq.sequence ss ∧
      verdict op rq s = sequenceVerdict rq.sequence (classOf op (bareBytes rq) s) (bareBytes rq) ss := by
  obtain ⟨hp, hf⟩ := h
  obtain ⟨h0, ss', hss', hstale⟩ := not_forall_session hf
  obtain rfl : ss' = ss := Option.some.inj (hss'.symm.trans hss)
  exact ⟨hstale, verdict_of_check10 hm hp (by decide) h0 hss⟩

theorem verdict_of_check12_fails (h : FirstFailed op rq s 12) : verdict op rq s = .again 12 stBusy [] := by
  obtain ⟨hp, hf⟩ := h
  obtain ⟨h0, ss, hss, hfull⟩ := not_forall_session hf
  rw [verdict_of_check10 hm hp (by decide) h0 hss, sequenceVerdict_of_fresh _ _ (hp 11 (by decide) h0 ss hss),
    if_pos (Nat.le_of_not_lt hfull)]

end

/-! A request that no check stops. -/

theorem bulkClass_getD_pos (object : Nat) (write : Bool) : 1 ≤ (bulkClass object write).getD 1 := by
  unfold bulkClass
  repeat' split
  all_goals decide

/-- The payload never takes a request of a class with a session out of the classes of Table 16.11. -/
theorem classOf_pos (pl : List Byte) (s : State) (h0 : opClass op ≠ some 0) : 1 ≤ classOf op pl s := by
  have hbase : 1 ≤ (opClass op).getD 1 := by
    cases ho : opClass op with
    | none => exact Nat.le_refl 1
    | some c => exact Nat.one_le_iff_ne_zero.mpr fun hc => h0 (ho.trans (congrArg some hc))
  unfold classOf
  dsimp only
  split
  · split <;> decide
  · split
    · exact bulkClass_getD_pos ..
    · split
      · split
        · exact bulkClass_getD_pos ..
        · decide
      · split
        · split
          · decide
          · exact hbase
        · exact hbase

theorem inSession_of_checks (hp : ∀ n, CheckPasses op rq s n) (h0 : opClass op ≠ some 0) :
    InSession op rq (classOf op (bareBytes rq) s) (bareBytes rq) s := by
  have h8 := hp 8
  simp only [CheckPasses, h0, if_false] at h8
  obtain ⟨ss, hss⟩ := Option.isSome_iff_exists.mp h8
  obtain ⟨hauth, hmac⟩ := hp 9 h0 ss hss
  exact ⟨ss, hss, rfl, rfl, hauth, fun ha => ⟨(hp 4).2 ha, hmac ha⟩, hp 10 h0 ss hss, hp 11 h0 ss hss, hp 12 h0 ss hss⟩

/-- A request that every check of Table 16.4 lets through is taken, with the class its opcode and payload give. -/
theorem passes_of_checks (hm : s.nd.mgmtStalled = false) (hp : ∀ n, CheckPasses op rq s n) : ∃ cls pl, Passes op rq cls pl s := by
  obtain ⟨hreply, hlink⟩ := hp 2
  by_cases h0 : opClass op = some 0
  · have h8 := hp 8
    simp only [CheckPasses, h0, if_true] at h8
    exact ⟨0, rq.payload, hreply, hlink, hm, hp 3, (hp 4).1, hp 5, hp 6, .inl ⟨h0, rfl, rfl, h8⟩⟩
  · exact ⟨_, _, hreply, hlink, hm, hp 3, (hp 4).1, hp 5, hp 6,
      .inr ⟨hp 7, h0, classOf_pos _ _ h0, inSession_of_checks hp h0⟩⟩

/-- A passed request with a session begins with its number outstanding (R478). -/
theorem begun_outstanding {cls : Rights} {pl : List Byte} (h : Passes op rq cls pl (s.begin rq.t)) (h0 : opClass op ≠ some 0) :
    markOf ((begun op rq cls s).sess rq.session) rq.sequence = some .outstanding := by
  obtain ⟨-, -, -, -, -, -, -, ⟨hfree, -⟩ | ⟨-, -, hc, ss, hss, -⟩⟩ := h
  · exact absurd hfree h0
  · obtain ⟨ss', hss', hmark, -⟩ := begun_session (op := op) (Nat.one_le_iff_ne_zero.mp hc) hss
    obtain ⟨-, -, -, he⟩ := sessionFor_some hss'
    rw [he, hmark]

end Sys2Proof.Machine

open Sys2Proof Sys2Proof.Machine

/-- Settles O47: each check that fails first fixes the verdict, and each verdict its answer. -/
theorem checksStopRequestsInOrder : Obligations.ChecksStopRequestsInOrder := by
  intro op rq body s ha hm x y tk
  refine ⟨?check2, ?check3, ?check4, ?check5, ?check6, ?check7, ?check8, ?check9, ?check10, ?check11, ?check12, ?taken⟩
  case check2 => exact fun ⟨_, hf⟩ => runPacket_drop body ha (verdict_of_check2_fails hf)
  case check3 =>
    intro ⟨hp, hf⟩
    exact runPacket_refuse body ha (verdict_of_frameVerdict hm (hp 2 (by decide)) (frameVerdict_of_version hf))
  case check4 =>
    intro ⟨hp, hf⟩
    exact runPacket_refuse body ha
      (verdict_of_frameVerdict hm (hp 2 (by decide)) (frameVerdict_of_length (hp 3 (by decide)) hf))
  case check5 =>
    intro ⟨hp, hf⟩
    exact runPacket_refuse body ha
      (verdict_of_frameVerdict hm (hp 2 (by decide)) (frameVerdict_of_node (hp 3 (by decide)) (hp 4 (by decide)) hf))
  case check6 =>
    intro ⟨hp, _⟩
    obtain ⟨hwrong, haway, hpass⟩ := verdict_of_away hm hp
    exact ⟨fun h => runPacket_refuse body ha (hwrong h), fun h => runPacket_refuse body ha (haway h),
      fun h => runPacket_pass body ha (hpass h)⟩
  case check7 =>
    intro ⟨hp, hf⟩
    exact runPacket_refuse body ha ((verdict_of_here hm hp).1 (Decidable.not_not.mp hf))
  case check8 => exact fun ⟨hp, hf⟩ => runPacket_refuse body ha (verdict_of_check8_fails hm hp hf)
  case check9 =>
    intro h
    obtain ⟨hplain, hauth⟩ := verdict_of_check9_fails hm h
    exact ⟨fun hb => runPacket_refuse body ha (hplain hb), fun hb hnone => runPacket_badMac body ha (hauth hb) hnone⟩
  case check10 => exact fun h => runPacket_lowRights body ha (verdict_of_check10_fails hm h)
  case check11 =>
    intro h ss hss
    obtain ⟨hstale, hv⟩ := verdict_of_check11_fails hm h hss
    refine ⟨fun hk => ?unheld, fun hw hk => ?outstanding, fun st r hw hk => ?complete⟩
    case unheld => exact runPacket_again body ha (hv.trans (sequenceVerdict_of_unheld _ _ hstale hk))
    case outstanding => exact runPacket_again body ha (hv.trans ((sequenceVerdict_of_held _ _ hstale hw).1 hk))
    case complete => exact runPacket_again body ha (hv.trans ((sequenceVerdict_of_held _ _ hstale hw).2 st r hk))
  case check12 => exact fun h => runPacket_again body ha (verdict_of_check12_fails hm h)
  case taken =>
    intro hp
    obtain ⟨cls, pl, h⟩ := passes_of_checks hm hp
    exact ⟨cls, pl, h, begun_outstanding h⟩
end

section
/-! The live and the previous bank (R505): which bank the tests choose, and what holds where no bank meets them. -/

namespace Sys2Proof.Machine

/-- The tests of R505 on a bank by itself: HDR_CHECK and CONFIG_CRC correct, and COMMITTED reads 0. -/
abbrev Bank.Eligible (b : Bank) : Prop := b.sound = true ∧ b.committed = true

/-- The tests as `liveOf` evaluates them fail for a bank that is not eligible. -/
theorem Bank.tests_of_not_eligible {b : Bank} (h : ¬b.Eligible) : (b.sound && b.committed) = false :=
  Bool.eq_false_iff.mpr fun e => h (Bool.and_eq_true_iff.mp e)

/-- An eligible bank 0 is live unless bank 1 is eligible with a higher generation. -/
theorem liveOf_eq_bank0 {b0 b1 : Bank} (h0 : b0.Eligible) (hgen : b1.Eligible → b1.gen ≤ b0.gen) :
    liveOf b0 b1 = some (0, b0) := by
  by_cases h1 : b1.Eligible
  · simp [liveOf, h0, h1, hgen h1]
  · simp [liveOf, h0, Bank.tests_of_not_eligible h1]

/-- An eligible bank 1 is live unless bank 0 is eligible with as high a generation. -/
theorem liveOf_eq_bank1 {b0 b1 : Bank} (h1 : b1.Eligible) (hgen : b0.Eligible → b0.gen < b1.gen) :
    liveOf b0 b1 = some (1, b1) := by
  by_cases h0 : b0.Eligible
  · simp [liveOf, h0, h1, Nat.not_le.mpr (hgen h0)]
  · simp [liveOf, h1, Bank.tests_of_not_eligible h0]

theorem liveOf_eq_none {b0 b1 : Bank} (h0 : ¬b0.Eligible) (h1 : ¬b1.Eligible) : liveOf b0 b1 = none := by
  simp [liveOf, Bank.tests_of_not_eligible h0, Bank.tests_of_not_eligible h1]

variable {s : State}

theorem State.prev_of_live_bank0 {b : Bank} (h : s.live = some (0, b)) :
    s.prev = if s.cfg.bank1.Eligible then some s.cfg.bank1 else none := by
  simp [State.prev, h, State.bank]

theorem State.prev_of_live_bank1 {b : Bank} (h : s.live = some (1, b)) :
    s.prev = if s.cfg.bank0.Eligible then some s.cfg.bank0 else none := by
  simp [State.prev, h, State.bank]

theorem State.prev_of_no_live (h : s.live = none) : s.prev = none := by
  simp [State.prev, h]

theorem State.liveCfg_of_no_live (h : s.live = none) : s.liveCfg = [] := by
  simp [State.liveCfg, h]

theorem State.configInvalid_of_no_live (h : s.live = none) : s.configInvalid = true := by
  simp [State.configInvalid, h]

/-- A configuration without records gives every parameter its default. -/
theorem cget_nil (pid : Nat) : cget [] pid = pdefault [] pid := rfl

/-- R475: the delivery key stands in slot 0 while the configuration is empty or invalid. -/
theorem State.keySlot_zero_of_configInvalid (h : s.configInvalid = true) : (s.keySlot 0).1 = Config.deliveryKey := by
  simp [State.keySlot, h]

end Sys2Proof.Machine

open Sys2Proof Sys2Proof.Machine

/-- Settles O52: the tests choose the live bank, and the previous bank is the other one where it meets them too. -/
theorem theHigherSoundBankIsLive : Obligations.TheHigherSoundBankIsLive := by
  intro s ok
  refine ⟨?higher0, ?higher1, ?only0, ?only1, ?neither⟩
  case higher0 =>
    intro h0 h1 hgen
    have hlive : s.live = some (0, s.cfg.bank0) := liveOf_eq_bank0 h0 fun _ => Nat.le_of_lt hgen
    exact ⟨hlive, (State.prev_of_live_bank0 hlive).trans (if_pos h1)⟩
  case higher1 =>
    intro h0 h1 hgen
    have hlive : s.live = some (1, s.cfg.bank1) := liveOf_eq_bank1 h1 fun _ => hgen
    exact ⟨hlive, (State.prev_of_live_bank1 hlive).trans (if_pos h0)⟩
  case only0 =>
    intro h0 h1
    have hlive : s.live = some (0, s.cfg.bank0) := liveOf_eq_bank0 h0 fun h => absurd h h1
    exact ⟨hlive, (State.prev_of_live_bank0 hlive).trans (if_neg h1)⟩
  case only1 =>
    intro h0 h1
    have hlive : s.live = some (1, s.cfg.bank1) := liveOf_eq_bank1 h1 fun h => absurd h h0
    exact ⟨hlive, (State.prev_of_live_bank1 hlive).trans (if_neg h0)⟩
  case neither =>
    intro h0 h1
    have hlive : s.live = none := liveOf_eq_none h0 h1
    refine ⟨hlive, State.prev_of_no_live hlive, fun pid => ?defaults,
      State.keySlot_zero_of_configInvalid (State.configInvalid_of_no_live hlive)⟩
    case defaults => rw [State.liveCfg_of_no_live hlive, cget_nil]
end

section
/-! The invariant of every state and the commands that reach past it. -/

namespace Sys2Proof.Machine

/-- The commands that reach past the key, by name. -/
theorem reachesKey_cases {i : Instr} (h : reachesKey i = true) :
    (∃ rq, i = .bramWrite rq) ∨ (∃ rq, i = .tollLogClear rq) ∨ (∃ t k, i = .bulkCloseDone t k) ∨
      ∃ t sup pins lost, i = .resetThresholdCleared t sup pins lost := by
  unfold reachesKey at h
  split at h
  · exact .inl ⟨_, rfl⟩
  · exact .inr (.inl ⟨_, rfl⟩)
  · exact .inr (.inr (.inl ⟨_, _, rfl⟩))
  · exact .inr (.inr (.inr ⟨_, _, _, _, rfl⟩))
  · cases h

/-- No command leads a sound unit to one that is not. -/
theorem exec_sound {i : Instr} {s t : State} (hs : Sound s) (h : exec i s = .next t) : Sound t := by
  cases hk : reachesKey i with
  | false => exact sound_respects _ _ (exec_keeps i s hk t h) hs
  | true =>
    obtain ⟨rq, rfl⟩ | ⟨rq, rfl⟩ | ⟨at_, k, rfl⟩ | ⟨at_, sup, pins, lost, rfl⟩ := reachesKey_cases hk
    · exact execBramWrite_sound rq s t h hs
    · exact execTollLogClear_sound rq s t h hs
    · exact execBulkCloseDone_sound at_ k s t h hs
    · exact execResetThresholdCleared_sound at_ sup pins lost s t h hs

theorem step_of_empty {s : State} (h : s.pending = []) : step s = .next s := by
  simp [step, h]

theorem step_of_cons {c : Instr} {rest : List Instr} {s : State} (h : s.pending = c :: rest) :
    step s = exec c { s with pending := rest } := by
  simp [step, h]

/-- Taking the front command out of the queue keeps a unit sound. -/
theorem sound_of_dequeued {c : Instr} {rest : List Instr} {s : State} (h : s.pending = c :: rest) (hs : Sound s) :
    Sound { s with pending := rest } := by
  obtain ⟨hpart, hlog, huser, hwait⟩ := hs
  exact ⟨hpart, hlog, huser, fun i hi => hwait i (h ▸ List.mem_cons_of_mem c hi)⟩

end Sys2Proof.Machine

open Sys2Proof Sys2Proof.Machine

/-- Settles O39. -/
theorem stepRunsTheFrontCommand : Obligations.StepRunsTheFrontCommand :=
  fun _ _ _ h => step_of_cons h

/-- Settles O40. -/
theorem stepIdlesOnAnEmptyQueue : Obligations.StepIdlesOnAnEmptyQueue :=
  fun _ h => step_of_empty h

/-- Settles O42: each clause speaks of a field that the reset state fixes. -/
theorem resetIsSound : Obligations.ResetIsSound :=
  ⟨by decide, trivial, rfl, fun _ h => absurd h List.not_mem_nil⟩

/-- Settles O43: an idle step keeps the state, and the front command runs on a sound state. -/
theorem stepKeepsTheUnitSound : Obligations.StepKeepsTheUnitSound := by
  intro s t hs h
  cases hp : s.pending with
  | nil =>
    rw [step_of_empty hp] at h
    exact Host.Outcome.next.inj h ▸ hs
  | cons c rest =>
    rw [step_of_cons hp] at h
    exact exec_sound (sound_of_dequeued hp hs) h
end

section
/-! The Toll parameter set of a partition that owns its channels (R529, R533, R546). -/

namespace Sys2Proof.Machine

/-- What every pass of a loop keeps, the loop keeps. -/
theorem foldl_keeps {α β : Type} (g : State → β) {f : State → α → State} (h : ∀ s x, g (f s x) = g s) (l : List α) (s : State) :
    g (l.foldl f s) = g s := by
  induction l generalizing s with
  | nil => rfl
  | cons x l ih => exact (ih _).trans (h s x)

/-! Time passing leaves the partition alone. -/

@[simp] theorem passTime_toll (dt : Nat) (r : Int) (s : State) : (passTime dt r s).toll = s.toll := by
  have hclock : ∀ x : State, (clockAfter dt x).toll = x.toll := by
    intro x
    simp only [clockAfter]
    (repeat' split) <;> rfl
  simp only [passTime, hclock]
  split <;> rfl

@[simp] theorem slewPart_toll (dt : Nat) (s : State) : (slewPart dt s).2.toll = s.toll := by
  simp only [slewPart]
  split <;> rfl

@[simp] theorem elapse_toll (dt : Nat) (s : State) : (elapse dt s).toll = s.toll := by
  simp only [elapse]
  split
  · rfl
  · simp

@[simp] theorem flipChannel_toll (s : State) : (flipChannel s).toll = s.toll := by
  simp only [flipChannel, traceChannels]
  split
  · rfl
  · split
    · rfl
    · rw [foldl_keeps State.toll, toll_of_rest (traceFlip_rest ..)]
      intro s x
      split
      · rfl
      · exact toll_of_rest (traceRec_rest ..)

theorem traceEntries_toll {α : Type} (kind : Nat) (d : α) (enc : α → List Byte) (old new : Tbl α) (s : State) :
    (traceEntries kind d enc old new s).toll = s.toll := by
  refine foldl_keeps State.toll (fun s x => ?_) _ _
  dsimp only
  split
  · rfl
  · exact toll_of_rest (traceRec_rest ..)

@[simp] theorem flipAlarm_toll (s : State) : (flipAlarm s).toll = s.toll := by
  simp only [flipAlarm]
  split
  · rfl
  · split
    · rfl
    · have hsub : ∀ rs (x : State), (submitAll .control rs x).toll = x.toll :=
        fun rs => foldl_keeps State.toll (fun _ _ => toll_of_rest (submitAt_rest ..)) rs
      have hrep : ∀ rs (x : State), (replyAll rs x).toll = x.toll :=
        fun rs => foldl_keeps State.toll (fun _ _ => toll_of_rest (reply_rest ..)) rs
      rw [hrep, hsub, toll_of_rest (peak_rest ..), toll_of_rest (count_rest ..), traceEntries_toll, traceEntries_toll,
        toll_of_rest (traceFlip_rest ..)]

@[simp] theorem flipRemote_toll (s : State) : (flipRemote s).toll = s.toll := by
  simp only [flipRemote]
  split
  · rfl
  · split
    · rfl
    · rw [toll_of_rest (traceFlip_rest ..)]

theorem begin_toll (s : State) (t : Micros) : (s.begin t).toll = s.toll := by
  simp [State.begin, dueFlips]

theorem begin_tollOwns (s : State) (t : Micros) : (s.begin t).tollOwns = s.tollOwns := by
  simp [State.tollOwns, begin_toll]

/-- The Toll parameter set, its generation and the parameters in force. -/
def tollParams (s : State) : Option (List Byte) × Nat × Cfg := (s.toll.set, s.toll.gen, s.toll.params)

theorem tollParams_of_key {a b : State} (h : key a = key b) : tollParams a = tollParams b := by
  simp only [key, Prod.mk.injEq] at h
  obtain ⟨-, -, -, -, -, hset, hgen, hparams⟩ := h
  simp [tollParams, hset, hgen, hparams]

theorem respects_tollParams (p : Option (List Byte) × Nat × Cfg) : Respects fun s => tollParams s = p :=
  fun _ _ h hb => (tollParams_of_key h).trans hb

/-- A packet keeps the Toll parameters where its chapter's part does. -/
theorem runPacket_tollParams (op : Nat) (rq : Request) {body : Rights → Ticket → List Byte → State → State}
    (h : ∀ c tk pl s, tollParams (body c tk pl s) = tollParams s) (s : State) :
    tollParams (runPacket op rq body s) = tollParams s :=
  runPacket_pres (respects_tollParams (tollParams s)) op rq body (fun c tk pl x hx => (h c tk pl x).trans hx) s rfl

theorem bramWriteBody_tollParams (tk : Ticket) (pl : List Byte) (s : State) :
    tollParams (bramWriteBody tk pl s).2.2 = tollParams s := by
  simp only [bramWriteBody]
  split <;> rfl

theorem clearLog_tollParams (tk : Ticket) (s : State) : tollParams (clearLog tk s).2 = tollParams s :=
  (tollParams_of_key (tollEntry_key ..)).trans rfl

theorem tollCommand_tollParams {act : Ticket → State → List Byte × State} (h : ∀ tk s, tollParams (act tk s).2 = tollParams s)
    (may : State → Bool) (cls : Rights) (tk : Ticket) (pl : List Byte) (s : State) :
    tollParams (tollCommand may act cls tk pl s) = tollParams s := by
  simp only [tollCommand]
  split
  · exact tollParams_of_key (finish_key ..)
  · split
    · exact tollParams_of_key (finish_key ..)
    · exact (tollParams_of_key (finish_key ..)).trans ((h _ _).trans (tollParams_of_key (inProgress_key ..)))

theorem millpondLost_tollParams (s : State) : tollParams (millpondLost s) = tollParams s := rfl

theorem execResetThresholdCleared_tollParams {at_ : Nat} {sup : Supply} {pins : Pins} {lost : Bool} {s t : State}
    (h : execResetThresholdCleared at_ sup pins lost s = .next t) : tollParams t = tollParams s := by
  have hkey : ∀ a : State, key a = key (s.begin at_) → tollParams a = tollParams s :=
    fun _ ha => tollParams_of_key (ha.trans (State.begin_key ..))
  simp only [execResetThresholdCleared] at h
  split at h
  · exact Host.Outcome.next.inj h ▸ hkey _ rfl
  · split at h
    · rw [← Host.Outcome.next.inj h, tollParams_of_key (powerOn_key ..)]
      split
      · rw [millpondLost_tollParams]
        exact hkey _ ((usePins_key ..).trans rfl)
      · exact hkey _ ((usePins_key ..).trans rfl)
    · split at h
      · rw [← Host.Outcome.next.inj h, tollParams_of_key (powerOn_key ..)]
        exact hkey _ rfl
      · exact Host.Outcome.next.inj h ▸ hkey _ rfl

/-- No command changes the parameters of a partition that owns its channels. -/
theorem exec_tollParams {i : Instr} {s t : State} (hs : s.tollOwns = true) (h : exec i s = .next t) :
    tollParams t = tollParams s := by
  cases hk : reachesKey i with
  | false => exact tollParams_of_key (exec_keeps i s hk t h)
  | true =>
    obtain ⟨rq, rfl⟩ | ⟨rq, rfl⟩ | ⟨at_, k, rfl⟩ | ⟨at_, sup, pins, lost, rfl⟩ := reachesKey_cases hk
    · rw [← Host.Outcome.next.inj h]
      exact runPacket_tollParams _ rq
        (fun c tk pl s => (tollParams_of_key (finish_key ..)).trans (bramWriteBody_tollParams tk pl s)) s
    · rw [← Host.Outcome.next.inj h]
      exact runPacket_tollParams _ rq (tollCommand_tollParams clearLog_tollParams _) s
    · exact tollParams_of_key (execBulkCloseDone_sealed at_ k s ((begin_tollOwns s at_).trans hs) t h)
    · exact execResetThresholdCleared_tollParams h

end Sys2Proof.Machine

open Sys2Proof Sys2Proof.Machine

/-- Settles O44: a command that reaches past the key writes other parts of the partition, or refuses. -/
theorem sealedParametersNeverChange : Obligations.SealedParametersNeverChange := by
  intro i s t hs h
  have hp : tollParams t = tollParams s := exec_tollParams hs h
  simpa only [tollParams, Prod.mk.injEq] using hp
end

section
/-! Little-endian fields laid one behind the other: each is read at its own offset (R14). -/

namespace Sys2Proof.Machine

/-- Reading past a field reads what stands behind it. -/
theorem slice_le_append (k v : Nat) (bs : List Byte) {off : Nat} (len : Nat) (h : k ≤ off) :
    slice (le k v ++ bs) off len = slice bs (off - k) len := by
  simp [slice, List.drop_append, List.drop_of_length_le, h]

theorem fieldAt_le_append (k v : Nat) (bs : List Byte) {off : Nat} (len : Nat) (h : k ≤ off) :
    fieldAt (le k v ++ bs) off len = fieldAt bs (off - k) len := by
  simp only [fieldAt, slice_le_append k v bs len h]

/-- A byte is a field of one byte. -/
theorem byteAt_eq_fieldAt (bs : List Byte) (off : Nat) : byteAt bs off = fieldAt bs off 1 := by
  induction off generalizing bs with
  | zero => cases bs <;> simp [byteAt, fieldAt, slice, ofLe]
  | succ off ih =>
    cases bs with
    | nil => simp [byteAt, fieldAt, slice, ofLe]
    | cons b bs => simpa [byteAt, fieldAt, slice] using ih bs

end Sys2Proof.Machine
end

section
/-! Packets as they are written and read (Table 16.1, R465). -/

namespace Sys2Proof.Machine

theorem headerBytes_length (p : Packet) (len : Nat) : (headerBytes p len).length = 24 := by
  simp [headerBytes]

/-- The field at an offset of the header that starts there, whatever stands behind the header. -/
theorem headerBytes_fields (p : Packet) (len : Nat) (bs : List Byte) :
    fieldAt (headerBytes p len ++ bs) 0 4 = 0x31545645 ∧
    byteAt (headerBytes p len ++ bs) 4 = p.version % 256 ∧
    byteAt (headerBytes p len ++ bs) 5 = p.flags % 256 ∧
    fieldAt (headerBytes p len ++ bs) 6 2 = p.opcode % 65536 ∧
    byteAt (headerBytes p len ++ bs) 8 = p.session % 256 ∧
    byteAt (headerBytes p len ++ bs) 9 = p.retry % 256 ∧
    fieldAt (headerBytes p len ++ bs) 10 2 = p.status % 65536 ∧
    fieldAt (headerBytes p len ++ bs) 12 4 = p.sequence % 4294967296 ∧
    fieldAt (headerBytes p len ++ bs) 16 2 = p.target % 65536 ∧
    fieldAt (headerBytes p len ++ bs) 18 2 = p.source % 65536 ∧
    fieldAt (headerBytes p len ++ bs) 20 2 = len % 65536 ∧
    fieldAt (headerBytes p len ++ bs) 22 2 = p.reserved % 65536 := by
  simp [headerBytes, byteAt_eq_fieldAt, fieldAt_le_append, fieldAt_le]

theorem packetBytes_eq (p : Packet) :
    packetBytes p = headerBytes p p.payload.length ++ (p.payload ++ le 4 (crc32 (headerBytes p p.payload.length ++ p.payload))) := by
  simp [packetBytes]

theorem packetBytes_length (p : Packet) : (packetBytes p).length = 28 + p.payload.length := by
  simp [packetBytes_eq, headerBytes_length]
  omega

/-- What the CRC of a packet covers. -/
theorem packetBytes_take (p : Packet) :
    (packetBytes p).take (24 + p.payload.length) = headerBytes p p.payload.length ++ p.payload := by
  rw [packetBytes]
  exact List.take_left' (by simp [headerBytes_length])

theorem crc32_lt (bs : List Byte) : crc32 bs < 4294967296 := BitVec.isLt _

theorem packetBytes_crc (p : Packet) :
    fieldAt (packetBytes p) (24 + p.payload.length) 4 = crc32 (headerBytes p p.payload.length ++ p.payload) := by
  have hdrop : (packetBytes p).drop (24 + p.payload.length) = le 4 (crc32 (headerBytes p p.payload.length ++ p.payload)) :=
    List.drop_left' (by simp [headerBytes_length])
  rw [fieldAt, slice, hdrop, List.take_of_length_le (by simp), ofLe_le]
  exact Nat.mod_eq_of_lt (crc32_lt _)

theorem packetBytes_payload (p : Packet) : slice (packetBytes p) 24 p.payload.length = p.payload := by
  rw [slice, packetBytes_eq, List.drop_left' (headerBytes_length ..)]
  exact List.take_left

/-- Bytes whose length, MAGIC and CRC are those of a packet are read field by field. -/
theorem parsePacket_of_good (l : Link) {bs : List Byte} (hlen : bs.length = 28 + fieldAt bs 20 2)
    (hmagic : fieldAt bs 0 4 = 0x31545645) (hcrc : fieldAt bs (24 + fieldAt bs 20 2) 4 = crc32 (bs.take (24 + fieldAt bs 20 2))) :
    parsePacket l bs = some ⟨l, byteAt bs 4, byteAt bs 5, fieldAt bs 6 2, byteAt bs 8, byteAt bs 9, fieldAt bs 10 2,
      fieldAt bs 12 4, fieldAt bs 16 2, fieldAt bs 18 2, fieldAt bs 22 2, slice bs 24 (fieldAt bs 20 2)⟩ := by
  simp [parsePacket, hlen, hmagic, hcrc]

theorem parsePacket_of_bad (l : Link) {bs : List Byte} (h : bs.length ≠ 28 + fieldAt bs 20 2 ∨ fieldAt bs 0 4 ≠ 0x31545645 ∨
    fieldAt bs (24 + fieldAt bs 20 2) 4 ≠ crc32 (bs.take (24 + fieldAt bs 20 2))) : parsePacket l bs = none :=
  if_pos (by simpa [or_assoc] using h)

end Sys2Proof.Machine

open Sys2Proof Sys2Proof.Machine

/-- Settles O45: each field stands at its own offset, and the three tests of R465 pass on what is written. -/
theorem packetsAreReadAsTheyAreWritten : Obligations.PacketsAreReadAsTheyAreWritten := by
  refine ⟨?written, fun l _ h => parsePacket_of_bad l h⟩
  intro p hversion hflags hopcode hsession hretry hstatus hsequence htarget hsource hreserved hpayload
  obtain ⟨hmagic, eversion, eflags, eopcode, esession, eretry, estatus, esequence, etarget, esource, elen, ereserved⟩ :=
    headerBytes_fields p p.payload.length (p.payload ++ le 4 (crc32 (headerBytes p p.payload.length ++ p.payload)))
  rw [← packetBytes_eq] at hmagic eversion eflags eopcode esession eretry estatus esequence etarget esource elen ereserved
  rw [Nat.mod_eq_of_lt hpayload] at elen
  have hlen : (packetBytes p).length = 28 + fieldAt (packetBytes p) 20 2 := by rw [elen, packetBytes_length]
  have hcrc : fieldAt (packetBytes p) (24 + fieldAt (packetBytes p) 20 2) 4 =
      crc32 ((packetBytes p).take (24 + fieldAt (packetBytes p) 20 2)) := by
    rw [elen, packetBytes_crc, packetBytes_take]
  rw [parsePacket_of_good _ hlen hmagic hcrc, elen, packetBytes_payload, eversion, eflags, eopcode, esession, eretry, estatus,
    esequence, etarget, esource, ereserved]
  simp only [Nat.mod_eq_of_lt, *]
end

section
/-! The calendar and the binary time (R383, R384, R390): years by their first days, months by their lengths, the time of day by
division. -/

namespace Sys2Proof.Machine

/-! Years. -/

/-- A year has 365 days, a leap year one more. -/
theorem yearDays_succ (k : Nat) : yearDays (k + 1) = yearDays k + (365 + bit (leapYear k)) := by
  have h4 : (k + 1 + 3) / 4 = (k + 3) / 4 + bit (k % 4 == 0) := by
    by_cases h : k % 4 = 0 <;> simp [h, bit] <;> omega
  have h100 : (k + 1 + 99) / 100 = (k + 99) / 100 + bit (k % 100 == 0) := by
    by_cases h : k % 100 = 0 <;> simp [h, bit] <;> omega
  have h400 : (k + 1 + 399) / 400 = (k + 399) / 400 + bit (k % 400 == 0) := by
    by_cases h : k % 400 = 0 <;> simp [h, bit] <;> omega
  have hle : (k + 99) / 100 ≤ 365 * k + (k + 3) / 4 := by omega
  have hbit : bit (k % 4 == 0) + bit (k % 400 == 0) = bit (k % 100 == 0) + bit (leapYear k) := by
    by_cases h4 : k % 4 = 0
    · by_cases h100 : k % 100 = 0
      · simp [leapYear, h4, h100, bit]
      · simp [leapYear, h4, h100, bit, show k % 400 ≠ 0 by omega]
    · simp [leapYear, h4, bit, show k % 400 ≠ 0 by omega, show k % 100 ≠ 0 by omega]
  unfold yearDays
  omega

theorem yearDays_le_of_le {j k : Nat} (h : j ≤ k) : yearDays j ≤ yearDays k := by
  induction h with
  | refl => exact Nat.le_refl _
  | step _ ih => exact Nat.le_trans ih (yearDays_succ _ ▸ Nat.le_add_right ..)

/-- The days from the first of a year to the first of the next are that year's. -/
theorem yearOf_eq {d k : Nat} (h : yearDays k ≤ d) (h' : d < yearDays (k + 1)) : yearOf d = k := by
  have hsucc : yearDays k + 365 ≤ yearDays (k + 1) := by rw [yearDays_succ]; omega
  have hnear : d * 400 / 146097 = k ∨ d * 400 / 146097 + 1 = k ∨ d * 400 / 146097 = k + 1 := by
    unfold yearDays at h h'
    omega
  obtain hq | hq | hq := hnear
  · simp [yearOf, hq, Nat.not_le.mpr h', Nat.not_lt.mpr h]
  · simp [yearOf, hq, h]
  · have hpast : d < yearDays (k + 1 + 1) := Nat.lt_of_lt_of_le h' (yearDays_le_of_le (Nat.le_succ _))
    simp [yearOf, hq, Nat.not_le.mpr hpast, h']

/-- Every day falls in a year. -/
theorem exists_year (d : Nat) : ∃ k, yearDays k ≤ d ∧ d < yearDays (k + 1) := by
  induction d with
  | zero => exact ⟨0, by decide⟩
  | succ d ih =>
    obtain ⟨k, hlo, hhi⟩ := ih
    by_cases h : d + 1 < yearDays (k + 1)
    · exact ⟨k, by omega, h⟩
    · exact ⟨k + 1, by omega, by rw [yearDays_succ (k + 1)]; omega⟩

/-- The days of 400 years. -/
theorem yearDays_400 : yearDays 400 = 146097 := by decide

theorem year_lt_400 {d k : Nat} (h : yearDays k ≤ d) (hd : d < 146097) : k < 400 := Nat.lt_of_not_le fun hk => by
  have := yearDays_le_of_le hk
  rw [yearDays_400] at this
  omega

/-! Months. -/

/-- The days before month `i + 1` of a year whose months have these lengths. -/
def daysBefore (ls : List Nat) (i : Nat) : Nat := (ls.take i).foldl (· + ·) 0

theorem daysBefore_cons_succ (l : Nat) (ls : List Nat) (i : Nat) : daysBefore (l :: ls) (i + 1) = l + daysBefore ls i := by
  simp only [daysBefore, List.take_succ_cons, ← List.sum_eq_foldl, List.sum_cons]

theorem monthDay_daysBefore (ls : List Nat) (m i e : Nat) (h : e < ls.getD i 0) :
    monthDay ls m (daysBefore ls i + e) = (m + i, e + 1) := by
  induction ls generalizing m i with
  | nil => simp at h
  | cons l ls ih =>
    cases i with
    | zero => simp [daysBefore, monthDay, show e < l from h]
    | succ i =>
      have hstep := ih (m + 1) i h
      have hge : ¬l + daysBefore ls i + e < l := by omega
      have hsub : l + daysBefore ls i + e - l = daysBefore ls i + e := by omega
      rw [daysBefore_cons_succ, monthDay, if_neg hge, hsub, hstep]
      exact Prod.ext (by simp; omega) rfl

/-- A day of the year falls in a month. -/
theorem exists_month (ls : List Nat) {d : Nat} (h : d < daysBefore ls ls.length) :
    ∃ i e, e < ls.getD i 0 ∧ d = daysBefore ls i + e := by
  induction ls generalizing d with
  | nil => exact absurd h (Nat.not_lt_zero d)
  | cons l ls ih =>
    by_cases hd : d < l
    · exact ⟨0, d, hd, (Nat.zero_add d).symm⟩
    · rw [List.length_cons, daysBefore_cons_succ] at h
      obtain ⟨i, e, he, hsum⟩ := ih (d := d - l) (by omega)
      exact ⟨i + 1, e, he, by rw [daysBefore_cons_succ]; omega⟩

theorem daysBefore_all (k : Nat) : daysBefore (monthLens k) (monthLens k).length = 365 + bit (leapYear k) := by
  cases h : leapYear k <;> simp [daysBefore, monthLens, h, bit]

/-- The days before a month and in it are days of the year. -/
theorem daysBefore_add_lt (ls : List Nat) {i e : Nat} (h : e < ls.getD i 0) : daysBefore ls i + e < daysBefore ls ls.length := by
  induction ls generalizing i with
  | nil => simp at h
  | cons l ls ih =>
    rw [List.length_cons, daysBefore_cons_succ]
    cases i with
    | zero => exact Nat.lt_of_lt_of_le (by simpa [daysBefore] using h) (Nat.le_add_right ..)
    | succ i =>
      have := ih h
      rw [daysBefore_cons_succ]
      omega

theorem month_lt_12 {k i e : Nat} (h : e < (monthLens k).getD i 0) : i < 12 := Nat.lt_of_not_le fun hi => by
  simp [show (monthLens k).length ≤ i by simpa [monthLens] using hi] at h

/-! Instants. -/

/-- The instant at µs `u` of day `e` of month `i` of year `k`, each counted from 0. -/
def instant (k i e u : Nat) : Nat := (yearDays k + daysBefore (monthLens k) i + e) * dayMicros + u

theorem exists_instant (t : Nat) (h : t < clockLimit) :
    ∃ k i e u, k < 400 ∧ e < (monthLens k).getD i 0 ∧ u < dayMicros ∧ t = instant k i e u := by
  have hd : t / dayMicros < 146097 := by unfold dayMicros; unfold clockLimit at h; omega
  obtain ⟨k, hlo, hhi⟩ := exists_year (t / dayMicros)
  obtain ⟨i, e, he, hsum⟩ := exists_month (monthLens k) (d := t / dayMicros - yearDays k)
    (by rw [daysBefore_all]; rw [yearDays_succ] at hhi; omega)
  refine ⟨k, i, e, t % dayMicros, year_lt_400 hlo hd, he, Nat.mod_lt _ (by decide), ?_⟩
  have : yearDays k + daysBefore (monthLens k) i + e = t / dayMicros := by omega
  rw [instant, this]
  exact (Nat.div_add_mod' t dayMicros).symm

theorem instant_lt_clockLimit {k i e u : Nat} (hk : k < 400) (he : e < (monthLens k).getD i 0) (hu : u < dayMicros) :
    instant k i e u < clockLimit := by
  have hyear := daysBefore_add_lt _ he
  rw [daysBefore_all] at hyear
  have hnext : yearDays (k + 1) ≤ 146097 := yearDays_400 ▸ yearDays_le_of_le hk
  rw [yearDays_succ] at hnext
  unfold instant clockLimit
  unfold dayMicros at hu ⊢
  omega

theorem instant_div_dayMicros {k i e u : Nat} (hu : u < dayMicros) :
    instant k i e u / dayMicros = yearDays k + daysBefore (monthLens k) i + e := by
  unfold instant
  unfold dayMicros at hu ⊢
  omega

/-- A part of the time of day does not see whole days. -/
theorem mul_add_div_mod (d n m u : Nat) (hm : 0 < m) : (d * (n * m) + u) / m % n = u / m % n := by
  rw [← Nat.mul_assoc, Nat.add_comm, Nat.add_mul_div_right _ _ hm, Nat.add_mul_mod_self_right]

/-- The hour, the minute, the second and the µs of an instant are those of its time of day. -/
theorem instant_time {k i e u : Nat} (hu : u < dayMicros) :
    instant k i e u / 3600000000 % 24 = u / 3600000000 ∧ instant k i e u / 60000000 % 60 = u / 60000000 % 60 ∧
      instant k i e u / 1000000 % 60 = u / 1000000 % 60 ∧ instant k i e u % 1000000 = u % 1000000 := by
  unfold instant
  generalize yearDays k + daysBefore (monthLens k) i + e = d
  refine ⟨?hour, ?minute, ?second, ?micro⟩
  case hour =>
    have hlt : u / 3600000000 < 24 := Nat.div_lt_of_lt_mul hu
    exact (mul_add_div_mod d 24 3600000000 u (by decide)).trans (Nat.mod_eq_of_lt hlt)
  case minute =>
    rw [show d * dayMicros = d * 24 * (60 * 60000000) by rw [Nat.mul_assoc]; rfl]
    exact mul_add_div_mod _ _ _ u (by decide)
  case second =>
    rw [show d * dayMicros = d * 1440 * (60 * 1000000) by rw [Nat.mul_assoc]; rfl]
    exact mul_add_div_mod _ _ _ u (by decide)
  case micro =>
    rw [show d * dayMicros = d * 86400 * 1000000 by rw [Nat.mul_assoc]; rfl]
    exact Nat.mul_add_mod_self_right ..

/-- The calendar time of a time that falls on day `e` of month `i` of year `k`, each counted from 0. -/
theorem calOf_eq {t k i e : Nat} (ht : t / dayMicros = yearDays k + daysBefore (monthLens k) i + e)
    (he : e < (monthLens k).getD i 0) :
    Cal.of t = ⟨2000 + k, 1 + i, e + 1, t / 3600000000 % 24, t / 60000000 % 60, t / 1000000 % 60, t % 1000000⟩ := by
  have hin := daysBefore_add_lt _ he
  rw [daysBefore_all] at hin
  have hyear : yearOf (yearDays k + daysBefore (monthLens k) i + e) = k :=
    yearOf_eq (by omega) (by rw [yearDays_succ]; omega)
  have hrest : yearDays k + daysBefore (monthLens k) i + e - yearDays k = daysBefore (monthLens k) i + e := by omega
  simp only [Cal.of, ht, hyear, hrest, monthDay_daysBefore _ 1 i e he]

theorem calOf_instant {k i e u : Nat} (he : e < (monthLens k).getD i 0) (hu : u < dayMicros) :
    Cal.of (instant k i e u) =
      ⟨2000 + k, 1 + i, e + 1, u / 3600000000, u / 60000000 % 60, u / 1000000 % 60, u % 1000000⟩ := by
  obtain ⟨hhour, hminute, hsecond, hmicro⟩ := instant_time (k := k) (i := i) (e := e) hu
  rw [calOf_eq (instant_div_dayMicros hu) he, hhour, hminute, hsecond, hmicro]

/-- The binary value of a calendar time, its fields counted from 0. -/
theorem binary_eq_instant (k i e h m s u : Nat) :
    (Cal.mk (2000 + k) (1 + i) (e + 1) h m s u).binary = instant k i e (((h * 60 + m) * 60 + s) * 1000000 + u) := by
  have hk : 2000 + k - 2000 = k := by omega
  have hi : 1 + i - 1 = i := by omega
  simp only [Cal.binary, hk, hi, Nat.add_sub_cancel, instant, daysBefore, dayMicros]
  omega

theorem calOk_iff (c : Cal) : c.ok = true ↔ (2000 ≤ c.year ∧ c.year ≤ 2399) ∧ (1 ≤ c.month ∧ c.month ≤ 12) ∧
    (1 ≤ c.day ∧ c.day ≤ (monthLens (c.year - 2000)).getD (c.month - 1) 0) ∧ c.hour ≤ 23 ∧ c.minute ≤ 59 ∧ c.second ≤ 59 ∧
    c.micro ≤ 999999 := by
  simp only [Cal.ok, Bool.and_eq_true, decide_eq_true_eq, and_assoc]

/-- The calendar time of an instant within the range passes the check, and its binary value is the instant. -/
theorem calOf_good {k i e u : Nat} (hk : k < 400) (he : e < (monthLens k).getD i 0) (hu : u < dayMicros) :
    (Cal.of (instant k i e u)).ok = true ∧ (Cal.of (instant k i e u)).binary = instant k i e u := by
  have hi := month_lt_12 he
  rw [calOf_instant he hu, binary_eq_instant, calOk_iff]
  have hyear : 2000 + k - 2000 = k := by omega
  have hmonth : 1 + i - 1 = i := by omega
  unfold dayMicros at hu
  refine ⟨⟨by dsimp only; omega, by dsimp only; omega, ?day, by dsimp only; omega, by dsimp only; omega, by dsimp only; omega,
    by dsimp only; omega⟩, congrArg (instant k i e) (by omega)⟩
  case day =>
    dsimp only
    rw [hyear, hmonth]
    omega

/-- The fields of a time of day. -/
theorem timeOfDay_fields {h m s u : Nat} (hm : m ≤ 59) (hs : s ≤ 59) (hu : u ≤ 999999) :
    (((h * 60 + m) * 60 + s) * 1000000 + u) / 3600000000 = h ∧
      (((h * 60 + m) * 60 + s) * 1000000 + u) / 60000000 % 60 = m ∧
      (((h * 60 + m) * 60 + s) * 1000000 + u) / 1000000 % 60 = s ∧
      (((h * 60 + m) * 60 + s) * 1000000 + u) % 1000000 = u :=
  ⟨by omega, by omega, by omega, by omega⟩

/-- A calendar time that passes the check is that of an instant within the range. -/
theorem binary_good {c : Cal} (h : c.ok = true) : c.binary < clockLimit ∧ Cal.of c.binary = c := by
  obtain ⟨year, month, day, hour, minute, second, micro⟩ := c
  obtain ⟨⟨hy, hy'⟩, ⟨hm, _⟩, ⟨hd, hd'⟩, hh, hmin, hs, hu⟩ := (calOk_iff _).mp h
  dsimp only at hy hy' hm hd hd' hh hmin hs hu
  obtain ⟨k, rfl⟩ := Nat.exists_eq_add_of_le hy
  obtain ⟨i, rfl⟩ := Nat.exists_eq_add_of_le hm
  obtain ⟨e, rfl⟩ := Nat.exists_eq_add_of_le' hd
  have he : e < (monthLens k).getD i 0 := by
    rw [show 2000 + k - 2000 = k by omega, show 1 + i - 1 = i by omega] at hd'
    omega
  have hday : ((hour * 60 + minute) * 60 + second) * 1000000 + micro < dayMicros := by unfold dayMicros; omega
  rw [binary_eq_instant]
  refine ⟨instant_lt_clockLimit (by omega) he hday, (calOf_instant he hday).trans ?_⟩
  obtain ⟨ehour, eminute, esecond, emicro⟩ := timeOfDay_fields (h := hour) hmin hs hu
  rw [ehour, eminute, esecond, emicro]

end Sys2Proof.Machine

open Sys2Proof Sys2Proof.Machine

/-- Settles O54: both are written over the instant at a µs of a day of a month of a year, each counted from 0. -/
theorem calendarAndBinaryTimeAgree : Obligations.CalendarAndBinaryTimeAgree := by
  refine ⟨fun t ht => ?_, fun c hc => binary_good hc⟩
  obtain ⟨k, i, e, u, hk, he, hu, rfl⟩ := exists_instant t ht
  exact calOf_good hk he hu
end

section
/-! What a sealed partition bars (R546), the order of the Granary (R365 to R370), and the bytes of USER (R403). -/

namespace Sys2Proof.Machine

/-- A request that passes the checks has its place in its session. -/
theorem begun_expects_of_passes {op : Nat} {rq : Request} {cls : Rights} {pl : List Byte} {s : State}
    (h : Passes op rq cls pl (s.begin rq.t)) : (begun op rq cls s).expects (reqTicket rq op) = true := by
  obtain ⟨-, -, -, -, -, -, -, ⟨-, -, -, h255, -⟩ | ⟨-, -, hcls, ss, hss, -⟩⟩ := h
  · simp [State.expects, reqTicket, h255]
  · obtain ⟨ss', hss', hmark, -⟩ := begun_session (op := op) (Nat.one_le_iff_ne_zero.mp hcls) hss
    simp [State.expects, reqTicket, hss', hmark]

/-- A request that the Toll partition bars is finished with REFUSED_TOLL. -/
theorem runPacket_barred {op : Nat} {rq : Request} {cls : Rights} {pl : List Byte} {s : State}
    (body : Rights → Ticket → List Byte → State → State) (ha : (s.begin rq.t).alive = true)
    (hp : Passes op rq cls pl (s.begin rq.t)) (hb : (s.begin rq.t).tollBars op pl = true) :
    runPacket op rq body s = finish cls (reqTicket rq op) stToll [] (begun op rq cls s) := by
  have hbars : (begun op rq cls s).tollBars op pl = true := (tollBars_of_rest (begun_rest ..) op pl).trans hb
  simp only [runPacket, ha, if_true, runRequest, verdict_of_passes _ _ _ _ _ hp, Verdict.step]
  exact if_pos hbars

/-! The intake of a record. -/

/-- The parts of the Granary that only a numbered record changes. -/
def granaryOrder (s : State) : List (Micros × GrnRec) × Nat × Nat := (s.grn.staged, s.grn.nextSeq, s.grn.suppressed)

theorem granaryOrder_of_rest {a b : State} (h : a.rest = b.rest) : granaryOrder a = granaryOrder b :=
  (congrArg granaryOrder h :)

theorem granaryOrder_raiseSource (src code : Nat) (seq : Option Nat) (time : Micros) (detail : List Byte) (s : State) :
    granaryOrder (raiseSource src code seq time detail s) = granaryOrder s := by
  refine foldl_keeps granaryOrder (fun s k => ?_) _ _
  dsimp only
  split
  · rfl
  · split <;> rfl

theorem granaryOrder_notifyRecord (r : Submission) (seq : Option Nat) (s : State) :
    granaryOrder (notifyRecord r seq s) = granaryOrder s := by
  unfold notifyRecord
  split
  · exact granaryOrder_raiseSource ..
  · rfl

theorem granaryOrder_breakFreeze (s : State) : granaryOrder (breakFreeze s) = granaryOrder s := by
  unfold breakFreeze endFreeze
  split
  · split
    · rfl
    · exact (granaryOrder_of_rest (submit_rest ..)).trans rfl
  · rfl

theorem granaryOrder_assignRec (r : Submission) (s : State) :
    granaryOrder (assignRec r s) = (s.grn.staged ++ [(s.now, ⟨r.code, s.grn.nextSeq, r.time, r.payload⟩)],
      wrap32 (s.grn.nextSeq + 1), s.grn.suppressed) := by
  unfold assignRec
  dsimp only
  rw [granaryOrder_breakFreeze, granaryOrder_notifyRecord]
  split <;> rfl

theorem granaryOrder_suppressRec (r : Submission) (b : Bucket) (s : State) :
    granaryOrder (suppressRec r b s) = (s.grn.staged, s.grn.nextSeq, wrap32 (s.grn.suppressed + 1)) :=
  granaryOrder_notifyRecord ..

/-- A record takes a number where its code is exempt or its bucket holds a token. -/
abbrev State.takesNumber (s : State) (r : Submission) : Prop :=
  exempt r.code = true ∨ 1 ≤ (s.bucketAt r.code (s.node / 1000)).tokens

theorem intakeRec_suppressed {r : Submission} {s : State} (h : ¬s.takesNumber r) :
    intakeRec r s = some (suppressRec r (s.bucketAt r.code (s.node / 1000)) s) := by
  obtain ⟨hcode, htokens⟩ := not_or.mp h
  rw [intakeRec, if_neg hcode]
  exact if_pos (Rat.not_le.mp htokens)

/-- A record that takes a number leaves the port where staging has room, with the bucket's token gone where it is not exempt. -/
theorem intakeRec_numbered {r : Submission} {s : State} (h : s.takesNumber r) :
    ∃ x, (x = s ∨ ∃ b, x = setBucket r.code b s) ∧ intakeRec r s = if s.stageRoom r then some (assignRec r x) else none := by
  unfold intakeRec
  by_cases hcode : exempt r.code = true
  · exact ⟨s, .inl rfl, if_pos hcode⟩
  · have htokens := h.resolve_left hcode
    rw [if_neg hcode]
    exact ⟨_, .inr ⟨_, rfl⟩, if_neg (Rat.not_lt.mpr htokens)⟩

theorem intakeRec_numbered_some {r : Submission} {s t : State} (h : s.takesNumber r) (ht : intakeRec r s = some t) :
    granaryOrder t = (s.grn.staged ++ [(s.now, ⟨r.code, s.grn.nextSeq, r.time, r.payload⟩)], wrap32 (s.grn.nextSeq + 1),
      s.grn.suppressed) := by
  obtain ⟨x, hx, he⟩ := intakeRec_numbered h
  rw [he] at ht
  split at ht
  · rw [← Option.some.inj ht, granaryOrder_assignRec]
    obtain rfl | ⟨b, rfl⟩ := hx <;> rfl
  · cases ht

theorem intakeRec_eq_none_iff (r : Submission) (s : State) :
    intakeRec r s = none ↔ s.stageRoom r = false ∧ s.takesNumber r := by
  by_cases h : s.takesNumber r
  · obtain ⟨x, -, he⟩ := intakeRec_numbered h
    cases hroom : s.stageRoom r <;> simp [he, hroom, h]
  · simp only [intakeRec_suppressed h, reduceCtorEq, h, and_false]

/-! USER under BRAM_WRITE. -/

theorem getD_append_before {α : Type} {xs ys : List α} {i : Nat} {d : α} (h : i < xs.length) :
    (xs ++ ys).getD i d = xs.getD i d := by
  rw [List.getD, List.getD, List.getElem?_append_left h]

theorem getD_append_after {α : Type} {xs ys : List α} {i : Nat} {d : α} (h : xs.length ≤ i) :
    (xs ++ ys).getD i d = ys.getD (i - xs.length) d := by
  rw [List.getD, List.getD, List.getElem?_append_right h]

/-- Bytes laid over others are read in their range, and the others outside it. -/
theorem getD_overlay (bs new : List Byte) (off i : Nat) (h : off + new.length ≤ bs.length) :
    (overlay bs off new).getD i 0 = if off ≤ i ∧ i < off + new.length then new.getD (i - off) 0 else bs.getD i 0 := by
  have hfit : fit off bs = bs.take off := by
    rw [fit, List.take_append_of_le_length (by omega)]
  have hlen : (bs.take off).length = off := List.length_take_of_le (by omega)
  rw [overlay, hfit, List.append_assoc]
  by_cases hlo : i < off
  · rw [getD_append_before (by omega), if_neg (by omega)]
    simp [List.getD, hlo]
  · rw [getD_append_after (by omega), hlen]
    by_cases hhi : i < off + new.length
    · rw [getD_append_before (by omega), if_pos ⟨by omega, hhi⟩]
    · rw [getD_append_after (by omega), if_neg (by omega)]
      simp only [List.getD, List.getElem?_drop]
      rw [show off + new.length + (i - off - new.length) = i by omega]

theorem clk_of_rest {a b : State} (h : a.rest = b.rest) : a.clk = b.clk := (congrArg State.clk h :)

/-- BRAM_WRITE of a range within USER overlays it (R403). -/
theorem bramWriteBody_of_ok {tk : Ticket} {pl : List Byte} {s : State} (hlen : pl.length = byteAt pl 1 + 2)
    (hlo : 64 ≤ byteAt pl 0) (hn : 1 ≤ byteAt pl 1) (hhi : byteAt pl 0 + byteAt pl 1 ≤ 128) :
    bramWriteBody tk pl s =
      (stDone, [], s.modClk fun c => { c with user := overlay c.user (byteAt pl 0 - 64) (pl.drop 2) }) := by
  simp [bramWriteBody, userOk, hlen, hlo, hn, hhi]

theorem bramWrite_user {rq : Request} {cls : Rights} {pl : List Byte} {s : State} (ht : Taken 0x1306 rq cls pl s)
    (hlen : pl.length = byteAt pl 1 + 2) (hlo : 64 ≤ byteAt pl 0) (hn : 1 ≤ byteAt pl 1) (hhi : byteAt pl 0 + byteAt pl 1 ≤ 128) :
    ∃ t, exec (.bramWrite rq) s = .next t ∧
      t.clk.user = overlay (begun 0x1306 rq cls s).clk.user (byteAt pl 0 - 64) (pl.drop 2) := by
  refine ⟨_, answerNow_taken ht bramWriteBody, ?_⟩
  rw [bramWriteBody_of_ok hlen hlo hn hhi, clk_of_rest (finish_rest ..)]
  rfl

end Sys2Proof.Machine

open Sys2Proof Sys2Proof.Machine

/-- Settles O48: nothing but the refusal's own reply comes of a barred request. -/
theorem sealedPartitionRefusesItsChannels : Obligations.SealedPartitionRefusesItsChannels := by
  intro op rq cls pl body s ha hp hb
  rw [runPacket_barred body ha hp hb]
  exact ⟨(finish_rest ..).trans (begun_rest ..), replied_of_finish _ _ _ _ _ (begun_expects_of_passes hp)⟩

/-- Settles O55: the record takes a number, is suppressed, or stays in its port. -/
theorem granaryKeepsItsOrder : Obligations.GranaryKeepsItsOrder := by
  intro r s
  refine ⟨fun t ht h => ?numbered, fun t ht hcode htokens => ?suppressed, intakeRec_eq_none_iff r s⟩
  case numbered =>
    have ho := intakeRec_numbered_some h ht
    simp only [granaryOrder, Prod.mk.injEq] at ho
    exact ⟨ho.1, ho.2.1⟩
  case suppressed =>
    have hno : ¬s.takesNumber r := by simp [hcode, Rat.not_le.mpr htokens]
    rw [intakeRec_suppressed hno] at ht
    have ho := granaryOrder_suppressRec r (s.bucketAt r.code (s.node / 1000)) s
    rw [Option.some.inj ht] at ho
    simpa only [granaryOrder, Prod.mk.injEq] using ho

/-- Settles O59: the overlay gives each byte of USER, the laws of the sparse memory those of a transfer. -/
theorem backupRamHoldsWhatIsWritten : Obligations.BackupRamHoldsWhatIsWritten := by
  refine ⟨?user, fun m a bs hm => ⟨twf_memWriteN _ _ _ _ hm, memReadN_writeN .., fun b hb => memRead_writeN_out _ _ _ _ _ hb⟩⟩
  intro rq cls pl s ht hlen hlo hn hhi h64
  obtain ⟨t, he, huser⟩ := bramWrite_user ht hlen hlo hn hhi
  have hnew : (pl.drop 2).length = byteAt pl 1 := by rw [List.length_drop]; omega
  refine ⟨t, he, fun i hi => ?_⟩
  rw [huser, getD_overlay _ _ _ _ (by omega), hnew]
  have hrange : (byteAt pl 0 - 64 ≤ i ∧ i < byteAt pl 0 - 64 + byteAt pl 1) ↔
      (byteAt pl 0 ≤ 64 + i ∧ 64 + i < byteAt pl 0 + byteAt pl 1) := by omega
  simp only [hrange]
  split
  · have hoff : i - (byteAt pl 0 - 64) = 64 + i - byteAt pl 0 := by omega
    simp only [List.getD, List.getElem?_drop, hoff]
  · rfl
end

section
/-! One point's part of a sweep (Tables 10.5 and 10.7, R321 to R324, R331): what its steps may do to its state, its suppression and
its RAISE_SEQ, and that none of it goes without a record. -/

namespace Sys2Proof.Machine

/-- From `a` to `b` a point is acknowledged, or keeps its state. -/
structure Acks (a b : PtWork) : Prop where
  state : b.r.state = a.r.state ∨ a.r.state = .actUnack ∧ b.r.state = .actAck ∨ a.r.state = .rtnUnack ∧ b.r.state = .normal
  suppress : b.r.suppress = a.r.suppress
  raiseSeq : b.r.raiseSeq = a.r.raiseSeq
  /-- A change of state makes a record, and none is taken back. -/
  silent : b.recs = [] → a.recs = [] ∧ b.r.state = a.r.state

/-- From `a` to `b` a point goes along Table 10.5. -/
structure TableSweep (a b : PtWork) : Prop where
  normal : a.r.state = .normal → b.r.state = .normal ∨ b.r.state = .actUnack
  actAck : a.r.state = .actAck → b.r.state = .actAck ∨ b.r.state = .normal
  rtnUnack : a.r.state = .rtnUnack → b.r.state ≠ .actAck
  raiseSeq : b.r.raiseSeq = a.r.raiseSeq ∨
    b.r.raiseSeq = (if a.r.raiseSeq = 65535 then 1 else a.r.raiseSeq + 1) ∧ b.r.state = .actUnack ∧ b.r.active = true
  suppressed : (a.r.suppress ≠ 0 → a.r.state = .normal) → b.r.suppress ≠ 0 → b.r.state = .normal
  silent : b.recs = [] → a.recs = [] ∧ b.r.state = a.r.state ∧ b.r.suppress = a.r.suppress

/-- Work that leaves state, suppression, RAISE_SEQ and records alone. -/
theorem Acks.of_eq {a b : PtWork} (hs : b.r.state = a.r.state) (hp : b.r.suppress = a.r.suppress)
    (hq : b.r.raiseSeq = a.r.raiseSeq) (hr : b.recs = a.recs) : Acks a b :=
  ⟨.inl hs, hp, hq, fun h => ⟨hr ▸ h, hs⟩⟩

theorem Acks.refl (a : PtWork) : Acks a a := .of_eq rfl rfl rfl rfl

theorem Acks.trans {a b c : PtWork} (hab : Acks a b) (hbc : Acks b c) : Acks a c where
  state := by
    obtain h | ⟨h, h'⟩ | ⟨h, h'⟩ := hab.state <;> obtain k | ⟨k, k'⟩ | ⟨k, k'⟩ := hbc.state <;> simp_all
  suppress := hbc.suppress.trans hab.suppress
  raiseSeq := hbc.raiseSeq.trans hab.raiseSeq
  silent h := by
    obtain ⟨hb, hcb⟩ := hbc.silent h
    obtain ⟨ha, hba⟩ := hab.silent hb
    exact ⟨ha, hcb.trans hba⟩

theorem Acks.sweeps {a b : PtWork} (h : Acks a b) : TableSweep a b where
  normal hn := by obtain k | ⟨k, -⟩ | ⟨k, -⟩ := h.state <;> simp_all
  actAck hn := by obtain k | ⟨k, -⟩ | ⟨k, -⟩ := h.state <;> simp_all
  rtnUnack hn := by obtain k | ⟨k, -⟩ | ⟨-, k⟩ := h.state <;> simp_all
  raiseSeq := .inl h.raiseSeq
  suppressed hs hb := by
    have hn := hs (h.suppress ▸ hb)
    obtain k | ⟨k, -⟩ | ⟨k, -⟩ := h.state <;> simp_all
  silent hb := ⟨(h.silent hb).1, (h.silent hb).2, h.suppress⟩

theorem Acks.trans_sweeps {a b c : PtWork} (hab : Acks a b) (hbc : TableSweep b c) : TableSweep a c where
  normal hn := hbc.normal (by obtain k | ⟨k, -⟩ | ⟨k, -⟩ := hab.state <;> simp_all)
  actAck hn := hbc.actAck (by obtain k | ⟨k, -⟩ | ⟨k, -⟩ := hab.state <;> simp_all)
  rtnUnack hn := by
    obtain k | ⟨k, -⟩ | ⟨-, k⟩ := hab.state
    · exact hbc.rtnUnack (k.trans hn)
    · simp_all
    · obtain h | h := hbc.normal k <;> simp [h]
  raiseSeq := hab.raiseSeq ▸ hbc.raiseSeq
  suppressed hs := hbc.suppressed fun hb => by
    have hn := hs (hab.suppress ▸ hb)
    obtain k | ⟨k, -⟩ | ⟨k, -⟩ := hab.state <;> simp_all
  silent h := by
    obtain ⟨hb, hcb, hsb⟩ := hbc.silent h
    obtain ⟨ha, hba⟩ := hab.silent hb
    exact ⟨ha, hcb.trans hba, hsb.trans hab.suppress⟩

/-- A record made is a record that stays. -/
theorem go_recs_ne_nil {w : PtWork} {at_ p cause origin epoch : Nat} {f : PtRun → PtRun} :
    (w.go at_ p cause origin epoch f).recs ≠ [] := by
  simp [PtWork.go]

/-- An acknowledgement of an unacknowledged point. -/
theorem acks_go_acked {w : PtWork} (at_ p cause origin epoch : Nat) (h : w.r.state.unack = true) :
    Acks w (w.go at_ p cause origin epoch (·.acked at_)) where
  state := by cases hs : w.r.state <;> simp_all [PtWork.go, PtRun.acked, AlState.unack]
  suppress := rfl
  raiseSeq := rfl
  silent hb := absurd hb go_recs_ne_nil

/-- A record without a change. -/
theorem acks_go_id (w : PtWork) (at_ p cause origin epoch : Nat) : Acks w (w.go at_ p cause origin epoch id) :=
  ⟨.inl rfl, rfl, rfl, fun hb => absurd hb go_recs_ne_nil⟩

theorem applyPtCmd_acks (s : State) (at_ p : Nat) (c : SweepCmd) (w : PtWork) : Acks w (applyPtCmd s at_ p c w).1 := by
  unfold applyPtCmd
  dsimp only
  split
  case h_1 =>
    split
    · rename_i h
      exact acks_go_acked _ _ _ _ _ (Bool.and_eq_true_iff.mp h).1
    · exact acks_go_id ..
  case h_2 =>
    split
    · exact .refl w
    · split
      · exact .refl w
      · exact .of_eq rfl rfl rfl rfl
  case h_3 =>
    split
    · exact .refl w
    · exact .of_eq rfl rfl rfl rfl
  case h_4 =>
    split
    · rename_i h
      exact acks_go_acked _ _ _ _ _ (Bool.and_eq_true_iff.mp (Bool.and_eq_true_iff.mp h).1).1
    · exact .refl w

theorem applyPtCmds_acks (s : State) (at_ p : Nat) (cs : List SweepCmd) (w : PtWork) : Acks w (applyPtCmds s at_ p cs w).1 := by
  induction cs generalizing w with
  | nil => exact .refl w
  | cons c cs ih =>
    simp only [applyPtCmds]
    split
    · exact (applyPtCmd_acks s at_ p c w).trans (ih _)
    · exact ih _

theorem followStep_acks (at_ p epoch : Nat) (src : Option AlState) (w : PtWork) : Acks w (followStep at_ p epoch src w) := by
  unfold followStep
  split
  · rename_i h
    exact acks_go_acked _ _ _ _ _ (by rw [h]; rfl)
  · rename_i h
    exact acks_go_acked _ _ _ _ _ (by rw [h]; rfl)
  · exact .refl w

/-- The transitions that ACTIVE calls for, of a point that is not suppressed. -/
theorem activeStep_sweeps (at_ p epoch : Nat) (rtnAck : Bool) {w : PtWork} (h : w.r.suppress = 0) :
    TableSweep w (activeStep at_ p epoch rtnAck w) := by
  unfold activeStep
  split
  next hraise =>
    simp only [Bool.and_eq_true, Bool.not_eq_true'] at hraise
    exact
      { normal := fun _ => .inr rfl
        actAck := fun hn => by simp [hn, AlState.act] at hraise
        rtnUnack := fun _ => by simp [PtWork.go, PtRun.raise]
        raiseSeq := .inr ⟨rfl, rfl, hraise.1⟩
        suppressed := fun _ hs => absurd h hs
        silent := fun hb => absurd hb go_recs_ne_nil }
  next =>
    split
    next hreturn =>
      simp only [Bool.and_eq_true, Bool.not_eq_true'] at hreturn
      exact
        { normal := fun hn => by simp [hn, AlState.act] at hreturn
          actAck := fun hn => .inr (by simp [PtWork.go, hn])
          rtnUnack := fun hn => by simp [hn, AlState.act] at hreturn
          raiseSeq := .inl rfl
          suppressed := fun _ hs => absurd h hs
          silent := fun hb => absurd hb go_recs_ne_nil }
    next => exact (Acks.refl w).sweeps

/-- What a change of suppression does: nothing, its end, or its beginning with the point NORMAL. -/
theorem suppressStep_cases (at_ p epoch : Nat) (w : PtWork) :
    suppressStep at_ p epoch w = w ∨
    ((suppressStep at_ p epoch w).r = { w.r with suppress := 0 } ∧ (suppressStep at_ p epoch w).recs ≠ []) ∨
    ((suppressStep at_ p epoch w).r.state = .normal ∧ (suppressStep at_ p epoch w).r.suppress ≠ 0 ∧
      (suppressStep at_ p epoch w).r.raiseSeq = w.r.raiseSeq ∧ (suppressStep at_ p epoch w).recs ≠ []) := by
  unfold suppressStep
  dsimp only
  split
  · exact .inl rfl
  · split
    · exact .inr (.inl ⟨rfl, go_recs_ne_nil⟩)
    · rename_i hwant
      exact .inr (.inr ⟨rfl, hwant, rfl, go_recs_ne_nil⟩)

/-- A point whose suppression has ended goes on as it was. -/
theorem TableSweep.of_unsuppressed {a b c : PtWork} (h : TableSweep b c) (hb : b.r = { a.r with suppress := 0 }) (hr : b.recs ≠ []) :
    TableSweep a c where
  normal hn := h.normal (by rw [hb]; exact hn)
  actAck hn := h.actAck (by rw [hb]; exact hn)
  rtnUnack hn := h.rtnUnack (by rw [hb]; exact hn)
  raiseSeq := by
    have := h.raiseSeq
    rw [hb] at this
    exact this
  suppressed _ := h.suppressed fun hs => absurd (by rw [hb]) hs
  silent hc := absurd (h.silent hc).1 hr

/-- A point found suppressed is NORMAL, with a record. -/
theorem sweeps_of_normal {a b : PtWork} (hs : b.r.state = .normal) (hq : b.r.raiseSeq = a.r.raiseSeq) (hr : b.recs ≠ []) :
    TableSweep a b where
  normal _ := .inl hs
  actAck _ := .inr hs
  rtnUnack _ := by simp [hs]
  raiseSeq := .inl hq
  suppressed _ _ := hs
  silent hb := absurd hb hr

theorem stepSix_sweeps (s : State) (at_ p : Nat) (w : PtWork) : TableSweep w (stepSix s at_ p w) := by
  unfold stepSix
  extract_lets epoch w1
  have hgo : ∀ src, w1.r.suppress = 0 →
      TableSweep w1 (activeStep at_ p epoch (s.ptFlag p 5) (followStep at_ p epoch src w1)) := fun src h0 =>
    have hf := followStep_acks at_ p epoch src w1
    hf.trans_sweeps (activeStep_sweeps at_ p epoch _ (hf.suppress.trans h0))
  obtain h | ⟨hr, hrec⟩ | ⟨hstate, hsup, hseq, hrec⟩ := suppressStep_cases at_ p epoch w
  · split
    · exact h ▸ (Acks.refl w).sweeps
    · rename_i h0
      have := hgo (if s.ptKind p = 7 && s.ptFlag p 3 && (s.ptSlot at_ p).1 ≠ 8 then some (s.ptSlot at_ p).2.2.1 else none)
        (Decidable.not_not.mp h0)
      rw [show w1 = w from h] at this ⊢
      exact this
  · have h0 : w1.r.suppress = 0 := congrArg PtRun.suppress hr
    rw [if_neg (not_not_intro h0)]
    exact (hgo _ h0).of_unsuppressed hr hrec
  · rw [if_pos hsup]
    exact sweeps_of_normal hstate hseq hrec

/-! The steps before step 6 judge the point and leave its state to it. -/

/-- What step 6 works on. -/
def PtRun.alarm (r : PtRun) : AlState × Nat × Nat := (r.state, r.suppress, r.raiseSeq)

theorem Acks.of_alarm {a : PtWork} {r : PtRun} (h : r.alarm = a.r.alarm) : Acks a { a with r := r } := by
  simp only [PtRun.alarm, Prod.mk.injEq] at h
  exact .of_eq h.1 h.2.1 h.2.2 rfl

theorem countShelf_alarm (at_ : Micros) (paused : Bool) (r : PtRun) : (r.countShelf at_ paused).alarm = r.alarm := by
  unfold PtRun.countShelf
  split <;> rfl

theorem block_alarm (at_ : Micros) (enabled input : Bool) (delay : Nat) (r : PtRun) :
    (r.block at_ enabled input delay).alarm = r.alarm := by
  unfold PtRun.block
  dsimp only
  (repeat' split) <;> rfl

theorem delays_alarm (on off : Nat) (r : PtRun) : (r.delays on off).alarm = r.alarm := by
  unfold PtRun.delays
  dsimp only
  (repeat' split) <;> rfl

/-- The point as steps 2 to 5 leave it. -/
theorem evalPoint_eq (s : State) (at_ p : Nat) (frozen : Bool) (w : PtWork) :
    ∃ r : PtRun, r.alarm = w.r.alarm ∧
      evalPoint s at_ p frozen w = if frozen then { w with r := r } else stepSix s at_ p { w with r := r } := by
  refine ⟨_, ?_, rfl⟩
  rw [delays_alarm]
  have hjudged : ∀ b input delay paused, (((w.r.countShelf at_ paused).block at_ b input delay)).alarm = w.r.alarm :=
    fun _ _ _ _ => (block_alarm ..).trans (countShelf_alarm ..)
  split <;> exact (hjudged ..)

theorem evalPoint_sweeps (s : State) (at_ p : Nat) (frozen : Bool) (w : PtWork) : TableSweep w (evalPoint s at_ p frozen w) := by
  obtain ⟨r, hr, he⟩ := evalPoint_eq s at_ p frozen w
  rw [he]
  split
  · exact (Acks.of_alarm hr).sweeps
  · exact (Acks.of_alarm hr).trans_sweeps (stepSix_sweeps ..)

/-- A point of KIND OFF ends NORMAL, unsuppressed and not ACTIVE, with a record where it was not so. -/
theorem offPoint_off (s : State) (at_ p : Nat) (w : PtWork) :
    (offPoint s at_ p w).r.state = .normal ∧ (offPoint s at_ p w).r.suppress = 0 ∧ (offPoint s at_ p w).r.active = false ∧
      (offPoint s at_ p w).r.raiseSeq = w.r.raiseSeq ∧
      ((offPoint s at_ p w).recs ≠ [] ∨ (offPoint s at_ p w).recs = w.recs ∧ w.r.state = .normal ∧ w.r.suppress = 0) := by
  unfold offPoint
  dsimp only
  split
  · exact ⟨rfl, rfl, rfl, rfl, .inl go_recs_ne_nil⟩
  · rename_i h
    simp only [Bool.or_eq_true, decide_eq_true_eq, not_or, ne_eq, Decidable.not_not] at h
    exact ⟨rfl, rfl, rfl, rfl, .inr ⟨rfl, h⟩⟩

theorem offPoint_sweeps (s : State) (at_ p : Nat) (w : PtWork) : TableSweep w (offPoint s at_ p w) := by
  obtain ⟨hstate, hsup, -, hseq, hrec | ⟨hrec, hw, hwsup⟩⟩ := offPoint_off s at_ p w
  · exact sweeps_of_normal hstate hseq hrec
  · exact (Acks.of_eq (hstate.trans hw.symm) (hsup.trans hwsup.symm) hseq hrec).sweeps

/-- What a sweep makes of a point that is frozen: what step 6 works on stays, whatever else it judges. -/
theorem sweepPoint_frozen {s : State} (at_ : Nat) {p : Nat} (cmds : List SweepCmd) (h : s.alarm.frozen.contains p = true) :
    (sweepPoint s at_ p cmds).1.r.alarm = (s.pt p).alarm ∧ (sweepPoint s at_ p cmds).1.recs = [] := by
  simp only [sweepPoint, h, if_true, Bool.true_and, decide_eq_true_eq]
  split
  · exact ⟨countShelf_alarm .., rfl⟩
  · split
    · exact ⟨rfl, rfl⟩
    · obtain ⟨r, hr, he⟩ := evalPoint_eq s at_ p true ⟨{ s.pt p with sweptAt := at_ }, []⟩
      rw [he, if_pos rfl]
      exact ⟨hr, rfl⟩

/-- What a sweep makes of a point that is not frozen: its commands, then its evaluation. -/
theorem sweepPoint_thawed {s : State} (at_ : Nat) {p : Nat} (cmds : List SweepCmd) (h : s.alarm.frozen.contains p = false) :
    ∃ w, Acks ⟨s.pt p, []⟩ w ∧ ((s.ptKind p = 0 → (sweepPoint s at_ p cmds).1 = offPoint s at_ p w) ∧
      (s.ptKind p ≠ 0 → Acks w (sweepPoint s at_ p cmds).1 ∨ (sweepPoint s at_ p cmds).1 = evalPoint s at_ p false w)) := by
  have h0 : Acks ⟨s.pt p, []⟩ ⟨{ s.pt p with sweptAt := at_ }, []⟩ := .of_eq rfl rfl rfl rfl
  have hcmds := h0.trans (applyPtCmds_acks s at_ p cmds _)
  by_cases hoff : s.ptKind p = 0
  · refine ⟨_, hcmds.trans (.of_alarm (r := PtRun.countShelf at_ (decide (s.nd.mode = .hold)) _) (countShelf_alarm ..)),
      fun _ => ?_, fun hne => absurd hoff hne⟩
    simp only [sweepPoint, h, hoff, Bool.false_eq_true, if_false, Bool.false_and, decide_true, if_true]
  · refine ⟨_, hcmds, fun hk => absurd hk hoff, fun _ => ?_⟩
    simp only [sweepPoint, h, hoff, Bool.false_eq_true, if_false, decide_false, Bool.and_false]
    split
    · exact .inl (.of_eq rfl rfl rfl rfl)
    · exact .inr rfl

theorem sweepPoint_sweeps (s : State) (at_ p : Nat) (cmds : List SweepCmd) :
    TableSweep ⟨s.pt p, []⟩ (sweepPoint s at_ p cmds).1 := by
  cases h : s.alarm.frozen.contains p with
  | true =>
    obtain ⟨halarm, hrecs⟩ := sweepPoint_frozen at_ cmds h
    simp only [PtRun.alarm, Prod.mk.injEq] at halarm
    obtain ⟨hstate, hsup, hseq⟩ := halarm
    exact (Acks.of_eq hstate hsup hseq hrecs).sweeps
  | false =>
    obtain ⟨w, hw, hoff, hon⟩ := sweepPoint_thawed at_ cmds h
    by_cases hk : s.ptKind p = 0
    · rw [hoff hk]
      exact hw.trans_sweeps (offPoint_sweeps ..)
    · obtain hheld | heval := hon hk
      · exact hw.trans_sweeps hheld.sweeps
      · rw [heval]
        exact hw.trans_sweeps (evalPoint_sweeps ..)

end Sys2Proof.Machine

open Sys2Proof Sys2Proof.Machine

/-- Settles O49: each step of a sweep is an acknowledgement, a change of suppression or a transition that ACTIVE calls for. -/
theorem pointsChangeByTheirTable : Obligations.PointsChangeByTheirTable := by
  intro s at_ p cmds hsup r w
  have hw := sweepPoint_sweeps s at_ p cmds
  refine ⟨hw.normal, hw.actAck, hw.rtnUnack, hw.raiseSeq, hw.suppressed hsup, fun hoff hthawed => ?off, fun hfrozen => ?frozen,
    fun hchange hnone => ?recorded⟩
  case off =>
    obtain ⟨x, -, hx, -⟩ := sweepPoint_thawed at_ cmds hthawed
    obtain ⟨hstate, hsuppress, hactive, -⟩ := offPoint_off s at_ p x
    rw [← hx hoff] at hstate hsuppress hactive
    exact ⟨hstate, hsuppress, hactive⟩
  case frozen =>
    have hf := (sweepPoint_frozen at_ cmds hfrozen).1
    simp only [PtRun.alarm, Prod.mk.injEq] at hf
    obtain ⟨hstate, hsuppress, -⟩ := hf
    exact ⟨hstate, hsuppress⟩
  case recorded =>
    obtain ⟨-, hstate, hsuppress⟩ := hw.silent hnone
    exact hchange.elim (fun h => h hstate) (fun h => h hsuppress)
end

section
/-! The compute phase of a safety lane (Table 9.2, R292 to R297). -/

namespace Sys2Proof.Machine

theorem lane_of_rest {a b : State} (h : a.rest = b.rest) (l : Nat) : a.lane l = b.lane l :=
  (congrArg (fun s : State => s.lane l) h :)

theorem laneRecord_rest (l : Nat) (old : LaneRun) (s : State) : (laneRecord l old s).rest = s.rest := by
  unfold laneRecord
  dsimp only
  split
  · rfl
  · exact submit_rest ..

theorem setLane_rest (l : Nat) (f : LaneRun → LaneRun) (s : State) : (setLane l f s).rest = (s.modLane l f).rest :=
  laneRecord_rest ..

@[simp] theorem setLane_lane (l : Nat) (f : LaneRun → LaneRun) (s : State) : (setLane l f s).lane l = f (s.lane l) :=
  (lane_of_rest (setLane_rest l f s) l).trans (State.modLane_same ..)

@[simp] theorem setLane_nd (l : Nat) (f : LaneRun → LaneRun) (s : State) : (setLane l f s).nd = s.nd :=
  (nd_of_rest (setLane_rest l f s)).trans rfl

theorem setDio_lane (n l : Nat) (f : DioRun → DioRun) (s : State) : (setDio n f s).lane l = s.lane l := by
  unfold setDio
  dsimp only
  split
  · rfl
  · exact (lane_of_rest (chanEvent_rest ..) l).trans rfl

theorem setDio_nd (n : Nat) (f : DioRun → DioRun) (s : State) : (setDio n f s).nd = s.nd := by
  unfold setDio
  dsimp only
  split
  · rfl
  · exact (nd_of_rest (chanEvent_rest ..)).trans rfl

theorem laneArmed_state (l : Nat) (s : State) : ((laneArmed l s).lane l).state = .armed := by
  simp [laneArmed]

/-- An arming check arms the lane, or leaves its state as it is (R301). -/
theorem armLane_state (l : Nat) (arms : List ArmReading) (s : State) :
    ((armLane l arms s).2.lane l).state = .armed ∨ ((armLane l arms s).2.lane l).state = (s.lane l).state := by
  unfold armLane
  split
  · refine .inr ?_
    rw [setLane_lane]
    unfold LaneRun.armFlag
    split <;> rfl
  · exact .inl (laneArmed_state l s)

/-! Degradation and discrepancy leave the lane's state and its legs' demand alone. -/

@[simp] theorem LegRun.degrade_demand (alone : Bool) (node : Micros) (g : LegRun) : (g.degrade alone node).demand = g.demand := by
  unfold LegRun.degrade
  dsimp only
  (repeat' split) <;> rfl

@[simp] theorem LegRun.degrade_fault (alone : Bool) (node : Micros) (g : LegRun) : (g.degrade alone node).fault = g.fault := by
  unfold LegRun.degrade
  dsimp only
  (repeat' split) <;> rfl

/-- What the transitions of a lane go by. -/
def LaneRun.judged (r : LaneRun) : LaneState × Bool × Bool × Bool := (r.state, r.legA.trips, r.legB.trips, r.legsClear)

theorem LaneRun.degrade_judged (action : Bool) (node : Micros) (r : LaneRun) : (r.degrade action node).judged = r.judged := by
  simp [LaneRun.judged, LaneRun.degrade, LegRun.trips, LaneRun.legsClear]

theorem LaneRun.disc_judged (apart : Option Bool) (time : Nat) (node : Micros) (r : LaneRun) :
    (r.disc apart time node).judged = r.judged := by
  unfold LaneRun.disc
  split <;> rfl

/-- The state in which the trips of a phase are judged: legs evaluated, degradation and discrepancy noted. -/
theorem laneCompute_eq {l : Nat} (arms : List ArmReading) {s : State} (h : (s.lane l).state ≠ .off) :
    ∃ x : State, x.nd = s.nd ∧ (x.lane l).judged = (evalLegs l s (s.lane l)).judged ∧
      laneCompute l arms s =
        if ((tripStep l x).lane l).state = (s.lane l).state then laneMoves l arms (tripStep l x) else tripStep l x := by
  unfold laneCompute
  rw [if_neg h]
  extract_lets s1 was s2 s3
  refine ⟨s2, ?_, ?_, ?_⟩
  · simp [s2, s1, discStep]
  · simp only [s2, s1, discStep, setLane_lane, LaneRun.disc_judged, LaneRun.degrade_judged]
  · have hwas : was = (s.lane l).state := by simp [was, s1, evalLegs]
    rw [hwas]

/-- A trip that R294 finds trips the lane; without one nothing changes. -/
theorem tripStep_cases (l : Nat) (s : State) :
    ((s.lane l).state = .armed ∧ ((tripStep l s).lane l).state = .tripped) ∨
    ((s.lane l).cause (s.laneFlag l 2) (s.degradeLimit l) s.node = none ∧ tripStep l s = s) := by
  unfold tripStep
  split
  · rename_i h
    exact .inr ⟨h, rfl⟩
  · rename_i c h
    have harmed : (s.lane l).state = .armed := Decidable.byContradiction fun hne => by
      rw [LaneRun.cause, if_pos hne] at h
      cases h
    refine .inl ⟨harmed, ?_⟩
    simp [LaneRun.tripped, harmed]

/-- An armed lane without a cause to trip has no leg in demand. -/
theorem LaneRun.no_trips_of_cause_none {action : Bool} {limit : Nat} {node : Micros} {r : LaneRun} (ha : r.state = .armed)
    (h : r.cause action limit node = none) : r.legA.trips = false ∧ r.legB.trips = false := by
  cases hA : r.legA.trips
  · cases hB : r.legB.trips
    · exact ⟨rfl, rfl⟩
    · simp [LaneRun.cause, ha, hA, hB] at h
  · simp [LaneRun.cause, ha, hA] at h

/-- The transitions of Table 9.2 that need no command, by the state they find. -/
theorem laneMoves_cases (l : Nat) (arms : List ArmReading) (s : State) :
    ((laneMoves l arms s).lane l).state = (s.lane l).state ∨
    ((s.lane l).state ≠ .off ∧ ((laneMoves l arms s).lane l).state = .ready) ∨
    ((s.lane l).state = .ready ∧ s.nd.mode = .duty ∧ (s.lane l).legsClear = true ∧ ((laneMoves l arms s).lane l).state = .armed) := by
  unfold laneMoves
  dsimp only
  split
  case h_1 h | h_2 h =>
    split
    · exact .inr (.inl ⟨by simp [h], by simp⟩)
    · exact .inl rfl
  case h_3 h =>
    split
    · exact .inr (.inl ⟨by simp [h], by simp⟩)
    · exact .inl rfl
  case h_4 h =>
    split
    · rename_i hguard
      simp only [Bool.and_eq_true, decide_eq_true_eq] at hguard
      obtain harm | hsame := armLane_state l arms s
      · exact .inr (.inr ⟨h, hguard.1.1.2, hguard.1.2, harm⟩)
      · exact .inl hsame
    · exact .inl rfl
  case h_5 => exact .inl rfl

/-- What the compute phase does to a lane in use. -/
theorem laneCompute_cases {l : Nat} (arms : List ArmReading) {s : State} (h : (s.lane l).state ≠ .off) :
    let e := evalLegs l s (s.lane l)
    let new := ((laneCompute l arms s).lane l).state
    ((s.lane l).state = .armed ∧ new = .tripped) ∨
    (((s.lane l).state = .armed → e.legA.trips = false ∧ e.legB.trips = false) ∧
      (new = (s.lane l).state ∨ new = .ready ∨
        (s.lane l).state = .ready ∧ s.nd.mode = .duty ∧ e.legsClear = true ∧ new = .armed)) := by
  intro e new
  obtain ⟨x, hnd, hjudged, he⟩ := laneCompute_eq arms h
  simp only [LaneRun.judged, Prod.mk.injEq] at hjudged
  obtain ⟨hstate, hA, hB, hclear⟩ := hjudged
  have hold : (x.lane l).state = (s.lane l).state := hstate.trans rfl
  obtain ⟨harmed, htrip⟩ | ⟨hcause, hsame⟩ := tripStep_cases l x
  · have holdArmed : (s.lane l).state = .armed := hold ▸ harmed
    rw [htrip, holdArmed, if_neg (by decide)] at he
    exact .inl ⟨holdArmed, (congrArg (fun y : State => (y.lane l).state) he).trans htrip⟩
  · rw [hsame, if_pos hold] at he
    have hnew : new = ((laneMoves l arms x).lane l).state := congrArg (fun y : State => (y.lane l).state) he
    refine .inr ⟨fun ha => ?_, ?_⟩
    · rw [← hA, ← hB]
      exact LaneRun.no_trips_of_cause_none (hold.trans ha) hcause
    · obtain hm | ⟨-, hm⟩ | ⟨hr, hduty, hc, hm⟩ := laneMoves_cases l arms x
      · exact .inl (hnew.trans (hm.trans hold))
      · exact .inr (.inl (hnew.trans hm))
      · exact .inr (.inr ⟨hold ▸ hr, hnd ▸ hduty, hclear ▸ hc, hnew.trans hm⟩)

end Sys2Proof.Machine

open Sys2Proof Sys2Proof.Machine

/-- Settles O50: a lane in use trips, stays, becomes READY or arms from READY; one that is OFF is left alone. -/
theorem lanesChangeByTheirTable : Obligations.LanesChangeByTheirTable := by
  intro l arms s e old new
  by_cases hoff : old = .off
  · have hnew : new = .off := by
      have : laneCompute l arms s = s := if_pos hoff
      exact (congrArg (fun y : State => (y.lane l).state) this).trans hoff
    simp [hoff, hnew]
  · obtain ⟨harmed, hnew⟩ | ⟨hclear, hnew | hnew | ⟨hready, hduty, hlegs, hnew⟩⟩ := laneCompute_cases arms hoff
    · change old = .armed at harmed
      change new = .tripped at hnew
      simp [harmed, hnew]
    · change new = old at hnew
      have htrips : old = .armed → e.legA.trips = false ∧ e.legB.trips = false := hclear
      refine ⟨fun ha ht => ?_, fun ha => .inl ?_, fun ht => .inr (hnew ▸ ht), fun hu => hnew ▸ hu, by rw [hnew]⟩
      · obtain ⟨hA, hB⟩ := htrips ha
        simp [hA, hB] at ht
      · exact ⟨hnew ▸ ha, htrips (hnew ▸ ha)⟩
    · change new = .ready at hnew
      have htrips : old = .armed → e.legA.trips = false ∧ e.legB.trips = false := hclear
      refine ⟨fun ha ht => ?_, by simp [hnew], by simp [hnew], by simp [hnew], by simp [hnew, hoff]⟩
      obtain ⟨hA, hB⟩ := htrips ha
      simp [hA, hB] at ht
    · change new = .armed at hnew
      change old = .ready at hready
      simp [hnew, hready, hduty, show e.legsClear = true from hlegs]
end

section
/-! A frame that is not taken (R410, R412, R427, R430): the guard and the forwarder touch ports, counts and records alone. -/

namespace Sys2Proof.Machine

/-- What a frame that is not taken leaves as it is. -/
def State.untaken (s : State) : Tbl RemoteSlot × Tbl RemoteSlot × ClockSt × Mode × HostSt :=
  (s.ponor.work, s.ponor.slots, s.clk, s.nd.mode, s.host)

theorem submit_untaken (p : GrnPort) (c : Nat) (pl : List Byte) (s : State) : (submit p c pl s).untaken = s.untaken := by
  have hr : ((submit p c pl s).ponor.work, (submit p c pl s).ponor.slots, (submit p c pl s).clk, (submit p c pl s).nd.mode) =
      (s.ponor.work, s.ponor.slots, s.clk, s.nd.mode) :=
    (congrArg (fun s : State => (s.ponor.work, s.ponor.slots, s.clk, s.nd.mode)) (submit_rest p c pl s) :)
  have hh : (submit p c pl s).host = s.host := submitAt_host ..
  simp only [Prod.mk.injEq] at hr
  simp [State.untaken, hr, hh]

theorem portRecord_untaken (p : Nat) (old st : PortState) (s : State) : (portRecord p old st s).untaken = s.untaken := by
  unfold portRecord
  split
  · rfl
  · exact submit_untaken ..

theorem tripPort_untaken (p : Nat) (s : State) : (tripPort p s).untaken = s.untaken := by
  unfold tripPort
  split
  · rfl
  · exact (submit_untaken ..).trans (portRecord_untaken ..)

theorem police_untaken (p : Nat) (f : Frame) (s : State) : (police p f s).untaken = s.untaken := by
  unfold police
  extract_lets s1
  have h : s1.untaken = s.untaken := by unfold s1; split <;> rfl
  split
  · exact (tripPort_untaken p s1).trans h
  · exact h

theorem forward_untaken (kind p : Nat) (f : Frame) (s : State) : (forward kind p f s).untaken = s.untaken := by
  unfold forward
  split
  · rfl
  · by_cases h : kind = 1
    · simp only [if_pos h]; rfl
    · simp only [if_neg h]; rfl

/-- A frame with a bad FCS or of another ring is not taken, whatever the port does with it. -/
theorem receive_of_strange {p : Nat} {f : Frame} {s : State} (kind : Nat) (h : f.good = false ∨ f.ringId ≠ s.ringId (p / 2)) :
    ∃ u, receive kind p f s = (false, u) ∧ u.untaken = s.untaken := by
  unfold receive
  split
  · exact ⟨s, rfl, rfl⟩
  split
  · exact ⟨_, rfl, (police_untaken ..).trans rfl⟩
  · dsimp only
    by_cases hg : f.good
    · have hid : f.ringId ≠ s.ringId (p / 2) := h.resolve_left (by simp [hg])
      rw [if_neg (by simp [hg]), if_pos (by simp [hid])]
      exact ⟨_, rfl, police_untaken ..⟩
    · rw [if_pos (by simp [hg])]
      exact ⟨_, rfl, (forward_untaken ..).trans ((rfl : _ = (police p f s).untaken).trans (police_untaken ..))⟩

end Sys2Proof.Machine

open Sys2Proof Sys2Proof.Machine

/-- Settles O56: each frame row ends at once where the port does not take the frame. -/
theorem framesThatDoNotBelongAreNotTaken : Obligations.FramesThatDoNotBelongAreNotTaken := by
  intro t ns p f s i hi hbad
  have hu : ∃ u, exec i s = .next u ∧ u.untaken = (s.begin t).untaken := by
    obtain rfl | rfl | rfl | rfl | rfl := hi
    · obtain ⟨u, hr, hu⟩ := receive_of_strange 1 hbad
      exact ⟨u, show execSyncFrame t ns p f s = _ by simp [execSyncFrame, hr], hu⟩
    · obtain ⟨u, hr, hu⟩ := receive_of_strange 3 hbad
      exact ⟨u, show execDataFrame t p f s = _ by simp [execDataFrame, hr], hu⟩
    · obtain ⟨u, hr, hu⟩ := receive_of_strange 4 hbad
      exact ⟨u, show execPollFrame t p f s = _ by simp [execPollFrame, hr], hu⟩
    · obtain ⟨u, hr, hu⟩ := receive_of_strange 5 hbad
      exact ⟨u, show execNilFrame t p f s = _ by simp [execNilFrame, hr], hu⟩
    · obtain ⟨u, hr, hu⟩ := receive_of_strange 6 hbad
      exact ⟨u, show execAcycFrame t p f s = _ by simp [execAcycFrame, hr], hu⟩
  obtain ⟨u, hexec, hu⟩ := hu
  simp only [State.untaken, Prod.mk.injEq] at hu
  obtain ⟨hwork, hslots, hclk, hmode, hhost⟩ := hu
  exact ⟨u, hexec, hwork, hslots, hclk, hmode, by rw [hhost], by rw [hhost]⟩
end

section
/-! What a COLD reset keeps and loses (Table 3.12, R109). -/

namespace Sys2Proof.Machine

/-- A state without what recording, tracing and the system alarms touch. -/
def State.calm (s : State) : State :=
  { s with out := [], free := 0, trace := TraceSt.initial, grn := { s.grn with ports := [], owed := [] },
           bell := BellSt.initial, nd := { s.nd with regService := ⟨0, 0⟩ } }

theorem calm_of_rest {a b : State} (h : a.rest = b.rest) (hh : a.host = b.host) : a.calm = b.calm := by
  have he : ({ a.rest with host := a.host } : State).calm = ({ b.rest with host := b.host } : State).calm := by rw [h, hh]
  exact he

theorem submitAt_calm (p : GrnPort) (c : Nat) (t : Micros) (pl : List Byte) (s : State) : (submitAt p c t pl s).calm = s.calm :=
  calm_of_rest (submitAt_rest ..) (submitAt_host ..)

theorem submit_calm (p : GrnPort) (c : Nat) (pl : List Byte) (s : State) : (submit p c pl s).calm = s.calm := submitAt_calm ..

theorem traceRec_calm (kind : Nat) (pl : List Byte) (s : State) : (traceRec kind pl s).calm = s.calm :=
  calm_of_rest (traceRec_rest ..) (traceRec_host ..)

theorem modBell_calm (f : BellSt → BellSt) (s : State) : (s.modBell f).calm = s.calm := rfl

theorem flipService_calm (s : State) : (flipService s).calm = s.calm := (traceRec_calm ..).trans rfl

theorem sysTo_calm (k : Nat) (st : AlState) (o : Nat) (s : State) : (sysTo k st o s).calm = s.calm :=
  (submit_calm ..).trans (modBell_calm ..)

theorem sysFollow_calm (k : Nat) (s : State) : (sysFollow k s).calm = s.calm := by
  unfold sysFollow
  extract_lets st c call
  split
  · exact (sysTo_calm ..).trans (modBell_calm ..)
  · split
    · exact sysTo_calm ..
    · rfl

theorem sysFollowAll_calm (s : State) : (sysFollowAll s).calm = s.calm := by
  unfold sysFollowAll
  split
  · exact foldl_keeps State.calm (fun s k => sysFollow_calm k s) _ _
  · rfl

theorem sendChange_calm (old s : State) : (sendChange old s).calm = s.calm := by
  unfold sendChange sendBell
  (repeat' split) <;> rfl

theorem sysUpdate_calm (s : State) : (sysUpdate s).calm = s.calm := by
  have h : (sendChange s (sysFollowAll s)).calm = s.calm := (sendChange_calm ..).trans (sysFollowAll_calm s)
  unfold sysUpdate
  dsimp only
  split
  · exact h
  · exact (flipService_calm _).trans h

/-- A change of mode leaves all but the mode, the start of the run and what recording touches. -/
theorem setMode_calm (m : Mode) (cause : Nat) (s : State) :
    ∃ from_, (setMode m cause s).calm = (s.modNd fun d => { d with mode := m, runFrom := from_ }).calm := by
  unfold setMode
  split
  next h => exact ⟨s.nd.runFrom, by subst h; rfl⟩
  · refine ⟨if s.nd.mode = .boot then s.node else s.nd.runFrom, (sysUpdate_calm _).trans ((traceRec_calm ..).trans ?_)⟩
    have h := submit_calm .management 0x012 (le 1 s.nd.mode.code ++ le 1 m.code ++ le 2 0) s
    generalize submit .management 0x012 (le 1 s.nd.mode.code ++ le 1 m.code ++ le 2 0) s = x at h
    exact (congrArg (fun y : State => (y.modNd fun d =>
      { d with mode := m, runFrom := if y.nd.mode = .boot then s.node else y.nd.runFrom }).calm) h :)

theorem setMode_mode (m : Mode) (cause : Nat) (s : State) : (setMode m cause s).nd.mode = m := by
  obtain ⟨from_, h⟩ := setMode_calm m cause s
  exact (congrArg (fun x : State => x.nd.mode) h :)

/-- What the boot after a COLD reset leaves as `loseAll` left it. -/
def State.kept (s : State) :=
  (s.cfg.bank0, s.cfg.bank1, s.cal, s.cfg.staged, s.cfg.stageOwner, s.cfg.commit, s.grn.sectors, s.grn.freeze, s.grn.staged,
    s.clk.user, s.toll.log, s.alarm.pts, s.host)

/-- The same with the mode. -/
def State.stays (s : State) := (s.nd.mode, s.kept)

theorem stays_of_calm {a b : State} (h : a.calm = b.calm) : a.stays = b.stays := (congrArg State.stays h :)

theorem submitAt_stays (p : GrnPort) (c : Nat) (t : Micros) (pl : List Byte) (s : State) :
    (submitAt p c t pl s).stays = s.stays :=
  stays_of_calm (submitAt_calm ..)

theorem submit_stays (p : GrnPort) (c : Nat) (pl : List Byte) (s : State) : (submit p c pl s).stays = s.stays :=
  submitAt_stays ..

theorem sysUpdate_stays (s : State) : (sysUpdate s).stays = s.stays := stays_of_calm (sysUpdate_calm s)

theorem setMode_kept (m : Mode) (cause : Nat) (s : State) : (setMode m cause s).kept = s.kept := by
  obtain ⟨from_, h⟩ := setMode_calm m cause s
  exact (congrArg State.kept h :)

theorem enterBoot_stays {s : State} (h : s.nd.mode = .boot) : (enterBoot s).stays = s.stays := by
  have hm : (enterBoot s).nd.mode = s.nd.mode := (setMode_mode ..).trans h.symm
  have hk : (enterBoot s).kept = s.kept := (setMode_kept ..).trans rfl
  simp only [State.stays, hm, hk]

theorem payOwed_stays (s : State) : (payOwed s).stays = s.stays :=
  (foldl_keeps State.stays (fun s (x : Nat × Submission) => submitAt_stays (GrnPort.ofCode x.1) x.2.code x.2.time x.2.payload s) _ _).trans
    rfl

theorem checkLive_stays (s : State) : (checkLive s).stays = s.stays := rfl

theorem bootChecks_stays (s : State) : (bootChecks s).stays = s.stays := by
  refine foldl_keeps State.stays (fun s b => ?_) _ _
  split
  · exact submit_stays ..
  · rfl

theorem calBoot_stays (s : State) : (calBoot s).stays = s.stays := by
  unfold calBoot
  split
  · exact submit_stays ..
  next c hc =>
    split
    · rfl
    · refine (submit_stays ..).trans ?_
      simp only [State.stays, State.kept, hc]
      simp [State.cal]

theorem setLane_stays (l : Nat) (f : LaneRun → LaneRun) (s : State) : (setLane l f s).stays = s.stays := by
  unfold setLane laneRecord
  dsimp only
  split
  · rfl
  · exact (submit_stays ..).trans rfl

theorem bayFollow_stays (b : Nat) (s : State) : (bayFollow b s).stays = s.stays := by
  unfold bayFollow
  dsimp only
  (repeat' split) <;> rfl

theorem rebuildTrends_stays (s : State) : (rebuildTrends s).stays = s.stays := by
  refine foldl_keeps State.stays (fun s r => ?_) _ _
  dsimp only [State.modSup]
  rfl

theorem trustStep_stays (cause : Nat) (s : State) : (trustStep cause s).stays = s.stays := by
  unfold trustStep
  dsimp only
  split
  · rfl
  · exact (sysUpdate_stays _).trans (submit_stays ..)

theorem bootLoad_stays (s : State) : (bootLoad s).stays = s.stays := by
  unfold bootLoad
  extract_lets s1 c _ s2 s3 s4
  have h1 : s1.stays = s.stays := (bootChecks_stays _).trans ((calBoot_stays _).trans (checkLive_stays s))
  have h3 : s3.stays = s2.stays := foldl_keeps State.stays (fun s l => setLane_stays l _ s) _ _
  have h4 : s4.stays = s3.stays := by
    unfold s4
    split
    · rfl
    · refine (foldl_keeps State.stays (fun s b => bayFollow_stays b s) _ _).trans (foldl_keeps State.stays (fun s n => ?_) _ _)
      split <;> rfl
  exact (trustStep_stays ..).trans ((rebuildTrends_stays _).trans (h4.trans (h3.trans h1)))

theorem ringLoad_stays (s : State) : (ringLoad s).stays = s.stays := rfl

theorem modNd_stays (f : NodeSt → NodeSt) (h : ∀ d, (f d).mode = d.mode) (s : State) : (s.modNd f).stays = s.stays := by
  simp only [State.stays, State.modNd, h]
  rfl

theorem countReset_stays (src : Nat) (kind : ResetKind) (s : State) : (countReset src kind s).stays = s.stays := by
  unfold countReset State.modPower
  rw [modNd_stays, modNd_stays]
  · intro d
    generalize BitVec.ofNat 32 _ = c
    rfl
  · intro _
    rfl

theorem resetRecord_stays (s : State) : (resetRecord s).stays = s.stays := submit_stays ..

theorem dipRecord_stays (exit_ : Nat) (s : State) : (dipRecord exit_ s).stays = s.stays := by
  unfold dipRecord
  split
  · rfl
  · exact (submit_stays ..).trans rfl

theorem closeDip_stays (exit_ : Nat) (s : State) : (closeDip exit_ s).stays = s.stays := by
  unfold closeDip
  split
  · rfl
  · exact dipRecord_stays ..

theorem bootEntry_stays {s : State} (h : s.nd.mode = .boot) : (bootEntry s).stays = s.stays := by
  have hp : (payOwed (s.modNd fun d => { d with hasRun := true })).stays = s.stays := (payOwed_stays _).trans rfl
  exact (bootLoad_stays _).trans ((enterBoot_stays ((congrArg Prod.fst hp :).trans h)).trans hp)

/-- The boot of a COLD reset keeps what Table 3.12 left. -/
theorem coldReset_stays (src : Nat) (kind : ResetKind) (s : State) : (coldReset src kind s).stays = (loseAll s).stays := by
  unfold coldReset
  generalize hl : loseAll s = x
  have hm : x.nd.mode = .boot := hl ▸ rfl
  clear hl
  extract_lets s1 s2
  have h1 : s1.stays = x.stays := (countReset_stays src kind _).trans rfl
  have h2 : s2.stays = x.stays :=
    (closeDip_stays ..).trans ((resetRecord_stays _).trans ((ringLoad_stays s1).trans h1))
  split
  · exact h2
  · exact (bootEntry_stays ((congrArg Prod.fst h2 :).trans hm)).trans h2

/-- What the outputs' generators leave alone as the bay engines stop. -/
theorem stopPulses_kept (s : State) : (stopPulses s).kept = s.kept := by
  refine foldl_keeps State.kept (fun s n => ?_) _ _
  split
  · unfold stopPulse
    dsimp only
    split <;> rfl
  · rfl

theorem coldReset_pt (src : Nat) (kind : ResetKind) (s : State) (p : Nat) : (coldReset src kind s).pt p = (s.pt p).cold := by
  have hpts : (coldReset src kind s).alarm.pts = (loseAll s).alarm.pts :=
    (congrArg (fun x : Mode × _ => x.2.2.2.2.2.2.2.2.2.2.2.2.1) (coldReset_stays src kind s) :)
  have hs : (stopPulses s).alarm.pts = s.alarm.pts :=
    (congrArg (fun x => x.2.2.2.2.2.2.2.2.2.2.2.1) (stopPulses_kept s) :)
  calc (coldReset src kind s).pt p
      = tget PtRun.initial (tmap PtRun.initial (fun _ r => r.cold) (stopPulses s).alarm.pts) p := congrArg (tget _ · p) hpts
    _ = (s.pt p).cold := by rw [hs, tget_tmap _ _ (fun _ => rfl)]; rfl

end Sys2Proof.Machine

open Sys2Proof Sys2Proof.Machine

/-- Settles O57: the boot keeps what `loseAll` left, and that is Table 3.12. -/
theorem coldResetKeepsAndLoses : Obligations.ColdResetKeepsAndLoses := by
  intro t s hon
  refine ⟨coldReset 8 .cold (s.begin t), if_pos hon, ?_⟩
  have h := coldReset_stays 8 .cold (s.begin t)
  have hk := stopPulses_kept (s.begin t)
  simp only [State.stays, State.kept, Prod.mk.injEq] at h hk
  obtain ⟨hmode, hb0, hb1, hcal, hstaged, howner, hcommit, hsec, hfreeze, hgst, huser, hlog, -, hhost⟩ := h
  obtain ⟨kb0, kb1, kcal, -, -, -, ksec, -, -, kuser, klog, -, -⟩ := hk
  refine ⟨hmode, hb0.trans kb0, hb1.trans kb1, hcal.trans kcal, hsec.trans ksec, huser.trans kuser,
    (hlog.trans klog) ▸ List.prefix_rfl, fun k => ?_, hstaged, howner, hcommit, hfreeze, hgst, fun p => ?_⟩
  · exact congrArg (fun x : HostSt => (tget Session.closed x.sessions k).state) hhost
  · rw [coldReset_pt]
    exact ⟨rfl, rfl, rfl, rfl⟩
end

section
/-! SLUICE_SHUT_IN asserted (R438, R439, R441): the line is released, the claim latches clear, and the unit leaves duty. -/

namespace Sys2Proof.Machine

/-- The sluice lines and the bays with their claim latches. -/
def State.sluice (s : State) : Bool × Bool × Tbl BayRun := (s.pair.shutIn, s.pair.own, s.field.bay)

theorem sluice_of_calm {a b : State} (h : a.calm = b.calm) : a.sluice = b.sluice := (congrArg State.sluice h :)

theorem sluice_of_rest {a b : State} (h : a.rest = b.rest) : a.sluice = b.sluice := (congrArg State.sluice h :)

theorem lines_of_sluice {a b : State} (h : a.sluice = b.sluice) :
    a.pair.shutIn = b.pair.shutIn ∧ a.pair.own = b.pair.own := by
  simp only [State.sluice, Prod.mk.injEq] at h
  exact ⟨h.1, h.2.1⟩

theorem bay_of_sluice {a b : State} (h : a.sluice = b.sluice) (k : Nat) : a.bay k = b.bay k :=
  (congrArg (fun x : Bool × Bool × Tbl BayRun => tget BayRun.initial x.2.2 k) h :)

theorem setPairFaults_sluice (w : Nat) (s : State) : (setPairFaults w s).sluice = s.sluice := by
  unfold setPairFaults
  extract_lets old s1
  split
  · rfl
  · exact (sluice_of_calm ((sysUpdate_calm _).trans (submit_calm ..))).trans rfl

theorem setPairFault_sluice (k : Nat) (b : Bool) (s : State) : (setPairFault k b s).sluice = s.sluice := setPairFaults_sluice ..

theorem setShutOut_sluice (b : Bool) (s : State) : (setShutOut b s).sluice = s.sluice := by
  unfold setShutOut
  split
  · rfl
  · exact (setPairFault_sluice ..).trans rfl

theorem releaseOwn_sluice (s : State) : (releaseOwn s).sluice = (s.pair.shutIn, false, s.field.bay) := by
  unfold releaseOwn
  dsimp only
  split
  · exact (setShutOut_sluice ..).trans rfl
  · rfl

theorem hartGuard_sluice (n : Nat) (s : State) : (hartGuard n s).sluice = s.sluice := by
  have h (r : Nat) : (abortHart n r s).sluice = s.sluice := by
    unfold abortHart
    split
    · rfl
    · dsimp only
      split
      case h_1 => exact (sluice_of_rest (reply_rest ..)).trans rfl
      all_goals rfl
  unfold hartGuard
  (repeat' split) <;> first | rfl | exact h _

theorem abandonCheck_sluice (n : Nat) (s : State) : (abandonCheck n s).sluice = s.sluice := by
  unfold abandonCheck
  split <;> rfl

theorem laneResult_sluice (l : Nat) (s : State) : (laneResult l s).sluice = s.sluice := by
  unfold laneResult
  dsimp only
  split <;> rfl

theorem laneBoundary_sluice (l : Nat) (s : State) : (laneBoundary l s).sluice = s.sluice := by
  unfold laneBoundary
  dsimp only
  split
  · split
    · rfl
    · exact laneResult_sluice ..
  · exact (laneResult_sluice ..).trans rfl

theorem gatesMoved_sluice (s : State) : (gatesMoved s).sluice = s.sluice := by
  refine (foldl_keeps State.sluice (fun s l => laneBoundary_sluice l s) _ _).trans ?_
  refine (foldl_keeps State.sluice (fun s n => ?_) _ _).trans
    (foldl_keeps State.sluice (fun s n => hartGuard_sluice n s) _ _)
  split
  · rfl
  · exact abandonCheck_sluice ..

/-- A bay whose claim latch is cleared. -/
def State.unclaim (s : State) (b : Nat) : State :=
  s.modBay b fun y => { y with claim := false, yieldedAt := if y.claim then some s.now else y.yieldedAt }

theorem unclaim_claim (s : State) (b c : Nat) : ((s.unclaim b).bay c).claim = (decide (c ≠ b) && (s.bay c).claim) := by
  unfold State.unclaim
  by_cases h : c = b
  · subst h
    rw [State.modBay_same]
    simp
  · rw [State.modBay_other s b c _ h]
    simp [h]

theorem foldl_unclaim_claim (l : List Nat) (s : State) (b : Nat) (h : b ∈ l ∨ (s.bay b).claim = false) :
    ((l.foldl State.unclaim s).bay b).claim = false := by
  induction l generalizing s with
  | nil => simpa using h
  | cons c l ih =>
    refine ih (s.unclaim c) ?_
    rw [unclaim_claim]
    by_cases hc : b = c
    · simp [hc]
    · exact h.imp (fun h => (List.mem_cons.1 h).resolve_left hc) (fun h => by simp [h])

theorem clearClaims_eq (s : State) : clearClaims s = gatesMoved ((List.range 16).foldl State.unclaim s) := rfl

theorem clearClaims_lines (s : State) :
    (clearClaims s).pair.shutIn = s.pair.shutIn ∧ (clearClaims s).pair.own = s.pair.own := by
  have h := lines_of_sluice (gatesMoved_sluice ((List.range 16).foldl State.unclaim s))
  have hp : ((List.range 16).foldl State.unclaim s).pair = s.pair :=
    foldl_keeps (f := State.unclaim) State.pair (fun _ _ => rfl) _ _
  rwa [hp, ← clearClaims_eq] at h

theorem clearClaims_claim (s : State) (b : Nat) (hb : b < 16) : ((clearClaims s).bay b).claim = false := by
  rw [clearClaims_eq, bay_of_sluice (gatesMoved_sluice _)]
  exact foldl_unclaim_claim _ s b (.inl (List.mem_range.2 hb))

theorem endBulk_sluice (e h : Nat) (s : State) : (endBulk e h s).sluice = s.sluice := by
  unfold endBulk
  split
  · rfl
  · exact (sluice_of_rest (submit_rest ..)).trans rfl

theorem endBulks_sluice (e : Nat) (p : Bulk → Bool) (s : State) : (endBulks e p s).sluice = s.sluice := by
  refine foldl_keeps State.sluice (fun s h => ?_) _ _
  split
  · split
    · exact endBulk_sluice ..
    · rfl
  · rfl

theorem abandonCommit_sluice (s : State) : (abandonCommit s).sluice = s.sluice := by
  unfold abandonCommit
  split
  · rfl
  · exact (rfl : _ = (configRecord ..).sluice).trans (sluice_of_rest (submit_rest ..))

theorem commitYields_sluice (s : State) : (commitYields s).sluice = s.sluice := by
  unfold commitYields
  dsimp only
  split
  · rfl
  · split
    · rfl
    · split
      · exact (abandonCommit_sluice _).trans rfl
      · rfl

theorem stepDown_sluice (mark : Bool) (s : State) : (stepDown mark s).sluice = s.sluice := by
  unfold stepDown
  split
  · rfl
  · extract_lets own s1 s2
    have h1 : s1.sluice = s.sluice := (rfl : _ = (commitYields _).sluice).trans ((commitYields_sluice _).trans (endBulks_sluice ..))
    have h2 : s2.sluice = s.sluice := by
      refine Eq.trans ?_ h1
      unfold s2
      split <;> rfl
    clear_value s2
    split
    · exact (rfl : _ = s2.sluice).trans h2
    · obtain ⟨from_, hm⟩ := setMode_calm .standby 0 s2
      exact (sluice_of_calm hm).trans ((rfl : _ = s2.sluice).trans h2)

/-- A unit that has stepped down is not on duty, whether in HOLD or out of it. -/
theorem stepDown_onDuty (mark : Bool) (s : State) : (stepDown mark s).onDuty = false := by
  unfold stepDown
  split
  next h => simpa using h
  · extract_lets own s1 s2
    clear_value s2
    split
    next h => simp [State.onDuty, State.baseMode, State.modNd, h]
    · simp [State.onDuty, State.baseMode, setMode_mode]

end Sys2Proof.Machine

open Sys2Proof Sys2Proof.Machine

/-- Settles O58: releasing the line and clearing the claims come first, and stepping down keeps both. -/
theorem shutInTakesTheField : Obligations.ShutInTakesTheField := by
  intro t s hbase hshut halive
  let s3 := setPairFault 10 true ((s.begin t).modPair fun p => { p with shutIn := true })
  let s4 := releaseOwn (s3.modPair fun p => { p with claimReq := false, claiming := none })
  refine ⟨stepDown true (clearClaims s4), ?_, ?_⟩
  · have ha : ((s.begin t).modPair fun p => { p with shutIn := true }).alive = true := halive
    change execSluiceShutIn t true s = _
    simp [execSluiceShutIn, hbase, hshut, ha, s4, s3]
  · have h3 : s3.pair.shutIn = true := (congrArg Prod.fst (setPairFault_sluice ..) :)
    have h4 : s4.sluice = (true, false, s4.field.bay) := by
      have h := releaseOwn_sluice (s3.modPair fun p => { p with claimReq := false, claiming := none })
      exact Prod.ext ((congrArg Prod.fst h :).trans h3) (Prod.ext (congrArg (·.2.1) h :) rfl)
    clear_value s4
    obtain ⟨hin, hown⟩ := clearClaims_lines s4
    have hs := stepDown_sluice true (clearClaims s4)
    have hclaim (b : Nat) (hb : b < 16) : ((stepDown true (clearClaims s4)).bay b).claim = false :=
      (congrArg BayRun.claim (bay_of_sluice hs b)).trans (clearClaims_claim s4 b hb)
    obtain ⟨hin', hown'⟩ := lines_of_sluice hs
    simp only [State.sluice, Prod.mk.injEq] at h4
    obtain ⟨h4in, h4own, -⟩ := h4
    refine ⟨hin'.trans (hin.trans h4in), hown'.trans (hown.trans h4own), stepDown_onDuty .., fun b hb => ⟨hclaim b hb, ?_⟩⟩
    simp [State.gate, hclaim b hb]
end

section
/-! A setup staged whole is the setup that the staged configuration returns (R165, R502, R504). -/

namespace Sys2Proof.Machine

/-! What a configuration holds after its changes. -/

theorem tfind_tput_same {α : Type} (p : Nat) (v : α) (t : Tbl α) : tfind (tput p v t) p = some v := by
  induction t with
  | nil => simp [tput, tfind]
  | cons e t ih =>
    obtain ⟨j, w⟩ := e
    simp only [tput]
    split
    · simp [tfind]
    · split
      · simp [tfind]
      next h => simp [tfind, Ne.symm h, ih]

theorem tfind_tput_ne {α : Type} {p q : Nat} (v : α) (t : Tbl α) (h : q ≠ p) : tfind (tput p v t) q = tfind t q := by
  induction t with
  | nil => simp [tput, tfind, h.symm]
  | cons e t ih =>
    obtain ⟨j, w⟩ := e
    simp only [tput]
    split
    · simp [tfind, h.symm]
    · split
      next hj => simp [tfind, ← hj, h.symm]
      · simp [tfind, ih]

theorem tfind_filter_same {α : Type} (p : Nat) (t : Tbl α) : tfind (t.filter (·.1 != p)) p = none := by
  induction t with
  | nil => rfl
  | cons e t ih =>
    by_cases h : e.1 = p
    · simpa [List.filter_cons, h] using ih
    · simpa [List.filter_cons, h, tfind] using ih

theorem tfind_filter_ne {α : Type} {p q : Nat} (t : Tbl α) (h : q ≠ p) : tfind (t.filter (·.1 != p)) q = tfind t q := by
  induction t with
  | nil => rfl
  | cons e t ih =>
    by_cases he : e.1 = p
    · have hq : p ≠ q := h.symm
      simpa [List.filter_cons, he, tfind, hq] using ih
    · simp [he, tfind, ih]

theorem tfind_applyChange_ne {q : Nat} (c : Cfg) (ch : Change) (h : q ≠ ch.1) : tfind (applyChange c ch) q = tfind c q := by
  unfold applyChange
  split
  · exact tfind_filter_ne c h
  · split
    · exact tfind_filter_ne c h
    · exact tfind_tput_ne _ c h

theorem tfind_applyChanges_ne {q : Nat} (chs : List Change) (c : Cfg) (h : ∀ ch ∈ chs, ch.1 ≠ q) :
    tfind (applyChanges c chs) q = tfind c q := by
  induction chs generalizing c with
  | nil => rfl
  | cons ch chs ih =>
    exact (ih _ fun x hx => h x (by simp [hx])).trans (tfind_applyChange_ne c ch (h ch (by simp)).symm)

/-- Only Table 7.3 makes a default depend on other parameters. -/
theorem pdefault_of_not_floating {p : Nat} (h : floatingDefault p = false) (c : Cfg) : pdefault c p = pdefault [] p := by
  unfold pdefault
  unfold floatingDefault at h
  split
  next n i hp =>
    have hi : ¬ (7 ≤ i ∧ i ≤ 15) := by simpa [hp] using h
    simp [hi]
  all_goals rfl

theorem normal_pid (ch : Change) : (normal ch).1 = ch.1 := by
  unfold normal
  (repeat' split) <;> rfl

/-- A change in the form that staging keeps gives its parameter its value, whatever other parameters change after it. -/
theorem cget_applyChanges_normal {p : Nat} (v : Nat) (l r : List Change) (c : Cfg) (hp : p ≠ Subj.pid .grp 0 1)
    (hr : ∀ ch ∈ r, ch.1 ≠ p) : cget (applyChanges c (l ++ normal (p, some v) :: r)) p = v := by
  have hfind : tfind (applyChanges c (l ++ normal (p, some v) :: r)) p =
      tfind (applyChange (applyChanges c l) (normal (p, some v))) p := by
    rw [applyChanges, List.foldl_append, List.foldl_cons]
    exact tfind_applyChanges_ne r _ hr
  rw [cget, hfind, normal, if_neg hp]
  generalize applyChanges c l = c'
  dsimp only
  by_cases hf : floatingDefault p = true
  · simp [hf, applyChange, tfind_tput_same]
  · have hf : floatingDefault p = false := by simpa using hf
    by_cases hv : v = pdefault [] p
    · simp [hf, hv, applyChange, tfind_filter_same, pdefault_of_not_floating hf]
    · simp [hf, hv, applyChange, tfind_tput_same, pdefault_of_not_floating hf]

/-! What staging holds of the changes laid over it. -/

/-- A change stands in a list, the last of its parameter. -/
def LastOf (st : List Change) (ch : Change) : Prop := ∃ l r, st = l ++ ch :: r ∧ ∀ x ∈ r, x.1 ≠ ch.1

theorem getD_of_lt {α : Type} {xs : List α} {i : Nat} {d : α} (h : i < xs.length) : xs.getD i d = xs[i] := by
  rw [List.getD, List.getElem?_eq_getElem h, Option.getD_some]

theorem getD_of_le {α : Type} {xs : List α} {i : Nat} {d : α} (h : xs.length ≤ i) : xs.getD i d = d := by
  rw [List.getD, List.getElem?_eq_none h, Option.getD_none]

theorem lastOf_stageOne_self (st : List Change) (ch : Change) : LastOf (stageOne st ch) ch :=
  ⟨st.filter (·.1 != ch.1), [], rfl, by simp⟩

theorem lastOf_stageOne {st : List Change} {a b : Change} (h : LastOf st a) (hab : a.1 ≠ b.1) : LastOf (stageOne st b) a := by
  obtain ⟨l, r, rfl, hr⟩ := h
  refine ⟨l.filter (·.1 != b.1), r.filter (·.1 != b.1) ++ [b], by simp [stageOne, hab], fun x hx => ?_⟩
  obtain hx | hx := List.mem_append.1 hx
  · exact hr x (List.mem_filter.1 hx |>.1)
  · exact List.mem_singleton.1 hx ▸ hab.symm

theorem lastOf_foldl {a : Change} (chs st : List Change) (h : LastOf st a) (hne : ∀ ch ∈ chs, a.1 ≠ ch.1) :
    LastOf (chs.foldl stageOne st) a := by
  induction chs generalizing st with
  | nil => exact h
  | cons ch chs ih => exact ih _ (lastOf_stageOne h (hne ch (by simp))) fun x hx => hne x (by simp [hx])

theorem lastOf_staged {a : Change} (chs st : List Change) (hnd : chs.Pairwise fun x y => x.1 ≠ y.1) (ha : a ∈ chs) :
    LastOf (chs.foldl stageOne st) a := by
  induction chs generalizing st with
  | nil => simp at ha
  | cons ch chs ih =>
    obtain ⟨hch, hnd⟩ := List.pairwise_cons.1 hnd
    obtain rfl | ha := List.mem_cons.1 ha
    · exact lastOf_foldl chs _ (lastOf_stageOne_self st a) hch
    · exact ih _ hnd ha

/-- What staging accepts is the changes, each in the form staging keeps, laid over those staged before. -/
theorem stageTry_ok {session : Nat} {recs st : List Change} {s : State} (h : stageTry session recs s = .ok st) :
    st = (recs.map normal).foldl stageOne s.cfg.staged := by
  have hown (h : stageTry.stageOwn recs s = .ok st) : st = (recs.map normal).foldl stageOne s.cfg.staged := by
    unfold stageTry.stageOwn at h
    split at h
    · simp at h
    · dsimp only at h
      split at h
      · simp at h
      · simp at h
      · split at h
        · simp at h
        · split at h
          · simp at h
          · exact (Except.ok.inj h).symm
  unfold stageTry at h
  split at h
  · split at h
    · simp at h
    · exact hown h
  · exact hown h

/-! The fields of a setup: their parameters and their places. -/

theorem Subj.pid_inj {j : Subj} {k a b : Nat} (h : j.pid k a = j.pid k b) : a = b := by
  cases j <;> simp only [Subj.pid] at h <;> omega

theorem Subj.indices_nodup (j : Subj) : (j.fields.map (·.index)).Nodup := by
  cases j <;> decide

/-- A field lies in its record, behind the object number. -/
theorem Subj.field_place (j : Subj) : ∀ f ∈ j.fields, j.keyLen ≤ f.off ∧ f.off + f.len ≤ j.size := by
  cases j <;> decide

theorem Subj.keyLen_le_size (j : Subj) : j.keyLen ≤ j.size := by
  cases j <;> decide

theorem Subj.index_lt (j : Subj) : ∀ f ∈ j.fields, f.index < 20 := by
  cases j <;> decide

/-- Only the root group's own ENABLE has the parameter of the root group's ENABLE. -/
theorem Subj.pid_ne_root {j : Subj} {k i : Nat} (hk : k < j.count) (hi : i < 20) (h : j = .grp → k ≠ 0) :
    j.pid k i ≠ Subj.pid .grp 0 1 := by
  cases j <;> simp only [Subj.pid, Subj.count] at hk ⊢ <;> try omega
  have := h rfl
  omega

theorem setupChanges_pairwise (j : Subj) (k : Nat) (pl : List Byte) :
    ((setupChanges j k pl).map normal).Pairwise fun x y => x.1 ≠ y.1 := by
  rw [List.pairwise_map, setupChanges, List.pairwise_map]
  refine (List.pairwise_map.1 j.indices_nodup).imp fun hab => ?_
  simp only [normal_pid]
  exact fun h => hab (Subj.pid_inj h)

/-- Each field reads back as the record has it. -/
theorem cfield_staged {j : Subj} {pl : List Byte} {k session : Nat} {st : List Change} {s : State} {f : PField}
    (hk : k < j.count) (hroot : j = .grp → k ≠ 0) (hst : stageTry session (setupChanges j k pl) s = .ok st) (hf : f ∈ j.fields) :
    cfield (stageSet session st s).stagedCfg j k f.index = fieldAt pl f.off f.len := by
  have hmem : normal (j.pid k f.index, some (fieldAt pl f.off f.len)) ∈ (setupChanges j k pl).map normal :=
    List.mem_map_of_mem (List.mem_map.2 ⟨f, hf, rfl⟩)
  obtain ⟨l, r, hl, hr⟩ := lastOf_staged _ s.cfg.staged (setupChanges_pairwise j k pl) hmem
  rw [normal_pid] at hr
  rw [← stageTry_ok hst] at hl
  have hcfg : (stageSet session st s).stagedCfg = applyChanges s.liveCfg st := rfl
  rw [cfield, hcfg, hl]
  exact cget_applyChanges_normal _ l r _ (Subj.pid_ne_root hk (j.index_lt f hf) hroot) hr

/-! Bytes laid over a record field by field. -/

theorem le_ofLe (bs : List Byte) : le bs.length (ofLe bs) = bs := by
  induction bs with
  | nil => rfl
  | cons b bs ih =>
    have hb : b.toNat < 256 := b.isLt
    have hd : (b.toNat + 256 * ofLe bs) / 256 = ofLe bs := by omega
    have hm : BitVec.ofNat 8 (b.toNat + 256 * ofLe bs) = b := BitVec.eq_of_toNat_eq (by simp; omega)
    rw [ofLe, List.length_cons, le, hd, hm, ih]

theorem le_fieldAt {bs : List Byte} {off len : Nat} (h : off + len ≤ bs.length) : le len (fieldAt bs off len) = slice bs off len := by
  have hlen : (slice bs off len).length = len := by simp [slice]; omega
  have h := le_ofLe (slice bs off len)
  rwa [hlen] at h

theorem getD_slice (bs : List Byte) {off len i : Nat} (h : i < len) : (slice bs off len).getD i 0 = bs.getD (off + i) 0 := by
  simp [slice, List.getD, h]

/-- A byte lies in a field. -/
def PField.Covers (f : PField) (i : Nat) : Prop := f.off ≤ i ∧ i < f.off + f.len

/-- Records of `n` bytes with fields laid over them: a byte of a field is the one all fields give it, and another as before. -/
theorem foldl_overlay (fs : List PField) (g : PField → List Byte) (t : Nat → Byte) (n : Nat)
    (hg : ∀ f ∈ fs, (g f).length = f.len ∧ f.off + f.len ≤ n ∧ ∀ i, f.Covers i → (g f).getD (i - f.off) 0 = t i)
    (bs : List Byte) (hbs : bs.length = n) :
    (fs.foldl (fun b f => overlay b f.off (g f)) bs).length = n ∧
    ∀ i, ((∃ f ∈ fs, f.Covers i) → (fs.foldl (fun b f => overlay b f.off (g f)) bs).getD i 0 = t i) ∧
      ((¬ ∃ f ∈ fs, f.Covers i) → (fs.foldl (fun b f => overlay b f.off (g f)) bs).getD i 0 = bs.getD i 0) := by
  induction fs generalizing bs with
  | nil => simp [hbs]
  | cons f fs ih =>
    obtain ⟨hlen, hin, ht⟩ := hg f (by simp)
    have hover : (overlay bs f.off (g f)).length = n := by simp [overlay]; omega
    obtain ⟨hn, hi⟩ := ih (fun x hx => hg x (by simp [hx])) (overlay bs f.off (g f)) hover
    refine ⟨hn, fun i => ?_⟩
    obtain ⟨hcov, hnot⟩ := hi i
    have hget := getD_overlay bs (g f) f.off i (by omega)
    rw [hlen] at hget
    rw [List.foldl_cons]
    by_cases hrest : ∃ x ∈ fs, x.Covers i
    · exact ⟨fun _ => hcov hrest, fun h => absurd (by obtain ⟨x, hx, hc⟩ := hrest; exact ⟨x, by simp [hx], hc⟩) h⟩
    · rw [hnot hrest, hget]
      by_cases hf : f.Covers i
      · rw [if_pos (show f.off ≤ i ∧ i < f.off + f.len from hf)]
        exact ⟨fun _ => ht i hf, fun h => absurd ⟨f, by simp, hf⟩ h⟩
      · rw [if_neg (show ¬ (f.off ≤ i ∧ i < f.off + f.len) from hf)]
        refine ⟨fun ⟨x, hx, hc⟩ => ?_, fun _ => rfl⟩
        obtain rfl | hx := List.mem_cons.1 hx
        · exact absurd hc hf
        · exact absurd ⟨x, hx, hc⟩ hrest

/-- A reserved byte of a record whose reserved bytes are 0. -/
theorem reserved_zero {j : Subj} {pl : List Byte} (hlen : pl.length = j.size) (h : (reservedOf j pl).any (· != 0#8) = false)
    {i : Nat} (hi : j.keyLen ≤ i) (hnot : ¬ ∃ f ∈ j.fields, f.Covers i) : pl.getD i 0 = 0 := by
  have hfold := foldl_overlay j.fields (fun f => zeros f.len) (fun _ => 0) j.size
    (fun f hf => ⟨by simp [zeros], (j.field_place f hf).2, fun i _ => by simp [zeros, List.getD, List.getElem?_replicate]; split <;> rfl⟩)
    pl hlen
  rw [← (hfold.2 i).2 hnot]
  by_cases hin : i < j.size
  · have hlt : i < (j.fields.foldl (fun b f => overlay b f.off (zeros f.len)) pl).length := hfold.1 ▸ hin
    have hmem : (j.fields.foldl (fun b f => overlay b f.off (zeros f.len)) pl)[i] ∈ reservedOf j pl := by
      rw [reservedOf, List.mem_drop_iff_getElem]
      exact ⟨i - j.keyLen, by omega, by simp [show j.keyLen + (i - j.keyLen) = i by omega]⟩
    have hz : (j.fields.foldl (fun b f => overlay b f.off (zeros f.len)) pl)[i] = 0#8 := by
      simpa using List.any_eq_false.1 h _ hmem
    rw [getD_of_lt hlt, hz]
    rfl
  · rw [getD_of_le (by omega)]

/-- A setup record whose fields are those of another record with the same object number and reserved bytes 0. -/
theorem setupBytes_eq {j : Subj} {pl : List Byte} {k : Nat} {c : Cfg} (hlen : pl.length = j.size) (hkey : fieldAt pl 0 j.keyLen = k)
    (hres : (reservedOf j pl).any (· != 0#8) = false) (hc : ∀ f ∈ j.fields, cfield c j k f.index = fieldAt pl f.off f.len) :
    setupBytes c j k = pl := by
  have hks := j.keyLen_le_size
  have hg : ∀ f ∈ j.fields, (le f.len (cfield c j k f.index)).length = f.len ∧ f.off + f.len ≤ j.size ∧
      ∀ i, f.Covers i → (le f.len (cfield c j k f.index)).getD (i - f.off) 0 = pl.getD i 0 := by
    intro f hf
    obtain ⟨-, hin⟩ := j.field_place f hf
    refine ⟨by simp, hin, fun i hi => ?_⟩
    obtain ⟨hlo, hhi⟩ := hi
    rw [hc f hf, le_fieldAt (by omega), getD_slice pl (by omega), show f.off + (i - f.off) = i by omega]
  obtain ⟨hn, hget⟩ := foldl_overlay j.fields _ (fun i => pl.getD i 0) j.size hg (fit j.size (le j.keyLen k)) (by simp)
  have hbase (i : Nat) (hi : i < j.size) (hnot : ¬ ∃ f ∈ j.fields, f.Covers i) :
      (fit j.size (le j.keyLen k)).getD i 0 = pl.getD i 0 := by
    rw [← hkey, le_fieldAt (by omega)]
    by_cases hk : i < j.keyLen
    · have hsl : (slice pl 0 j.keyLen).length = j.keyLen := by simp [slice]; omega
      have := getD_slice pl (off := 0) hk
      simp only [Nat.zero_add] at this
      rw [← this, fit]
      simp [List.getD, hi, List.getElem?_append_left (hsl ▸ hk)]
    · rw [reserved_zero hlen hres (by omega) hnot]
      have hsl : (slice pl 0 j.keyLen).length = j.keyLen := by simp [slice]; omega
      simp [fit, zeros, List.getD, hi, List.getElem?_append_right (show (slice pl 0 j.keyLen).length ≤ i by omega),
        List.getElem?_replicate]
      split <;> rfl
  refine List.ext_getElem (hn.trans hlen.symm) fun i h1 h2 => ?_
  rw [← getD_of_lt (d := 0) h1, ← getD_of_lt (d := 0) h2]
  by_cases hcov : ∃ f ∈ j.fields, f.Covers i
  · exact (hget i).1 hcov
  · exact ((hget i).2 hcov).trans (hbase i (by omega) hcov)

end Sys2Proof.Machine

open Sys2Proof Sys2Proof.Machine

/-- Settles O46: each field is read back as staged, and the bytes between the fields are 0 on both sides. -/
theorem stagedSetupsReadBack : Obligations.StagedSetupsReadBack := by
  intro j pl k session st s hlen hkey hk hroot hres hst
  exact setupBytes_eq hlen hkey hres fun f hf => cfield_staged hk hroot hst hf
end

section
/-! The setup commands, the reads, and the commands that wait for a boundary or a tick (tables of the chapters; R502, R36). -/

namespace Sys2Proof.Machine

/-- A command of reply kind I is accepted where its part, finished, is the effect. -/
theorem acceptsNow_of {op : Nat} {row : Request → Instr} {ok : Ticket → List Byte → State → Prop}
    {effect : Rights → Ticket → List Byte → State → State} (f : Ticket → List Byte → State → Nat × List Byte × State)
    (hrow : ∀ rq s, exec (row rq) s = answerNow op rq f s)
    (hf : ∀ cls tk pl s, ok tk pl s → finish cls tk (f tk pl s).1 (f tk pl s).2.1 (f tk pl s).2.2 = effect cls tk pl s) :
    Accepts op row ok effect :=
  accepts_of (fun cls tk pl s => finish cls tk (f tk pl s).1 (f tk pl s).2.1 (f tk pl s).2.2) hrow hf

/-- A read without payload is served. -/
theorem plainRead_reads {op : Nat} {row : Request → Instr} {f : State → List Byte}
    (hrow : ∀ rq s, exec (row rq) s = answerNow op rq (plainRead f) s) : Reads op row (fun pl _ => pl = []) (fun _ s => f s) :=
  reads_of _ hrow fun tk pl s h => ⟨s.free, by subst h; rfl⟩

/-- A read of one object of `count` by its number of `len` bytes is served. -/
theorem readBody_reads {op len count : Nat} {row : Request → Instr} {f : Nat → State → List Byte}
    (hrow : ∀ rq s, exec (row rq) s = answerNow op rq (readBody len count f) s) :
    Reads op row (fun pl _ => pl.length = len ∧ fieldAt pl 0 len < count) (fun pl s => f (fieldAt pl 0 len) s) :=
  reads_of _ hrow fun tk pl s ⟨hlen, hk⟩ => ⟨s.free, by simp [readBody, hlen, Nat.not_le.2 hk]⟩

/-- A command of reply kind B whose check passes waits for the mailbox. -/
theorem mailbox_accepts {op : Nat} {row : Request → Instr} {check : List Byte → State → Option Nat} {ok : List Byte → State → Prop}
    (hrow : ∀ rq s, exec (row rq) s = answerMailbox op rq check s) (hok : ∀ pl s, ok pl s → check pl s = none) :
    Accepts op row (fun _ pl s => ok pl s) (fun _ tk pl s => postWork (.command tk pl) s) :=
  accepts_of _ hrow fun cls tk pl s h => by simp [hok pl s h]

/-- A command whose form is right waits for the next Hopper Bell tick. -/
theorem tick_accepts {op : Nat} {row : Request → Instr} {form : List Byte → Bool} {ok : List Byte → Prop}
    (hrow : ∀ rq s, exec (row rq) s = answerTick op rq form s) (hok : ∀ pl, ok pl → form pl = true) :
    Accepts op row (fun _ pl _ => ok pl)
      (fun _ tk pl s => { s with host := { s.host with bellCmds := s.host.bellCmds ++ [(tk, pl)] } }) :=
  accepts_of _ hrow fun cls tk pl s h => by simp [hok pl h]

/-- A setup whose every check passes is staged. -/
theorem setupBody_of_ok {j : Subj} {tk : Ticket} {pl : List Byte} {s : State} {st : List Change} (hlen : pl.length = j.size)
    (hk : fieldAt pl 0 j.keyLen < j.count) (htoll : (tollHeld (j.pid (fieldAt pl 0 j.keyLen) 0) && s.tollOwns) = false)
    (hres : (reservedOf j pl).any (· != 0#8) = false) (hbad : firstBad j pl = none)
    (hst : stageTry tk.session (setupChanges j (fieldAt pl 0 j.keyLen) pl) s = .ok st) :
    setupBody j tk pl s = (stDone, setupReply j 255, stageSet tk.session st s) := by
  simp only [setupBody, hlen, ne_eq, not_true_eq_false, decide_false, Nat.not_le.2 hk, Bool.or_self, htoll, hres, hbad, hst,
    Bool.false_eq_true, if_false]

theorem grnRange_rest (s : State) : s.grnRange.2.rest = s.rest := by
  unfold State.grnRange
  split <;> rfl

theorem grnRange_host (s : State) : s.grnRange.2.host = s.host := by
  unfold State.grnRange
  split <;> rfl

theorem wearStep_sessions (s : State) : (wearStep s).host.sessions = s.host.sessions := by
  have h (b : Bool) : (setRestraint b s).host = s.host := (submitAt_host ..).trans rfl
  unfold wearStep
  dsimp only
  split
  · rw [h]
  · split
    · rw [h]
    · rfl

theorem slewPpb_state (s : State) : ∃ n, s.slewPpb.2 = { s with free := n } := by
  unfold State.slewPpb
  split
  · exact ⟨s.free, rfl⟩
  · exact ⟨s.free + 1, rfl⟩

theorem ofLe_lt (bs : List Byte) : ofLe bs < 256 ^ bs.length := by
  induction bs with
  | nil => simp [ofLe]
  | cons b bs ih =>
    have hb : b.toNat < 256 := b.isLt
    rw [ofLe, List.length_cons, Nat.pow_succ]
    omega

/-- A field of two bytes is below 65,536. -/
theorem fieldAt_two_lt (bs : List Byte) (off : Nat) : fieldAt bs off 2 < 65536 := by
  have hlen : (slice bs off 2).length ≤ 2 := by simp [slice, Nat.min_le_left]
  calc fieldAt bs off 2 < 256 ^ (slice bs off 2).length := ofLe_lt _
    _ ≤ 256 ^ 2 := Nat.pow_le_pow_right (by decide) hlen

end Sys2Proof.Machine

open Sys2Proof Sys2Proof.Machine

/-- Settles O1: each setup command is the shared part of its subject. -/
theorem setupCommandsStage : Obligations.SetupCommandsStage := by
  intro j st
  refine acceptsNow_of (setupBody j) (by cases j <;> exact fun _ _ => rfl) ?_
  rintro cls tk pl s ⟨hlen, hk, htoll, hres, hbad, hst⟩
  rw [setupBody_of_ok hlen hk htoll hres hbad hst]
  rfl

/-- Settles O2: each setup read is the shared part of its subject. -/
theorem setupsAreReturned : Obligations.SetupsAreReturned := by
  intro j c
  refine serves_of (setupReadBody j) (by cases j <;> exact fun _ _ => rfl) ?_
  rintro tk pl s ⟨hlen, hk, hc⟩
  exact ⟨s, by simp [setupReadBody, hlen, Nat.not_le.2 hk, hc], rfl, rfl⟩

/-- Settles O3: object reads share one part; OUT_READ draws a free value, and BAY_FS may clear. -/
theorem fieldReadsAnswer : Obligations.FieldReadsAnswer := by
  refine ⟨readBody_reads fun _ _ => rfl, readBody_reads fun _ _ => rfl, ?chRead, readBody_reads fun _ _ => rfl, ?outRead,
    readBody_reads fun _ _ => rfl, readBody_reads fun _ _ => rfl, readBody_reads fun _ _ => rfl, readBody_reads fun _ _ => rfl,
    ?bayFs, ?bayFsClear⟩
  case chRead => exact reads_of chReadBody (fun _ _ => rfl) fun tk pl s ⟨hlen, hn⟩ => ⟨s.free, by simp [chReadBody, hlen, Nat.not_le.2 hn]⟩
  case outRead => exact reads_of outReadBody (fun _ _ => rfl) fun tk pl s ⟨hlen, hn⟩ => 
    ⟨s.free + 1, by simp [outReadBody, hlen, Nat.not_le.2 hn, State.draw]⟩
  case bayFs =>
    exact reads_of bayFsBody (fun _ _ => rfl) fun tk pl s ⟨hlen, hb, hclear⟩ => ⟨s.free, by simp [bayFsBody, hlen, Nat.not_le.2 hb, hclear]⟩
  case bayFsClear =>
    exact serves_of bayFsBody (fun _ _ => rfl) fun tk pl s ⟨hlen, hb, hclear⟩ =>
      ⟨_, by simp [bayFsBody, hlen, Nat.not_le.2 hb, hclear], rfl, rfl⟩

/-- Settles O4: most of these are reads without payload or of one object; the others take their own forms. -/
theorem nodeReadsAnswer : Obligations.NodeReadsAnswer := by
  refine ⟨plainRead_reads fun _ _ => rfl, ?ptRead, ?ptStates, readBody_reads fun _ _ => rfl, plainRead_reads fun _ _ => rfl,
    ?grnStatus, ?clkStatus, plainRead_reads fun _ _ => rfl, ?pnrSlot, plainRead_reads fun _ _ => rfl,
    plainRead_reads fun _ _ => rfl, plainRead_reads fun _ _ => rfl, ?cfgRead, plainRead_reads fun _ _ => rfl, ?calStatus,
    plainRead_reads fun _ _ => rfl, plainRead_reads fun _ _ => rfl, ?tollRead, ?ntfStatus⟩
  case ptRead =>
    exact reads_of (readBody 2 65536 ptReadBytes) (fun _ _ => rfl) fun tk pl s h =>
      ⟨s.free, by simp [readBody, h, Nat.not_le.2 (fieldAt_two_lt pl 0)]⟩
  case ptStates =>
    exact reads_of ptStatesBody (fun _ _ => rfl) fun tk pl s ⟨hlen, hlo, hhi, hend⟩ =>
      ⟨s.free, by simp [ptStatesBody, hlen, Nat.not_lt.2 hhi, Nat.not_lt.2 hend, Nat.one_le_iff_ne_zero.1 hlo]⟩
  case grnStatus =>
    exact serves_of grnStatusBody (fun _ _ => rfl) fun tk pl s h => by
      subst h
      exact ⟨(wearStep s).grnRange.2, rfl, grnRange_rest _, (congrArg HostSt.sessions (grnRange_host _)).trans (wearStep_sessions s)⟩
  case clkStatus =>
    exact reads_of clkStatusBody (fun _ _ => rfl) fun tk pl s h => by
      obtain ⟨n, hn⟩ := slewPpb_state s
      exact ⟨n, by subst h; simp [clkStatusBody, hn]⟩
  case pnrSlot =>
    refine reads_of pnrSlotBody (fun _ _ => rfl) fun tk pl s ⟨hlen, hslot⟩ => ⟨s.free, ?_⟩
    obtain ⟨hout, hn⟩ | ⟨hout, hn⟩ := hslot <;> simp [pnrSlotBody, hlen, hout, Nat.not_le.2 hn, Nat.add_comm]
  case cfgRead =>
    exact fun c => serves_of cfgReadBody (fun _ _ => rfl) fun tk pl s ⟨hlen, hb, hc⟩ =>
      ⟨s, by simp [cfgReadBody, hlen, Nat.not_lt.2 hb, hc], rfl, rfl⟩
  case calStatus =>
    exact fun c => reads_of calStatusBody (fun _ _ => rfl) fun tk pl s ⟨hpl, hc⟩ =>
      ⟨s.free, by subst hpl; simp [calStatusBody, hc]⟩
  case tollRead =>
    exact reads_of tollReadBody (fun _ _ => rfl) fun tk pl s ⟨hlen, hn, hend, hruns⟩ =>
      ⟨s.free, by simp [tollReadBody, hlen, Nat.not_lt.2 hend, hruns, Nat.one_le_iff_ne_zero.1 hn]⟩
  case ntfStatus =>
    exact serves_of ntfStatusBody (fun _ _ => rfl) fun tk pl s h => ⟨s, by subst h; rfl, rfl, rfl⟩

/-- Settles O5: each of these commands passes its own check and waits. -/
theorem mailboxCommandsWait : Obligations.MailboxCommandsWait := by
  refine ⟨mailbox_accepts (fun _ _ => rfl) fun _ _ h => h, mailbox_accepts (fun _ _ => rfl) fun _ _ h => h,
    mailbox_accepts (fun _ _ => rfl) ?cnt, mailbox_accepts (fun _ _ => rfl) fun _ _ h => h,
    mailbox_accepts (fun _ _ => rfl) fun _ _ h => h, mailbox_accepts (fun _ _ => rfl) fun _ _ h => h,
    mailbox_accepts (fun _ _ => rfl) fun _ _ h => h, mailbox_accepts (fun _ _ => rfl) ?ack, mailbox_accepts (fun _ _ => rfl) ?ack,
    mailbox_accepts (fun _ _ => rfl) ?inhibit, mailbox_accepts (fun _ _ => rfl) ?grp, tick_accepts (fun _ _ => rfl) ?override,
    tick_accepts (fun _ _ => rfl) ?sysAck⟩
  case cnt => exact fun pl s ⟨hlen, hn, hf, hm⟩ => by simp [cntPresetCheck, hlen, hn, hf, hm]
  case ack => exact fun pl s h => by simp [ptAckCheck, h]
  case inhibit => exact fun pl s ⟨hlen, hv, hc⟩ => by simp [ptInhibitCheck, hlen, hv, hc]
  case grp => exact fun pl s ⟨hlen, hg⟩ => by simp [grpAckCheck, hlen, hg]
  case override => exact fun pl ⟨hlen, hs⟩ => by simpa [overrideOk, hlen] using hs
  case sysAck => exact fun pl h => by simp [h]
end

section
/-! The commands of channels, power, Granary, clock, rings and pair that act at once, and the ends of the captures they begin. -/

namespace Sys2Proof.Machine

theorem setSup_sessions (n : Nat) (f : SupRun → SupRun) (s : State) : (setSup n f s).host.sessions = s.host.sessions := by
  unfold setSup
  dsimp only
  split
  · rfl
  · exact congrArg HostSt.sessions ((submitAt_host ..).trans rfl)

/-- The capture of every supervised channel keeps the sessions. -/
theorem capture_sessions (l : List Nat) (s : State) :
    (l.foldl (fun s n => setSup n SupRun.capture s) s).host.sessions = s.host.sessions :=
  foldl_keeps (fun s : State => s.host.sessions) (fun s n => setSup_sessions n SupRun.capture s) l s

/-- A reply of three parts whose status is known. -/
theorem eq_of_status {x : Nat × List Byte × State} {st : Nat} (h : x.1 = st) : x = (st, x.2.1, x.2.2) := h ▸ rfl

theorem grnRange_state (s : State) : ∃ n, s.grnRange.2 = { s with free := n } := by
  unfold State.grnRange
  split
  · exact ⟨s.free, rfl⟩
  · exact ⟨_, rfl⟩

/-- GRN_READ answers DONE and renews the lease of the freeze that its session holds. -/
theorem grnReadBody_eq {tk : Ticket} {pl : List Byte} {s : State} (hlen : pl.length = 6) (hlo : 16 ≤ fieldAt pl 4 2)
    (hhi : fieldAt pl 4 2 ≤ 1004) :
    (grnReadBody tk pl s).1 = stDone ∧ ∃ n, (grnReadBody tk pl s).2.2 = match s.freezeOf tk.session with
      | some f => { s with free := n, grn := { s.grn with freeze := some { f with lease := s.now } } }
      | none => { s with free := n } := by
  obtain ⟨n, hn⟩ := grnRange_state s
  have hform : ¬ (decide (pl.length ≠ 6) || decide (fieldAt pl 4 2 < 16) || decide (1004 < fieldAt pl 4 2)) = true := by
    simp [hlen, hlo, hhi]
  unfold grnReadBody
  dsimp only
  rw [if_neg hform, hn]
  refine ⟨rfl, n + 1, ?_⟩
  cases s.freezeOf tk.session <;> rfl

/-- GRN_FREEZE takes a freeze of the present range where none is held, with its record. -/
theorem grnFreezeBody_none (tk : Ticket) {s : State} (h : s.grn.freeze = none) :
    ∃ n p, grnFreezeBody tk [] s = (stDone, le 4 s.grnRange.1.1 ++ le 4 s.grnRange.1.2, submit .management 0x003 p
      { s with free := n, grn := { s.grn with freeze := some ⟨tk.session, s.grnRange.1.1, s.grnRange.1.2, s.now, s.now⟩ } }) := by
  obtain ⟨n, hn⟩ := grnRange_state s
  refine ⟨n, le 1 1 ++ le 1 tk.session ++ le 2 0 ++ le 4 s.grnRange.1.2, ?_⟩
  simp only [grnFreezeBody, h, hn]
  rfl

end Sys2Proof.Machine

open Sys2Proof Sys2Proof.Machine

/-- Settles O6: each command passes its own checks and begins its work; a capture or learning ends once its results are in. -/
theorem channelWorkBegins : Obligations.ChannelWorkBegins := by
  refine ⟨?leadCapture, ?leadCaptureDone, ?baseline, ?baselineAll, ?supCheck, ?scanAlready, ?scan, ?pass, ?learn, ?learnDone⟩
  case leadCapture =>
    exact accepts_of leadCaptureBody (fun _ _ => rfl) fun cls tk pl s ⟨hlen, hn, hex, hw, hno, hc⟩ => by
      simp [leadCaptureBody, hlen, Nat.not_le.2 hn, hex, hw, hno, hc]
  case leadCaptureDone =>
    intro t n c s ⟨hc, h10⟩
    change execLeadCaptureDone t n s = _
    simp [execLeadCaptureDone, hc, h10]
  case baseline =>
    exact serves_of supBaselineBody (fun _ _ => rfl) fun tk pl s ⟨hlen, hn, hsup, hgate⟩ =>
      ⟨_, by simp [supBaselineBody, hlen, Nat.not_le.2 hn, Nat.ne_of_lt (Nat.lt_trans hn (by decide : 512 < 0xFFFF)), hsup, hgate], rfl,
        setSup_sessions ..⟩
  case baselineAll =>
    refine serves_of supBaselineBody (fun _ _ => rfl) fun tk pl s ⟨hlen, hn, hgate⟩ => ⟨_, ?_, rfl, capture_sessions ..⟩
    have hall : ((allChans.filter s.supervised).all fun k => s.gate (bayOf k)) = true :=
      List.all_eq_true.2 fun k hk => by
        obtain ⟨hmem, hsup⟩ := List.mem_filter.1 hk
        exact hgate k (List.mem_range.1 hmem) hsup
    unfold supBaselineBody
    dsimp only
    rw [if_neg (by simp [hlen, hn]), if_pos hn, if_pos hall]
  case supCheck =>
    refine accepts_of supCheckBody (fun _ _ => rfl) fun cls tk pl s ⟨hlen, hn, hsup, hgate, hc⟩ => ?_
    unfold supCheckBody
    dsimp only
    rw [if_neg (by simp [hlen, Nat.not_le.2 hn])]
    exact if_neg (by simp [hsup, hgate, hc])
  case scanAlready =>
    refine accepts_of hartScanBody (fun _ _ => rfl) fun cls tk pl s ⟨hlen, hn, hm, hmodem, hscan⟩ => ?_
    have hs : ((s.modHart (fieldAt pl 0 2) fun h => { h with scanTickets := h.scanTickets ++ [tk] }).hrt (fieldAt pl 0 2)).scan.isSome =
        true := by rw [State.modHart_same]; exact hscan
    unfold hartScanBody
    dsimp only
    rw [if_neg (by simp [hlen, hn]), if_neg (by simp [hm, hmodem]), if_pos hs]
  case scan =>
    refine accepts_of hartScanBody (fun _ _ => rfl) fun cls tk pl s ⟨hlen, hn, hm, hmodem, hscan⟩ => ?_
    unfold hartScanBody
    dsimp only
    rw [if_neg (by simp [hlen, hn]), if_neg (by simp [hm, hmodem]), if_neg (by rw [hscan]; decide)]
  case pass =>
    refine accepts_of hartPassBody (fun _ _ => rfl) fun cls tk pl s ⟨h6, hlen, hn, ha, hm, hgate, hc6, hc109, hdev, hq⟩ => ?_
    have hknown : ¬ (byteAt pl 3 ≠ 0 ∧ ((s.hrt (fieldAt pl 0 2)).dev (byteAt pl 2)).isNone = true) := by
      obtain h0 | hd := hdev
      · simp [h0]
      · simp [Option.isSome_iff_ne_none.1 hd]
    unfold hartPassBody
    dsimp only
    rw [if_neg (by simp; omega), if_neg (by simp [hm, hgate]), if_neg (by simpa [hc6, hc109] using hknown), if_neg (by omega)]
  case learn =>
    refine accepts_of lampLearnBody (fun _ _ => rfl) fun cls tk pl s ⟨hlen, hn, hf, hd, hsw, hon, hl⟩ => ?_
    unfold lampLearnBody
    dsimp only
    rw [if_neg (by simp [hlen, hn]), if_neg (by simp [hf, hd, hsw, hl]; omega)]
  case learnDone =>
    intro t n l s ⟨hl, hc⟩
    change execLampLearnDone t n s = _
    simp [execLampLearnDone, hl, Nat.not_lt.2 hc]

/-- Settles O7: each command passes its condition and acts. -/
theorem powerCommandsAct : Obligations.PowerCommandsAct := by
  refine ⟨?clear, ?mode, ?handover, ?reset, ?dormant⟩
  case clear =>
    exact serves_of pwrClearBody (fun _ _ => rfl) fun tk pl s h =>
      ⟨s.modNd fun d => { d with cause := d.cause &&& ~~~(BitVec.ofNat 32 (fieldAt pl 0 4) &&& 0x7A#32) },
        if_neg (not_not_intro h), rfl, rfl⟩
  case mode =>
    refine fun s' => accepts_of modeSetBody (fun _ _ => rfl) fun cls tk pl s ⟨hlen, ht, hnot, hset⟩ => ?_
    unfold modeSetBody
    dsimp only
    rw [if_neg (by simp [hlen, ht]), if_neg (by simpa using hnot), hset]
  case handover =>
    refine accepts_of modeSetBody (fun _ _ => rfl) fun cls tk pl s ⟨hlen, hd, ht, hp, hr, ha⟩ => ?_
    unfold modeSetBody
    dsimp only
    rw [if_neg (by simp [hlen, ht]), if_pos (by simp [hd, ht]), if_pos (by simp [hp, hr, ha])]
  case reset =>
    refine accepts_of nodeResetBody (fun _ _ => rfl) fun cls tk pl s ⟨hlen, hk, hc⟩ => ?_
    unfold nodeResetBody
    dsimp only
    rw [if_neg (by obtain hk | hk := hk <;> simp [hlen, hk]), if_neg]
    obtain h | h | h | h := hc <;> simp [h]
  case dormant =>
    refine accepts_of nodeDormantBody (fun _ _ => rfl) fun cls tk pl s ⟨hlen, hc⟩ => ?_
    unfold nodeDormantBody
    rw [if_neg (by simp [hlen]), if_neg]
    obtain ⟨hp, hd⟩ | ⟨hp, hb⟩ := hc
    · simp [hp, hd]
    · simp [hp, hb]

/-- Settles O8: the reads and the commands of the Granary's freeze. -/
theorem granaryCommandsAct : Obligations.GranaryCommandsAct := by
  refine ⟨?read, ?readHeld, ?freeze, ?renew, ?release⟩
  case read =>
    refine serves_of grnReadBody (fun _ _ => rfl) fun tk pl s ⟨hlen, hlo, hhi, hf⟩ => ?_
    obtain ⟨hst, n, hs⟩ := grnReadBody_eq (tk := tk) (s := s) hlen hlo hhi
    rw [hf] at hs
    exact ⟨_, eq_of_status hst, by rw [hs]; rfl, by rw [hs]⟩
  case readHeld =>
    refine fun f => serves_of grnReadBody (fun _ _ => rfl) fun tk pl s ⟨hlen, hlo, hhi, hf⟩ => ?_
    obtain ⟨hst, n, hs⟩ := grnReadBody_eq (tk := tk) (s := s) hlen hlo hhi
    rw [hf] at hs
    exact ⟨_, eq_of_status hst, by rw [hs]; rfl, by rw [hs]⟩
  case freeze =>
    refine serves_of grnFreezeBody (fun _ _ => rfl) fun tk pl s ⟨hpl, hf⟩ => ?_
    subst hpl
    obtain ⟨n, p, he⟩ := grnFreezeBody_none tk hf
    exact ⟨_, he, (submit_rest ..).trans rfl, congrArg HostSt.sessions ((submitAt_host ..).trans rfl)⟩
  case renew =>
    refine fun f => serves_of grnFreezeBody (fun _ _ => rfl) fun tk pl s ⟨hpl, hf, hh⟩ => ?_
    subst hpl
    exact ⟨_, by simp [grnFreezeBody, hf, hh], rfl, rfl⟩
  case release =>
    refine serves_of grnReleaseBody (fun _ _ => rfl) fun tk pl s ⟨hpl, hf⟩ => ?_
    subst hpl
    obtain ⟨f, hf⟩ := Option.isSome_iff_exists.1 hf
    have hs : ∃ g, s.grn.freeze = some g := by
      unfold State.freezeOf at hf
      split at hf
      next g hg => exact ⟨g, hg⟩
      · simp at hf
    obtain ⟨g, hg⟩ := hs
    refine ⟨endFreeze 2 s, by simp [grnReleaseBody, hf], ?_, ?_⟩ <;> simp only [endFreeze, hg]
    · exact submit_rest ..
    · exact congrArg HostSt.sessions (submitAt_host ..)
end

section
/-! The clock and its windows, ports and pair, sessions and bulk transfers (chapters 13 to 16). -/

namespace Sys2Proof.Machine

/-- An event whose part is a function of the state in which the command begins. -/
theorem happens_of {t : Nat} {s : State} {i : Instr} {guard : State → Prop} {effect : State → State} (f : State → Res)
    (hrow : exec i s = f (s.begin t)) (hf : ∀ x, guard x → f x = .next (effect x)) : Happens t s i guard effect :=
  fun h => hrow.trans (hf _ h)

theorem armLeap_sessions (v : Nat) (s : State) : (armLeap v s).host.sessions = s.host.sessions := by
  have h (a e : Nat) (s : State) : (leapRecord a e s).host.sessions = s.host.sessions := congrArg HostSt.sessions (submitAt_host ..)
  unfold armLeap
  dsimp only
  split
  · exact (h ..).trans rfl
  · split
    · exact (h ..).trans rfl
    · rfl

theorem clkRead_sessions (k off len : Nat) (s : State) : (clkRead k off len s).2.host.sessions = s.host.sessions := by
  have hblock (s : State) : (shadowBlock k s).2.host = s.host := by
    unfold shadowBlock
    split <;> rfl
  have hlow (s : State) : (if off < 0x1C then shadowBlock k s else (zeros 28, s)).2.host = s.host := by
    split
    · exact hblock s
    · rfl
  unfold clkRead
  dsimp only
  split <;> exact congrArg HostSt.sessions (hlow (lapseWindows s))

theorem bulkRecord_sessions (h e : Nat) (b : Bulk) (s : State) : (bulkRecord h e b s).host.sessions = s.host.sessions :=
  congrArg HostSt.sessions (submitAt_host ..)

theorem openTransfer_sessions (tk : Ticket) (h object : Nat) (write : Bool) (total : Nat) (image : List Byte) (s : State) :
    (openTransfer tk h object write total image s).2.2.host.sessions = s.host.sessions := by
  have hfw (k : Nat) (f : FwSlot → FwSlot) : (s.modFw k f).host = s.host := by
    unfold State.modFw
    split <;> rfl
  unfold openTransfer
  refine (bulkRecord_sessions ..).trans ?_
  dsimp only
  split
  · split
    · exact congrArg HostSt.sessions (hfw ..)
    · rfl
  · rfl

theorem windowStep_happens {t : Nat} {k : Fin 8} {s : State} {i : Instr} (f : State → State)
    (hrow : exec i s = windowStep t k f s) : Happens t s i (SessionUp k) f := by
  intro ⟨ha, hm, hs⟩
  rw [hrow]
  simp [windowStep, ha, hm, hs]

/-- BULK_WRITE of a whole piece stores it. -/
theorem bulkWriteBody_of_ok {tk : Ticket} {pl : List Byte} {s : State} {b : Bulk}
    (hb : (modBulk (byteAt pl 0) id s).bulkOf (byteAt pl 0) = some b) (hm : s.nd.mode ≠ .hold) (hc : b.closing = none)
    (hw : b.write = true) (hlen : pl.length = 8 + fieldAt pl 2 2) (hmax : fieldAt pl 2 2 ≤ 984)
    (hp : pieceOk b.total (fieldAt pl 4 4) (fieldAt pl 2 2) = true) :
    (bulkWriteBody tk pl s).1 = stDone ∧ (bulkWriteBody tk pl s).2.2 = modBulk (byteAt pl 0) (fun b => { b with
      data := memWriteN 0#8 b.data (fieldAt pl 4 4) (pl.drop 8)
      written := addSpan (fieldAt pl 4 4) (fieldAt pl 4 4 + fieldAt pl 2 2) b.written }) (modBulk (byteAt pl 0) id s) := by
  have hm' : (modBulk (byteAt pl 0) id s).nd.mode ≠ .hold := hm
  unfold bulkWriteBody
  simp only [hb]
  rw [if_neg (by simp [hm', hc]), if_neg (by simp [hw, hlen, hmax, hp])]
  exact ⟨rfl, rfl⟩

theorem freeMissing_state (s : State) : ∃ n, (freeMissing s).2 = { s with free := n } := ⟨_, rfl⟩

/-- BULK_STATUS of an open transfer counts as a command of it. -/
theorem bulkStatusBody_of_ok {tk : Ticket} {pl : List Byte} {s : State} {b : Bulk} (hb : s.bulkOf (byteAt pl 0) = some b)
    (hlen : pl.length = 1) : (bulkStatusBody tk pl s).1 = stDone ∧ ∃ n, (bulkStatusBody tk pl s).2.2 = modBulk (byteAt pl 0) id { s with free := n } := by
  unfold bulkStatusBody
  simp only [hb]
  rw [if_neg (by simp [hlen])]
  refine ⟨rfl, ?_⟩
  dsimp only
  generalize (if b.write = true then firstMissing b else none) = m
  cases m with
  | some n => exact ⟨s.free, rfl⟩
  | none => exact ⟨s.free + 1, rfl⟩

theorem takeCounters_sessions (s : State) : (takeCounters s).2.host.sessions = s.host.sessions := rfl

theorem readObject_sessions (object : Nat) (s : State) : (readObject object s).2.host.sessions = s.host.sessions := by
  unfold readObject
  split
  case h_4 => exact takeCounters_sessions s
  all_goals rfl

end Sys2Proof.Machine

open Sys2Proof Sys2Proof.Machine

/-- Settles O9: the clock commands act through the clock's own parts. -/
theorem clockCommandsAct : Obligations.ClockCommandsAct := by
  refine ⟨?get, ?set, ?leap, ?bramRead, ?bramWrite⟩
  case get =>
    exact serves_of clkGetBody (fun _ _ => rfl) fun tk pl s h => ⟨_, by subst h; rfl, rfl, rfl⟩
  case set =>
    refine acceptsNow_of clkSetBody (fun _ _ => rfl) fun cls tk pl s ⟨hlen, hv⟩ => ?_
    unfold clkSetBody
    dsimp only
    rw [if_neg (by obtain hv | hv := hv <;> simp [hlen, hv])]
  case leap =>
    refine serves_of clkLeapBody (fun _ _ => rfl) fun tk pl s ⟨hlen, hv, hsrc⟩ => ⟨armLeap (fieldAt pl 0 8) s, ?_, rfl, armLeap_sessions ..⟩
    unfold clkLeapBody
    dsimp only
    rw [if_neg (by obtain hv | hv := hv <;> simp [hlen, hv]), if_neg hsrc]
  case bramRead =>
    exact reads_of bramReadBody (fun _ _ => rfl) fun tk pl s ⟨hlen, hlo, hn, hhi⟩ =>
      ⟨s.free, by simp [bramReadBody, userOk, hlen, hlo, hn, hhi]⟩
  case bramWrite =>
    exact serves_of bramWriteBody (fun _ _ => rfl) fun tk pl s ⟨hlen, hlo, hn, hhi⟩ =>
      ⟨_, bramWriteBody_of_ok hlen hlo hn hhi, rfl, rfl⟩

/-- Settles O10: ports and pair commands pass their conditions and act. -/
theorem pairAndPortCommandsAct : Obligations.PairAndPortCommandsAct := by
  refine ⟨?port, ?portClear, ?clear, ?adopt⟩
  case port =>
    exact reads_of pnrPortBody (fun _ _ => rfl) fun tk pl s ⟨hlen, hp, hc⟩ =>
      ⟨s.free, by simp [pnrPortBody, hlen, Nat.not_le.2 hp, hc]⟩
  case portClear =>
    exact serves_of pnrPortBody (fun _ _ => rfl) fun tk pl s ⟨hlen, hp, hc⟩ =>
      ⟨_, by simp only [pnrPortBody, hlen, Nat.not_le.2 hp, hc]; rfl, rfl, rfl⟩
  case clear =>
    exact acceptsNow_of pairClearBody (fun _ _ => rfl) fun cls tk pl s ⟨hlen, hc⟩ => by simp [pairClearBody, hlen, hc]
  case adopt =>
    exact acceptsNow_of pairAdoptBody (fun _ _ => rfl) fun cls tk pl s ⟨hlen, hc, hm⟩ => by simp [pairAdoptBody, hlen, hc, hm]

/-- Settles O11: sessions open in a free place, and end by command, idle time or the copied table. -/
theorem sessionsOpenAndClose : Obligations.SessionsOpenAndClose := by
  refine ⟨?opens, ?close, ?idle, ?table⟩
  case opens =>
    refine fun key rights ports k => accepts_of sessOpenBody (fun _ _ => rfl) fun cls tk pl s ⟨hlen, hk, hslot, hr, hp, hplace⟩ => ?_
    unfold sessOpenBody
    simp only [hslot, hplace]
    rw [if_neg (by simp [hlen, hk]), if_neg (by simp [hr, hp])]
    rfl
  case close =>
    exact accepts_of sessCloseBody (fun _ _ => rfl) fun cls tk pl s h => by subst h; rfl
  case idle =>
    intro t k s ⟨ha, hp, hs, hidle⟩
    change execSessionIdleExpire t k s = _
    unfold execSessionIdleExpire
    dsimp only
    rw [if_pos]
    obtain h | h := hp <;> simp [ha, h, hs, hidle]
  case table =>
    intro t tab s ⟨ha, hp, hd⟩
    change execSessionTableRx t tab s = _
    simp only [execSessionTableRx, ha, hp, hd]
    rfl

/-- Settles O12: the windows are read and written through the same parts by commands and by single accesses. -/
theorem windowsArePeekedAndPoked : Obligations.WindowsArePeekedAndPoked := by
  refine ⟨?peek, ?poke, fun t k off len s => windowStep_happens _ rfl, fun t k off bs s => windowStep_happens _ rfl,
    fun t k s => windowStep_happens _ rfl, fun t k s => windowStep_happens _ rfl, fun t k s => windowStep_happens _ rfl,
    fun t k s _ => rfl, ?lapse⟩
  case peek =>
    refine serves_of memPeekBody (fun _ _ => rfl) fun tk pl s ⟨hlen, h1, hmax, hin⟩ => ⟨_, ?_, rfl, clkRead_sessions ..⟩
    unfold memPeekBody
    dsimp only
    rw [if_neg (by simp [hlen, hmax, hin, Nat.one_le_iff_ne_zero.1 h1])]
  case poke =>
    refine fun done s' => acceptsNow_of memPokeBody (fun _ _ => rfl) fun cls tk pl s ⟨hlen, h1, hmax, hin, hwhole, hro, hpoke⟩ => ?_
    unfold memPokeBody
    simp only [hpoke, hro]
    rw [if_neg (by simp [hlen, hmax, hin, hwhole, Nat.one_le_iff_ne_zero.1 h1])]
    rfl
  case lapse =>
    intro t k g s ⟨hg, hold⟩
    change execClkStagingLapse t k s = _
    simp [execClkStagingLapse, hg, hold]

/-- Settles O13: a transfer's commands, its owner's work and its end. -/
theorem bulkTransfersRun : Obligations.BulkTransfersRun := by
  refine ⟨?openWrite, ?openRead, ?write, ?read, ?status, ?abort, ?handOver, ?done, ?idle⟩
  case openWrite =>
    refine fun h => serves_of bulkOpenBody (fun _ _ => rfl) fun tk pl s ⟨hlen, hdir, hknown, hsize, htwo, hone, hfree, hok⟩ =>
      ⟨_, ?_, rfl, openTransfer_sessions ..⟩
    have hobj : byteAt pl 0 = 1 ∨ byteAt pl 0 = 2 ∨ byteAt pl 0 = 3 ∨ byteAt pl 0 = 16 ∨ byteAt pl 0 = 17 := by simpa using hknown
    unfold bulkOpenBody
    simp only [hfree, hok]
    rw [if_neg, if_neg (by simp [htwo, hone]), if_pos (by simp [hdir])]
    · rfl
    · simp only [hlen, hdir]
      obtain h | h | h | h | h := hobj <;> rw [h] at hsize ⊢ <;> simp [hsize]
  case openRead =>
    refine fun h bs s1 => serves_of bulkOpenBody (fun _ _ => rfl) fun tk pl s ⟨hlen, hdir, hknown, htwo, hfree, hread⟩ =>
      ⟨_, ?_, rfl, (openTransfer_sessions ..).trans ?_⟩
    · have hobj : byteAt pl 0 = 1 ∨ byteAt pl 0 = 2 ∨ byteAt pl 0 = 16 ∨ byteAt pl 0 = 32 := by simpa using hknown
      unfold bulkOpenBody
      simp only [hfree, hread]
      rw [if_neg, if_neg (by simp [htwo, hdir]), if_neg (by simp [hdir])]
      · rfl
      · simp only [hlen, hdir]
        obtain h | h | h | h := hobj <;> simp [h]
    · have h := readObject_sessions (byteAt pl 0) s
      rwa [hread] at h
  case write =>
    refine fun b => serves_of bulkWriteBody (fun _ _ => rfl) fun tk pl s ⟨hb, hm, hc, hw, hlen, hmax, hp⟩ => ?_
    obtain ⟨hst, hs⟩ := bulkWriteBody_of_ok (tk := tk) hb hm hc hw hlen hmax hp
    exact ⟨_, eq_of_status hst, by rw [hs], by rw [hs]; rfl⟩
  case read =>
    refine fun b => serves_of bulkReadBody (fun _ _ => rfl) fun tk pl s ⟨hb, hw, hlen⟩ => ⟨modBulk (byteAt pl 0) id s, ?_, rfl, rfl⟩
    simp [bulkReadBody, hb, hw, hlen]
  case status =>
    refine fun b => serves_of bulkStatusBody (fun _ _ => rfl) fun tk pl s ⟨hlen, hb⟩ => ?_
    obtain ⟨hst, n, hs⟩ := bulkStatusBody_of_ok (tk := tk) hb hlen
    exact ⟨_, eq_of_status hst, by rw [hs]; rfl, by rw [hs]; rfl⟩
  case abort =>
    refine fun b => accepts_of bulkCloseBody (fun _ _ => rfl) fun cls tk pl s ⟨hlen, ha, hc, hb⟩ => ?_
    unfold bulkCloseBody
    simp only [hb]
    obtain ha | ⟨ha, hw⟩ := ha
    · simp [hlen, ha, hc]
    · simp [hlen, ha, hc, hw]
  case handOver =>
    refine fun b => accepts_of bulkCloseBody (fun _ _ => rfl) fun cls tk pl s ⟨hlen, ha, hw, hc, hb, hok⟩ => ?_
    unfold bulkCloseBody
    simp only [hb, hok]
    simp [hlen, ha, hc, hw]
  case done =>
    intro t h b tk s ⟨hb, hc, ha, hm⟩
    change execBulkCloseDone t h s = _
    simp only [execBulkCloseDone, hb, hc, ha, hm]
    rfl
  case idle =>
    intro t h b s ⟨hb, ha, hm, hc, hidle⟩
    change execBulkIdleExpire t h s = _
    simp [execBulkIdleExpire, hb, ha, hm, hc, hidle]
end

section
/-! Configuration, firmware, Toll and notification commands (chapters 17 to 19). -/

namespace Sys2Proof.Machine

theorem firstIdx_eq_none {α : Type} {p : α → Bool} {l : List α} (h : ∀ x ∈ l, p x = false) : firstIdx p l = none := by
  induction l with
  | nil => rfl
  | cons x xs ih => simp [firstIdx, h x (by simp), ih fun y hy => h y (by simp [hy])]

/-- A commit whose checks pass, with phases that a running node can take, writes the spare bank. -/
theorem startCommit_of_ok {cls : Rights} {tk : Ticket} {revert : Bool} {changes : List Change} {target : Cfg} {s : State}
    (hcheck : commitCheck s target = none) (hphases : s.nd.mode = .duty → (planPhases s.liveRecords target).length ≤ 160) :
    startCommit cls tk revert changes target s = beginWrite tk revert changes target (planPhases s.liveRecords target) s := by
  unfold startCommit
  simp only [hcheck]
  rw [if_neg]
  simpa using hphases

/-- A command that the Toll partition carries out where its condition holds. -/
theorem tollCommand_of_ok {may : State → Bool} {act : Ticket → State → List Byte × State} {cls : Rights} {tk : Ticket}
    {pl : List Byte} {s : State} (hlen : pl.length = 1) (hc : hasBit (byteAt pl 0) 0 = true) (hmay : may s = true) :
    tollCommand may act cls tk pl s = finish cls tk stDone (act tk (inProgress tk s)).1 (act tk (inProgress tk s)).2 := by
  simp [tollCommand, hlen, hc, hmay]

end Sys2Proof.Machine

open Sys2Proof Sys2Proof.Machine

/-- Settles O14: staging, discarding and the two ways to a commit. -/
theorem configurationCommandsAct : Obligations.ConfigurationCommandsAct := by
  refine ⟨?write, ?discard, ?commit, ?revert⟩
  case write =>
    refine fun recs st => acceptsNow_of cfgWriteBody (fun _ _ => rfl) fun cls tk pl s ⟨hparse, hne, hown, hok, hst⟩ => ?_
    have hidx : firstIdx (fun r => (sentError s r).isSome) recs = none := firstIdx_eq_none fun r hr => by simp [hok r hr]
    unfold cfgWriteBody
    simp only [hparse, hidx, hst]
    rw [if_neg, if_neg (by simp), if_neg (by simpa using hne)]
    obtain h | h := hown <;> simp [h]
  case discard =>
    exact acceptsNow_of cfgDiscardBody (fun _ _ => rfl) fun cls tk pl s ⟨hpl, hown⟩ => by
      subst hpl
      simp [cfgDiscardBody, hown]
  case commit =>
    refine accepts_of cfgCommitBody (fun _ _ => rfl) fun cls tk pl s ⟨hpl, hne, hown, hmay, hcheck, hphases⟩ => ?_
    subst hpl
    unfold cfgCommitBody
    rw [if_neg (by simp), if_neg (by simp only [hne, hown, hmay]; simp), startCommit_of_ok hcheck hphases]
  case revert =>
    refine fun b => accepts_of cfgRevertBody (fun _ _ => rfl) fun cls tk pl s ⟨hlen, hprev, hc, hst, hne, hmay, hcheck, hphases⟩ => ?_
    unfold cfgRevertBody
    simp only [hprev]
    rw [if_neg (by simp [hlen]), if_neg (by simp only [hc, hst, hne, hmay]; simp), startCommit_of_ok hcheck hphases]
    rfl

/-- Settles O15: a switch of images starts under its conditions, and a trial ends by command or by time. -/
theorem firmwareCommandsAct : Obligations.FirmwareCommandsAct := by
  refine ⟨?activate, ?rollback, ?confirm, ?expire⟩
  case activate =>
    refine accepts_of fwActivateBody (fun _ _ => rfl) fun cls tk pl s ⟨hlen, hmay, hc⟩ => ?_
    unfold fwActivateBody
    dsimp only
    rw [if_neg (by simp [hlen]), if_neg]
    obtain h | h | ⟨hp, hr⟩ := hc
    · simp [hmay, h]
    · simp [hmay, h]
    · simp [hmay, hp, hr]
  case rollback =>
    exact accepts_of fwRollbackBody (fun _ _ => rfl) fun cls tk pl s ⟨hlen, hmay, hc⟩ => by simp [fwRollbackBody, hlen, hmay, hc]
  case confirm =>
    refine acceptsNow_of fwConfirmBody (fun _ _ => rfl) fun cls tk pl s ⟨hpl, ht, hm⟩ => ?_
    subst hpl
    simp [fwConfirmBody, ht, hm]
  case expire =>
    intro t a s ⟨ha, halive, ht, hm, hold⟩
    change execFwTrialExpire t s = _
    simp [execFwTrialExpire, ha, halive, ht, hm, hold]

/-- Settles O16: three commands of the partition share one form, and TOLL_LOG_READ marks what it returns. -/
theorem tollCommandsAct : Obligations.TollCommandsAct := by
  refine ⟨?sealing, ?unsealing, ?clear, ?read⟩
  case sealing =>
    exact accepts_of (tollCommand State.maySeal sealPartition) (fun _ _ => rfl) fun cls tk pl s ⟨hlen, hc, hmay⟩ =>
      tollCommand_of_ok hlen hc hmay
  case unsealing =>
    refine accepts_of (tollCommand (fun s => s.tollOwns && s.toll.switchOpen) unsealPartition) (fun _ _ => rfl)
      fun cls tk pl s ⟨hlen, hc, hst, hsw⟩ => tollCommand_of_ok hlen hc ?_
    obtain h | h := hst <;> simp [State.tollOwns, h, hsw]
  case clear =>
    exact accepts_of (tollCommand (fun s => decide (s.toll.state = .unsealed) && s.toll.allRead) clearLog) (fun _ _ => rfl)
      fun cls tk pl s ⟨hlen, hc, hst, hr⟩ => tollCommand_of_ok hlen hc (by simp [hst, hr])
  case read =>
    refine serves_of tollLogReadBody (fun _ _ => rfl) fun tk pl s ⟨hlen, hn, hmax, hst⟩ => ⟨_, ?_, rfl, rfl⟩
    unfold tollLogReadBody
    dsimp only
    rw [if_neg (by simp [hlen, hmax, Nat.one_le_iff_ne_zero.1 hn]), if_neg hst]

/-- Settles O17: the session's commands, the counters, the packets that are due and the trace's own records. -/
theorem notificationCommandsAct : Obligations.NotificationCommandsAct := by
  refine ⟨?subscribe, ?mask, ?perf, ?notify, ?sync, ?counters⟩
  case subscribe =>
    refine acceptsNow_of ntfSubscribeBody (fun _ _ => rfl) fun cls tk pl s ⟨hlen, hlo, hhi⟩ => ?_
    unfold ntfSubscribeBody
    dsimp only
    rw [if_neg (by simp [hlen, hlo, hhi])]
    rfl
  case mask =>
    refine acceptsNow_of ntfMaskBody (fun _ _ => rfl) fun cls tk pl s hlen => ?_
    unfold ntfMaskBody
    dsimp only
    rw [if_neg (by simp [hlen])]
    rfl
  case perf =>
    refine serves_of perfReadBody (fun _ _ => rfl) fun tk pl s ⟨hlen, hn, hmax⟩ => ⟨(takeCounters s).2, ?_, rfl, rfl⟩
    unfold perfReadBody
    dsimp only
    rw [if_neg (by simp [hlen, hmax, Nat.one_le_iff_ne_zero.1 hn])]
  case notify =>
    intro t k s ⟨⟨ha, hm, hs⟩, hdue, hroom⟩
    change execNotifyHoldExpire t k s = _
    unfold execNotifyHoldExpire
    dsimp only
    rw [if_pos]
    obtain h | ⟨hq, hw⟩ := hroom
    · simp [ha, hm, hs, hdue, h]
    · simp [ha, hm, hs, hdue, hq, hw]
  case sync =>
    exact fun t s h => show execTraceSync t s = _ by simp [execTraceSync, h]
  case counters =>
    exact fun t s h => show execTraceCounters t s = _ by simp [execTraceCounters, h]
end

section
/-! Supply, resets, seat, boot and governor (chapters 1 to 3). -/

namespace Sys2Proof.Machine

/-- The pair's decision in BOOT once its time has come (R458). -/
theorem pairDecision_due {d : Micros} {s : State} (h : s.pair.decideAt = some d ∧ s.alive = true ∧ s.nd.mode = .boot ∧
    s.nd.ctrlStopped = false ∧ s.nd.bootPaused = false ∧ d ≤ s.now ∧ s.paired = true) :
    pairDecision s = leaveFor (s.bootRow s.clk.modeReq) s := by
  obtain ⟨hd, ha, hm, hc, hp, hdue, hpair⟩ := h
  simp [pairDecision, hd, ha, hm, hc, hp, Nat.not_lt.2 hdue, hpair]

end Sys2Proof.Machine

open Sys2Proof Sys2Proof.Machine

/-- Settles O18: each row's guard passes the row's own conditions. -/
theorem supplyEventsAct : Obligations.SupplyEventsAct := by
  refine ⟨?overSet, ?overGone, ?warn, ?clearedHold, ?cleared, ?holdExit, ?holdLimit, ?reset, ?resetOff, ?off, ?on, ?onWoken,
    ?lostA, ?lostB, ?back, ?cell, ?backup, ?backupGone⟩
  case overSet =>
    exact fun t sup s ⟨hl, hov, hv⟩ => show execSupplyOvervoltage t true sup s = _ by simp [execSupplyOvervoltage, hl, hov, hv]; rfl
  case overGone =>
    exact fun t sup s ⟨hl, hv⟩ => show execSupplyOvervoltage t false sup s = _ by simp [execSupplyOvervoltage, hl, hv]; rfl
  case warn =>
    intro t sup s ⟨hl, hw, hv, hd⟩
    change execSupplyWarningConfirmed t sup s = _
    unfold execSupplyWarningConfirmed
    dsimp only
    rw [if_neg (by simp [hl, hw, Rat.not_le.2 hv]), if_pos hd]
  case clearedHold =>
    intro t sup low ago s ⟨hl, hw, hv, hm⟩
    change execSupplyWarningCleared t sup low ago s = _
    unfold execSupplyWarningCleared
    dsimp only
    rw [if_neg (by simp [hl, hw, Rat.not_lt.2 hv]), if_pos hm]
  case cleared =>
    intro t sup low ago s ⟨hl, hw, hv, hm⟩
    change execSupplyWarningCleared t sup low ago s = _
    unfold execSupplyWarningCleared
    dsimp only
    rw [if_neg (by simp [hl, hw, Rat.not_lt.2 hv]), if_neg hm]
  case holdExit =>
    intro arms s hc hh
    have h : exec (.holdExit arms) s = execControlCycleBoundary arms s := if_pos (by simp [hc, hh])
    exact ⟨_, h.trans rfl, rfl⟩
  case holdLimit =>
    intro t d s ⟨hd, hm, hover⟩
    change execHoldLimitExpire t s = _
    simp [execHoldLimitExpire, hd, hm, hover]
  case reset =>
    intro t sup low ago s ⟨hv, hr, hl⟩
    change execResetThresholdConfirmed t sup low ago s = _
    unfold execResetThresholdConfirmed
    dsimp only
    rw [if_neg (by simp [Rat.not_le.2 hv, hr]), if_pos hl]
  case resetOff =>
    intro t sup low ago s ⟨hv, hl⟩
    change execResetThresholdConfirmed t sup low ago s = _
    unfold execResetThresholdConfirmed
    dsimp only
    rw [if_neg (by simp [Rat.not_le.2 hv, hl]), if_neg (by simp [hl])]
  case off =>
    intro t r s ⟨hr, hl, hover⟩
    change execLogicDomainOff t s = _
    simp [execLogicDomainOff, hr, hl, hover]
  case on =>
    intro t sup pins lost s ⟨hl, hr, hv, hc⟩
    change execResetThresholdCleared t sup pins lost s = _
    unfold execResetThresholdCleared
    dsimp only
    rw [if_neg (by simp [hl, hr, Rat.not_lt.2 hv]), if_pos (by simpa using hc)]
  case onWoken =>
    intro t sup pins lost s ⟨hl, hr, hv, hf, hw, hwoken⟩
    change execResetThresholdCleared t sup pins lost s = _
    unfold execResetThresholdCleared
    dsimp only
    rw [if_neg (by simp [hl, hr, Rat.not_lt.2 hv]), if_neg (by simp [hf, Option.isSome_iff_ne_none.1 hw]), if_pos hwoken]
  case lostA =>
    exact fun t v s ⟨hl, hw, hv⟩ => show execInputLost t false true v s = _ by simp [execInputLost, hl, hw, hv]
  case lostB =>
    exact fun t v s ⟨hl, hw, hv⟩ => show execInputLost t true true v s = _ by simp [execInputLost, hl, hw, hv]
  case back =>
    exact fun t v s ⟨hl, hw, hv⟩ => show execInputLost t true false v s = _ by simp [execInputLost, hl, hw, hv]
  case cell =>
    intro t v vRes s ⟨ha, hd, hc, h1, h2⟩
    change execCellTest t v vRes s = _
    have hpresent : decide (v ≤ 1) = false := decide_eq_false (Rat.not_le.2 h1)
    unfold execCellTest
    simp only [hpresent]
    rw [if_neg (by simp [ha, hd]), if_neg (by simp), if_pos (by simp [h2, hc])]
    simp [h2]
  case backup =>
    exact fun t v s ⟨hb, hv⟩ => show execBackupLow t true v s = _ by simp [execBackupLow, hb, hv]
  case backupGone =>
    exact fun t v s ⟨hb, hv⟩ => show execBackupLow t false v s = _ by simp [execBackupLow, hb, hv]

/-- Settles O19: each row's guard passes the row's own conditions. -/
theorem resetEventsAct : Obligations.ResetEventsAct := by
  refine ⟨?low, ?lowWake, ?short, ?rise, ?stuck, ?unstuck, ?lockstep, ?fault, ?window, ?clock, ?rail, ?wake, ?wakeLow⟩
  case low =>
    exact fun t v s ⟨hn, hs, hl⟩ => show execNresetAssert ⟨t, v⟩ s = _ by simp [execNresetAssert, hn, hs, hl]; rfl
  case lowWake =>
    intro t v s ⟨hn, hs, hl, hw, hr, hv⟩
    change execNresetAssert ⟨t, v⟩ s = _
    unfold execNresetAssert
    dsimp only
    rw [if_neg (by simp [hn]), if_neg (by simp [hs]), if_neg (by simp [hl]), if_pos hw]
    exact congrArg _ (if_neg (by simp [State.modNd, hr, Rat.not_lt.2 hv]))
  case short =>
    exact fun t s ⟨hl, hn⟩ => show execNresetShort t s = _ by simp [execNresetShort, hl, hn]
  case rise =>
    exact fun t s hn => show execNresetRelease t s = _ by simp [execNresetRelease, hn]
  case stuck =>
    exact fun t s ⟨hl, hn, hs, hd⟩ => show execNresetStuck t s = _ by simp [execNresetStuck, hl, hn, hs, Nat.not_lt.2 hd]
  case unstuck =>
    exact fun t s ⟨hl, hn, hs, hd⟩ => show execNresetStuckClear t s = _ by simp [execNresetStuckClear, hl, hn, hs, Nat.not_lt.2 hd]
  case lockstep =>
    exact fun t s ⟨ha, hc⟩ => show execLockstepMismatch t s = _ by simp [execLockstepMismatch, ha, hc]
  case fault =>
    exact fun t s ⟨ha, hc⟩ => show execControlPlaneFault t s = _ by simp [execControlPlaneFault, ha, hc]
  case window =>
    exact fun t w s ⟨hw, hd⟩ => show execCtrlWindowExpire t s = _ by simp [execCtrlWindowExpire, hw, hd]
  case clock =>
    exact fun t s hl => if_pos hl
  case rail =>
    exact fun t s ⟨hl, hr⟩ => if_pos (by simp [hl, hr])
  case wake =>
    intro t v w s ⟨hw, hl, h0, hd, hr, hv⟩
    change execDormantWake ⟨t, v⟩ s = _
    simp [execDormantWake, wakeUp, hw, hl, h0, hd, hr, Rat.not_lt.2 hv]
  case wakeLow =>
    intro t v w s ⟨hw, hl, h0, hd, hr⟩
    change execDormantWake ⟨t, v⟩ s = _
    simp [execDormantWake, wakeUp, hw, hl, h0, hd, hr]
/-- Settles O20: each row's guard passes the row's own conditions. -/
theorem seatAndBootEventsAct : Obligations.SeatAndBootEventsAct := by
  refine ⟨?opens, ?staged, ?closes, ?solo, ?paired, ?decide, ?redecide, ?thermal, ?governor, ?identity, ?strap⟩
  case opens =>
    intro t s ⟨ho, ha⟩
    change execSeatContactOpen t s = _
    unfold execSeatContactOpen
    dsimp only
    rw [if_neg (by simp [ho]), if_neg (by simp [ha])]
    rfl
  case staged =>
    intro t s ⟨hw, hu, hd⟩
    change execWithdrawStagingDone t s = _
    exact if_neg (by simp [hw, hu, hd])
  case closes =>
    intro t pins s ⟨ho, hl⟩
    change execSeatContactClose t pins s = _
    unfold execSeatContactClose
    dsimp only
    rw [if_neg (by simp [ho]), if_neg]
    obtain h | h := hl <;> simp [h]
  case solo =>
    intro t img0 img1 toll s ⟨ha, hm, hc, hp, hd, hk, hi, hpair⟩
    change execBootDecision t true img0 img1 toll s = _
    unfold execBootDecision
    dsimp only
    rw [if_neg (by simp [ha, hm, hc, hp, hd]), decide_eq_false hk]
    simp only [Bool.false_eq_true, if_false, hi, hpair]
    rfl
  case paired =>
    intro t img0 img1 toll s ⟨ha, hm, hc, hp, hd, hk, hi, hpair⟩
    change execBootDecision t true img0 img1 toll s = _
    unfold execBootDecision
    dsimp only
    rw [if_neg (by simp [ha, hm, hc, hp, hd]), decide_eq_false hk]
    simp only [Bool.false_eq_true, if_false, hi, hpair]
    rfl
  case decide =>
    exact fun t d s h => congrArg Host.Outcome.next (pairDecision_due h)
  case redecide =>
    exact fun t d s h => congrArg Host.Outcome.next (pairDecision_due h)
  case thermal =>
    exact fun t tF s ⟨ha, hm, ht⟩ => show execThermalTrip t tF s = _ by simp [execThermalTrip, ha, hm, Rat.not_le.2 ht]
  case governor =>
    intro t drawn tF loss pBay s ⟨hl, hp, ha, hm, hd, hb⟩
    change execGovernorTick t drawn tF loss pBay s = _
    unfold execGovernorTick
    dsimp only
    rw [if_neg (by simp [hl, hp]), if_neg (by simp [ha, hm, hd]), if_pos hb]
    simp only [decide_eq_true_eq]
  case identity =>
    intro t slot posB pres s ⟨ha, hd⟩
    change execIdentityScan t slot posB pres s = _
    unfold execIdentityScan
    dsimp only
    rw [if_neg (by simp [ha]), if_neg (by obtain hd | hd := hd <;> simp [hd])]
  case strap =>
    intro t b tied s ⟨hd, ha⟩
    change execStrapChange t b tied s = _
    simp [execStrapChange, hd, ha]
end

section
/-! Cycles, sweeps, Hopper Bell ticks, panels and stalls (chapters 1, 10, 11). -/

namespace Sys2Proof.Machine

/-- An event that is a sweep in which something comes about. -/
theorem sweeps_of {i : Micros → Instr} {names : State → Prop} (want : State → Bool)
    (hrow : ∀ t s, exec (i t) s = sweepIf t want s) (hwant : ∀ x, names x → want x = true) : Sweeps i names := by
  intro t s ⟨hdue, hnames⟩
  rw [hrow]
  have hdo : ((s.begin t).atSweep.sweepDue && want (s.begin t).atSweep) = true := by simp [hdue, hwant _ hnames]
  exact if_pos hdo

/-- An event that is a Hopper Bell tick in which something comes about. -/
theorem ticks_of {i : Micros → Instr} {names : State → Prop} (want : State → Bool)
    (hrow : ∀ t s, exec (i t) s = tickIf t want s) (hwant : ∀ x, names x → want x = true) : Ticks i names := by
  intro t s ⟨hdue, hnames⟩
  rw [hrow]
  exact if_pos (by simp [hdue, hwant _ hnames])

theorem stageTick_ticks {i : Micros → Instr} {a b : Stage} (hrow : ∀ t s, exec (i t) s = stageTick t a b s) :
    Ticks i (fun x => x.bell.stage = a ∧ x.afterTick.stage = b) :=
  ticks_of (fun x => decide (x.bell.stage = a) && decide (x.afterTick.stage = b)) hrow fun x ⟨ha, hb⟩ => by simp [ha, hb]

theorem keyTick_ticks {k : Fin 64} {key : Key} {i : Micros → Instr} (hrow : ∀ t s, exec (i t) s = keyTick t k key s)
    (e : KeyEvent) : Ticks i (fun x => (x.panel k).key = some e ∧ e.key = key) :=
  ticks_of (fun x => match (x.panel k).key with | some e => decide (e.key = key) | none => false) hrow
    fun x ⟨he, hk⟩ => by simp [he, hk]

theorem sourceRecord_calm (old : ClkSource) (locked : Bool) (s : State) : (sourceRecord old locked s).calm = s.calm := by
  unfold sourceRecord
  split
  · rfl
  · exact submit_calm ..

theorem toll_of_calm {a b : State} (h : a.calm = b.calm) : a.toll = b.toll := (congrArg State.toll h :)

theorem setStall_toll (part : Nat) (b : Bool) (s : State) : (setStall part b s).toll = s.toll :=
  (toll_of_calm ((sysUpdate_calm _).trans (sourceRecord_calm ..))).trans ((toll_of_calm (submit_calm ..)).trans rfl)

/-! The end of a frame leaves the window and the setup of its panel. -/

theorem frameEnd_inWindow (busB : Bool) (w : PanelWait) (s : State) : (frameEnd busB s).inWindow busB w = s.inWindow busB w := rfl

theorem frameEnd_slotField (busB : Bool) (k i : Nat) (s : State) : (frameEnd busB s).slotField k i = s.slotField k i := rfl

/-- A reply that a waiting poll takes up ends the frame first. -/
theorem execPanelReply_eq {t : Nat} {busB : Bool} {w : PanelWait} {s : State} (bs : List Byte) (hp : (s.begin t).polls = true)
    (hw : (s.begin t).bell.wait busB = some w) :
    exec (.panelReply t busB bs) s = .next (takeReply busB w bs (frameEnd busB (s.begin t))) := by
  change execPanelReply t busB bs s = _
  simp [execPanelReply, hp, hw]

end Sys2Proof.Machine

open Sys2Proof Sys2Proof.Machine

/-- Settles O21: sweeps share one row, and the others pass their own conditions. -/
theorem cyclesAndSweepsRun : Obligations.CyclesAndSweepsRun := by
  refine ⟨?cycle, ?overrun, sweeps_of _ (fun _ _ => rfl) fun _ _ => rfl, ?on, ?off, ?shelve, ?block, ?abandon, ?freeze, ?ring⟩
  case cycle =>
    exact fun arms s h => show execControlCycleBoundary arms s = _ by simp [execControlCycleBoundary, h]
  case overrun =>
    exact fun s h => show execCycleOverrun s = _ by simp [execCycleOverrun, h]
  case on =>
    exact fun p => sweeps_of (fun x => !(x.pt p).active && (x.afterSweep p).active) (fun _ _ => rfl) fun x ⟨ha, hb⟩ => by simp [ha, hb]
  case off =>
    exact fun p => sweeps_of (fun x => (x.pt p).active && !(x.afterSweep p).active) (fun _ _ => rfl) fun x ⟨ha, hb⟩ => by simp [ha, hb]
  case shelve =>
    exact fun p => sweeps_of (fun x => decide ((x.pt p).shelveLeft = 1) && decide ((x.afterSweep p).shelveLeft = 0)) (fun _ _ => rfl)
      fun x ⟨ha, hb⟩ => by simp [ha, hb]
  case block =>
    exact fun p => sweeps_of (fun x => (x.pt p).blocked && !(x.afterSweep p).blocked) (fun _ _ => rfl)
      fun x ⟨ha, hb⟩ => by simp [ha, hb]
  case abandon =>
    exact fun t s h => if_pos (show (s.begin t).atSweep.sweepDue = true from h)
  case freeze =>
    intro t s ⟨ha, hh, hm, hf, hd, hc⟩
    change execFreezeLimit t s = _
    unfold execFreezeLimit
    dsimp only
    rw [if_neg (by simp [ha, hh, hm, hf, hd]), hc]
  case ring =>
    exact fun s h => show execRingCycle s = _ by simp [execRingCycle, h]

/-- Settles O22: every one of these rows is the tick that is due. -/
theorem bellTicksRun : Obligations.BellTicksRun := by
  refine ⟨ticks_of _ (fun _ _ => rfl) fun _ _ => rfl, stageTick_ticks fun _ _ => rfl, stageTick_ticks fun _ _ => rfl,
    stageTick_ticks fun _ _ => rfl, ?prewarn, ?expired, ?roster, ?override, fun k => keyTick_ticks fun _ _ => rfl,
    fun k => keyTick_ticks fun _ _ => rfl, fun k => keyTick_ticks fun _ _ => rfl, fun k => keyTick_ticks fun _ _ => rfl,
    fun k => keyTick_ticks fun _ _ => rfl, fun k => keyTick_ticks fun _ _ => rfl, fun k => keyTick_ticks fun _ _ => rfl,
    fun k => keyTick_ticks fun _ _ => rfl⟩
  case prewarn =>
    exact ticks_of (fun x => decide (x.bell.dm = .armed) && decide (x.afterTick.dm = .prewarn)) (fun _ _ => rfl)
      fun x ⟨ha, hb⟩ => by simp [ha, hb]
  case expired =>
    exact ticks_of (fun x => decide (x.bell.dm ≠ .expired) && decide (x.afterTick.dm = .expired)) (fun _ _ => rfl)
      fun x ⟨ha, hb⟩ => by simp [ha, hb]
  case roster =>
    exact ticks_of (fun x => x.bell.duty != x.afterTick.duty) (fun _ _ => rfl) fun x h => by simpa using h
  case override =>
    exact ticks_of (fun x => x.bell.overrideUntil.isSome && x.afterTick.overrideUntil.isNone) (fun _ _ => rfl)
      fun x ⟨ha, hb⟩ => by simp [ha, hb]

/-- Settles O23: panels answer in their window or fail the poll; a stalled part is declared once its time has passed. -/
theorem panelsAndStallsAct : Obligations.PanelsAndStallsAct := by
  refine ⟨?poll, ?good, ?wrong, ?bad, ?timeout, ?copy, ?send, ?ctrl, ?fabric, ?data, ?mgmt, ?toll, ?sync⟩
  case poll =>
    intro t busB k s ⟨hp, hw, hg, hk⟩
    change execPanelPoll t busB s = _
    unfold execPanelPoll
    dsimp only
    rw [if_neg (by simp [hp, hw, hg]), hk]
  case good =>
    intro t busB bs w s ⟨hp, hw, hin, hgood, hclass⟩
    rw [execPanelReply_eq bs hp hw, takeReply, frameEnd_inWindow, frameEnd_slotField, frameEnd_slotField,
      if_neg (by simp [hin, hgood]), if_neg (by simp [hclass])]
  case wrong =>
    intro t busB bs w s ⟨hp, hw, hin, hgood, hclass⟩
    rw [execPanelReply_eq bs hp hw, takeReply, frameEnd_inWindow, frameEnd_slotField, frameEnd_slotField,
      if_neg (by simp [hin, hgood]), if_pos (by simp [hclass])]
  case bad =>
    intro t busB bs w s ⟨hp, hw, h⟩
    rw [execPanelReply_eq bs hp hw, takeReply, frameEnd_inWindow, frameEnd_slotField, if_pos]
    obtain h | h := h <;> simp [h]
  case timeout =>
    exact fun t busB w s ⟨hw, hm, hd⟩ => show execPanelReplyTimeout t busB s = _ by simp [execPanelReplyTimeout, hw, hm, hd]
  case copy =>
    exact fun t m s ⟨ha, hp, hd⟩ => show execHbStateSync t m s = _ by simp [execHbStateSync, ha, hp, hd]
  case send =>
    exact fun t m s ⟨ha, hp, hd, hdue⟩ => show execHbStateSync t m s = _ by simp [execHbStateSync, ha, hp, hd, hdue]
  case ctrl =>
    exact fun t s ⟨ha, hm, hc, hd⟩ => show execCtrlStall t s = _ by
      unfold execCtrlStall
      dsimp only
      rw [if_neg (by simp only [ha, hm, hc, Nat.not_lt.2 hd]; simp)]
  case fabric =>
    exact fun t s ⟨ha, hc, hu, hd⟩ => show execFabricStall t s = _ by
      unfold execFabricStall
      dsimp only
      rw [if_neg (by simp only [ha, hc, Nat.not_lt.2 hd]; simpa using hu)]
  case data =>
    intro t bus s ⟨hl, hs, hc⟩
    change execDataStall ⟨t, bus⟩ s = _
    unfold execDataStall
    dsimp only
    rw [if_neg]
    obtain h | h := hc
    · simp [hl, hs, h]
    · simp only [hl, hs, h]
      simp
  case mgmt =>
    exact fun t s ⟨hm, hd⟩ => show execMgmtStall t s = _ by
      unfold execMgmtStall
      dsimp only
      rw [if_neg (by simp only [hm, Nat.not_lt.2 hd]; simp)]
  case toll =>
    intro t s ⟨ha, ht, hs, hd, hf⟩
    change execTollStall t s = _
    unfold execTollStall
    dsimp only
    rw [if_neg (by simp only [ha, hs, hd]; simpa using ht), if_pos (setStall_toll 3 true (s.begin t) ▸ hf)]
  case sync =>
    intro t b s ⟨hr, hg, hs, hd⟩
    change execSsTimeoutExpire t b s = _
    unfold execSsTimeoutExpire
    dsimp only
    rw [if_neg (by simp only [hr, hs, Nat.not_lt.2 hd]; simp), if_neg (by simp [hg])]
end

section
/-! The measurement chain and supervision (chapters 5 and 6). -/

namespace Sys2Proof.Machine

/-- CONVERSION_END begins by noting that the channel was awake for a sample of its filter. -/
def State.noted (n : Nat) (x : State) : State :=
  if (x.subFn n).filtered && (x.converting n || x.underWay n) && !x.dropped n then noteAwake n (x.sampleTime n) x else x

theorem noted_of_filtered {n : Nat} {x : State} (hf : (x.subFn n).filtered = true) (hc : (x.converting n || x.underWay n) = true) :
    x.noted n = if x.dropped n then x else noteAwake n (x.sampleTime n) x := by
  unfold State.noted
  cases hd : x.dropped n <;> simp [hf, hc]

theorem noted_of_not_filtered {n : Nat} {x : State} (hf : (x.subFn n).filtered = false) : x.noted n = x := by
  simp [State.noted, hf]

theorem noteAwake_nextEnd (n len : Nat) (x : State) : ((noteAwake n len x).ch n).nextEnd = (x.ch n).nextEnd := by
  rw [noteAwake, State.modCh_same]
  split <;> rfl

theorem noteAwake_calLine (n len : Nat) (x : State) : (noteAwake n len x).calLine n = x.calLine n := by
  have h : ((noteAwake n len x).ch n).calOld = (x.ch n).calOld := by
    rw [noteAwake, State.modCh_same]
    split <;> rfl
  have hof : (noteAwake n len x).calOf n = x.calOf n := by
    unfold State.calOf
    rw [h]
    rfl
  funext k v
  simp only [State.calLine, State.calChan, hof]

theorem noteAwake_underWay (n len : Nat) (x : State) : (noteAwake n len x).underWay n = x.underWay n := by
  have h := noteAwake_nextEnd n len x
  have hrun : (noteAwake n len x).running n = x.running n := rfl
  have hnd : (noteAwake n len x).nd = x.nd := rfl
  have hrate : (noteAwake n len x).rate n = x.rate n := rfl
  simp only [State.underWay, h, hrun, hnd, hrate]

/-- What noting the channel awake leaves as it is, so that the row goes on as it began. -/
theorem noted_keeps (n : Nat) (x : State) :
    (x.noted n).fn n = x.fn n ∧ (x.noted n).subFn n = x.subFn n ∧ (x.noted n).alive = x.alive ∧
      ((x.noted n).converting n || (x.noted n).underWay n) = (x.converting n || x.underWay n) ∧
      (x.noted n).ownReadings = x.ownReadings ∧ (x.noted n).node = x.node ∧ ((x.noted n).ch n).nextEnd = (x.ch n).nextEnd ∧
      (x.noted n).calLine n = x.calLine n := by
  unfold State.noted
  split
  · exact ⟨rfl, rfl, rfl, congrArg _ (noteAwake_underWay ..), rfl, rfl, noteAwake_nextEnd .., noteAwake_calLine ..⟩
  · exact ⟨rfl, rfl, rfl, rfl, rfl, rfl, rfl, rfl⟩

/-- The row of a conversion that ends, on the state in which the channel has been noted. -/
theorem execConversionEnd_eq (t : Nat) (n : Chan) (v v2 : Rat) (raws : List Rat) (pip : Option Rat) (cm : Inputs) (s : State) :
    exec (.conversionEnd t n v v2 raws pip cm) s =
      (let s := (s.begin t).noted n
       if !s.alive || !(s.converting n || s.underWay n) then .next s
       else if (s.subFn n).converts then .next (if s.ownReadings then inputConversion n v v2 raws pip cm s else s)
       else if s.fn n == .iout || s.fn n == .vout then
         .next (if s.node < (s.ch n).nextEnd then s
           else formReadback n (s.calLine n (if s.fn n == .iout then 160 else 168) v) s)
       else if (s.fn n).repeater then .next (formReadback n v s)
       else .next s) := rfl

theorem subFn_of_fn {n : Nat} {x : State} {f : Fn} (h : x.fn n = f) (hf : f ≠ .laneIn) : x.subFn n = f := by
  have h : fnIn x.cfg.inForce n = f := h
  unfold State.subFn subFnIn
  rw [h]
  cases f <;> first | rfl | exact absurd rfl hf

theorem not_lacks {a b : Bool} (ha : a = true) (hb : b = true) : ¬ (!a || !b) = true := by simp [ha, hb]

/-- The reference check of channel n is the first of its bay, and the measuring path is free (R146). -/
theorem refFirst {n : Chan} {d : Micros} {x : State}
    (h : ∀ m ∈ bayChans (bayOf n), m ≠ n → ∀ e, x.refReady m = some e → d < e ∨ d = e ∧ (n : Nat) < m) :
    ((bayChans (bayOf n)).all fun m => m == (n : Nat) ||
      (match x.refReady m with | some u => decide (d < u) || (d == u && decide ((n : Nat) < m)) | none => true)) = true := by
  rw [List.all_eq_true]
  intro m hm
  by_cases hmn : m = n
  · simp [hmn]
  · cases hr : x.refReady m with
    | none => simp
    | some e =>
      obtain hlt | ⟨heq, hlt⟩ := h m hm hmn e hr
      · simp [hlt]
      · simp [heq, hlt]

end Sys2Proof.Machine

open Sys2Proof Sys2Proof.Machine

/-- Settles O24: the rows of the chain pass their own conditions. -/
theorem measurementEventsAct : Obligations.MeasurementEventsAct := by
  refine ⟨?input, ?iout, ?vout, ?repeater, ?ref, ?lead, ?check, ?checkDone, ?burstTrip, ?trip, ?scan⟩
  case input =>
    intro t n v v2 raws pip cm s ⟨ha, hc, hf, ho⟩
    obtain ⟨-, kf, ka, kc, ko, -, -, -⟩ := noted_keeps n (s.begin t)
    rw [execConversionEnd_eq]
    dsimp only
    rw [← noted_of_filtered (by simp [Fn.filtered, hf]) hc, ka, kc, kf, ko, if_neg (by simp [ha, hc]), if_pos hf, if_pos ho]
  case iout =>
    intro t n v v2 raws pip cm s ⟨ha, hc, hf, he⟩
    obtain ⟨kfn, kf, ka, kc, -, kn, ke, kl⟩ := noted_keeps n (s.begin t)
    have hsub := subFn_of_fn hf (by decide)
    rw [execConversionEnd_eq]
    dsimp only
    rw [← noted_of_filtered (by simp [hsub, Fn.filtered]) hc, ka, kc, kf, kfn, kn, ke, kl, if_neg (by simp [ha, hc]), hsub, hf, if_neg (by decide), if_pos (by decide),
      if_neg (Nat.not_lt.2 he), if_pos (by decide)]
  case vout =>
    intro t n v v2 raws pip cm s ⟨ha, hc, hf, he⟩
    obtain ⟨kfn, kf, ka, kc, -, kn, ke, kl⟩ := noted_keeps n (s.begin t)
    have hsub := subFn_of_fn hf (by decide)
    rw [execConversionEnd_eq]
    dsimp only
    rw [← noted_of_filtered (by simp [hsub, Fn.filtered]) hc, ka, kc, kf, kfn, kn, ke, kl, if_neg (by simp [ha, hc]), hsub, hf, if_neg (by decide), if_pos (by decide),
      if_neg (Nat.not_lt.2 he), if_neg (by decide)]
  case repeater =>
    intro t n v v2 raws pip cm s ⟨ha, hc, hf⟩
    have hsub : (s.begin t).subFn n = (s.begin t).fn n := subFn_of_fn rfl fun h => by simp [h, Fn.repeater] at hf
    have hno : ((s.begin t).fn n).converts = false ∧ ((s.begin t).fn n == .iout || (s.begin t).fn n == .vout) = false := by
      cases h : (s.begin t).fn n <;> simp [h, Fn.repeater] at hf <;> exact ⟨rfl, rfl⟩
    have hout : ((s.begin t).subFn n).filtered = false := by
      rw [hsub, Fn.filtered, Bool.or_assoc, hno.1, hno.2]
      rfl
    rw [execConversionEnd_eq, noted_of_not_filtered hout]
    dsimp only
    rw [if_neg (by simp [ha, hc]), if_neg (by simp [hsub, hno.1]), if_neg (by simp [hno.2]), if_pos hf]
  case ref =>
    intro t n v1 v2 d s ⟨hd, hfirst, hfree⟩
    have hf : (match ((s.begin t).bay (bayOf n)).refUser with
        | some (_, e) => decide (e + 2200 ≤ (s.begin t).node) | none => true) = true := by
      cases hu : ((s.begin t).bay (bayOf n)).refUser with
      | none => rfl
      | some ue => exact decide_eq_true (hfree ue.1 ue.2 hu)
    change execRefCheck t n v1 v2 s = _
    unfold execRefCheck
    simp only [hd]
    exact if_neg (not_lacks hf (refFirst hfirst))
  case lead =>
    intro t n v d g s ⟨hd, hslot, hdg, hl, hc, hg, hs, ha, hw⟩
    change execLeadConversion t n v s = _
    unfold execLeadConversion
    simp only [hd, hslot]
    rw [if_neg (by simp [hdg, hl, hc, hg, hs, ha, hw])]
  case check =>
    intro t n d g len s ⟨hd, hlen, hslot, hdg, hch, hsup, hr, hm, hg, ht, hw, ha⟩
    subst hlen
    change execImpedanceCheck t n s = _
    unfold execImpedanceCheck
    simp only [hd, hslot]
    rw [if_neg (by simp [hdg, hch, hsup, hr, hm, hg, ht, hw, ha])]
  case checkDone =>
    intro t n f1 f2 f3 g1 g3 c s ⟨hc, he, htk⟩
    change execImpedanceCheckDone t n f1 f2 f3 g1 g3 s = _
    unfold execImpedanceCheckDone
    simp only [hc, htk]
    rw [if_neg (Nat.not_lt.2 he)]
    rfl
  case burstTrip =>
    intro t n s ⟨hs, hb⟩
    change execComplianceTrip t n s = _
    simp [execComplianceTrip, hs, hb]
  case trip =>
    intro t n s h
    change execComplianceTrip t n s = _
    unfold execComplianceTrip
    obtain ⟨hs, hb⟩ | ⟨hs, hl⟩ := h
    · simp [hs, hb]
    · simp [hs, hl]
  case scan =>
    intro t b v sensor s ⟨hv, hr⟩
    change execTerminalMonitorScan t b v sensor s = _
    unfold execTerminalMonitorScan
    dsimp only
    rw [if_neg (by simp [hv]), if_neg (by simp [hr])]
end

section
/-! Protection, bays, analog outputs and HART loops (chapters 4 and 7). -/

namespace Sys2Proof.Machine

/-- IOUT_REACH_UPDATE on an output whose current is held. -/
theorem execIoutReachUpdate_held {t : Nat} {n : Chan} {mA v h : Rat} {s : State}
    (hf : ((s.begin t).fn n == .iout && hasBit ((s.begin t).outp n).status 1 && (s.begin t).running n) = true)
    (hh : ((s.begin t).outp n).iHeld = some h) :
    execIoutReachUpdate t n mA v s = .next (setOut n (fun o =>
      { o.reach (s.begin t).draw.2.now o.drive h
          (if mA = 0 || v = 0 then Config.freeRat (s.begin t).draw.1
            else (((s.begin t).bay (bayOf n)).vFs - 21 / 10) * mA / v) with iTerm := mA, vTerm := v }) (s.begin t).draw.2) := by
  simp only [execIoutReachUpdate, hf, hh]

end Sys2Proof.Machine

open Sys2Proof Sys2Proof.Machine

/-- Settles O25: protection, reconnection, start and fault of a bay pass their own conditions. -/
theorem protectionAndBayEventsAct : Obligations.ProtectionAndBayEventsAct := by
  refine ⟨?trip, ?tripOut, ?reconnect, ?reconnectOut, ?start, ?fault, ?faultOnDuty⟩
  case trip =>
    intro t n k v mA s ⟨hr, ho, hw, hin, hout⟩
    change execProtectionTrip t n k v mA s = _
    unfold execProtectionTrip
    dsimp only
    rw [if_neg (by simp only [hr, ho, hw, hin]; decide), if_neg (by simp [hout])]
  case tripOut =>
    intro t n k v mA s ⟨hr, ho, hw, hin, hout, hne⟩
    change execProtectionTrip t n k v mA s = _
    unfold execProtectionTrip
    dsimp only
    rw [if_neg (by simp only [hr, ho, hw, hin]; decide), if_pos (by simp [hout, hne])]
  case reconnect =>
    intro t n s ⟨hr, hm, hi, hv, hout⟩
    change execProtectionReconnect t n s = _
    unfold execProtectionReconnect
    dsimp only
    have hs : ¬ ((restartDigital n (reconnect n (s.begin t))).fn n == .iout ||
        (restartDigital n (reconnect n (s.begin t))).fn n == .vout) = true := by simp [hi, hv]
    rw [if_neg (by simp [hr, hm]), if_neg hs, if_neg (by simp [hout])]
  case reconnectOut =>
    intro t n s ⟨hr, hm, hi, hout⟩
    change execProtectionReconnect t n s = _
    unfold execProtectionReconnect
    dsimp only
    have hs : ((restartDigital n (reconnect n (s.begin t))).fn n == .iout ||
        (restartDigital n (reconnect n (s.begin t))).fn n == .vout) = true := by simp [hi]
    rw [if_neg (by simp [hr, hm]), if_pos hs, if_pos hout]
  case start =>
    intro t b s ⟨hs, hl⟩
    change execBayStart t b s = _
    unfold execBayStart
    dsimp only
    rw [if_neg (by simp [hs, hl])]
  case fault =>
    intro t b s ⟨ha, hs, hd⟩
    change execBayFault t b s = _
    unfold execBayFault
    dsimp only
    rw [if_neg (by obtain hs | hs := hs <;> simp [ha, hs]), if_neg (by simp [hd])]
  case faultOnDuty =>
    intro t b h s ⟨ha, hs, hd, hp, hh, hb, hl⟩
    change execBayFault t b s = _
    unfold execBayFault
    dsimp only
    rw [if_neg (by obtain hs | hs := hs <;> simp [ha, hs]), if_pos (by simp [hd, hp, hh, hb, hl])]

/-- Settles O26: the rows of the outputs and repeaters pass their own conditions. -/
theorem outputEventsAct : Obligations.OutputEventsAct := by
  refine ⟨?rail, ?condition, ?conditionGone, ?reach, ?probe, ?hold, ?timeout, ?stuck⟩
  case rail =>
    intro t n mA v s ⟨hf, hr, hd⟩
    change execRailUpdate t n mA v s = _
    unfold execRailUpdate
    dsimp only
    rw [if_neg (by obtain hf | hf := hf <;> simp [hf, hr, hd])]
  case condition =>
    intro t n k mA v s ⟨hf, hr, hg, ht, hc, hb⟩
    have hfn : (if (k : Nat) < 3 then (s.begin t).fn n == .iout else (s.begin t).fn n == .vout) = true := by
      split at hf <;> simp_all
    change execOutputCondition t n k true mA v s = _
    unfold execOutputCondition
    dsimp only
    rw [if_neg (by simp only [hfn, hr, hg, ht]; decide), if_pos (by simp [hc]), if_neg (by simp [hb])]
  case conditionGone =>
    intro t n k mA v s ⟨hf, hr, hg, ht, hc⟩
    have hfn : (if (k : Nat) < 3 then (s.begin t).fn n == .iout else (s.begin t).fn n == .vout) = true := by
      split at hf <;> simp_all
    change execOutputCondition t n k false mA v s = _
    unfold execOutputCondition
    dsimp only
    rw [if_neg (by simp only [hfn, hr, hg, ht]; decide), if_neg (by simp), if_pos (by simp [hc])]
  case reach =>
    intro t n mA v h s ⟨hf, hb, hr, hh, hm, hv⟩
    refine (execIoutReachUpdate_held (by simp [hf, hb, hr]) hh).trans ?_
    rw [if_neg (by simp [hm, hv])]
    rfl
  case probe =>
    intro t n mA s ⟨hf, hb, hr, h4, h0, hd, hm⟩
    change execOpenLoopProbe t n mA s = _
    unfold execOpenLoopProbe
    dsimp only
    rw [if_neg (by simp [hf, hb, hr, h4, h0, Rat.not_lt.2 hd]), if_pos hm]
  case hold =>
    intro t n f s ⟨hf, hc, hd⟩
    change execSrcHoldExpire t n s = _
    simp only [execSrcHoldExpire, hf]
    rw [if_neg (by simp [hc, hd])]
  case timeout =>
    intro t n s ⟨hc, hl, hs, hd⟩
    change execCmdTimeoutExpire t n s = _
    unfold execCmdTimeoutExpire
    dsimp only
    rw [if_neg (by simp [hc, Nat.mul_eq_zero, hl, hs, hd])]
  case stuck =>
    intro t n stuck held s ⟨hf, hr, hg, hw, ht, ha, hd⟩
    change execRepeaterStuck t n ⟨stuck, held⟩ s = _
    unfold execRepeaterStuck
    dsimp only
    rw [if_neg (by simp [hf, hr, hg, hw, ht, ha, Rat.not_lt.2 hd])]

/-- Settles O27: the rows of the HART loops pass their own conditions. -/
theorem hartEventsAct : Obligations.HartEventsAct := by
  refine ⟨?poll, ?reply, ?again, ?fail, ?tell, ?burst⟩
  case poll =>
    intro t n s ⟨hx, hb⟩
    change execHartPoll t n s = _
    simp [execHartPoll, hx, hb]
  case reply =>
    intro t n a y s ⟨hx, hd⟩
    change execHartReply t n a s = _
    simp only [execHartReply, hx]
    rw [if_neg (Nat.not_lt.2 hd)]
  case again =>
    intro t n bad y s ⟨hx, hd, hm⟩
    change execHartReplyTimeout t n bad s = _
    simp only [execHartReplyTimeout, hx]
    rw [if_neg (Nat.not_lt.2 hd), if_pos hm]
  case fail =>
    intro t n bad y s ⟨hx, hd, hm⟩
    change execHartReplyTimeout t n bad s = _
    simp only [execHartReplyTimeout, hx]
    rw [if_neg (Nat.not_lt.2 hd), if_neg (Nat.not_lt.2 hm)]
  case tell =>
    intro t n a uid s ⟨hm, hd, hr, hg, hc⟩
    change execHartBurstFrame t n ⟨a, uid⟩ s = _
    unfold execHartBurstFrame
    dsimp only
    rw [if_neg (by simp [hm, hd, hr, hg]), if_pos (by simp only [hc]; rfl)]
  case burst =>
    intro t n a uid s ⟨hm, hd, hr, hg, hc, he⟩
    change execHartBurstFrame t n ⟨a, uid⟩ s = _
    unfold execHartBurstFrame
    dsimp only
    rw [if_neg (by simp [hm, hd, hr, hg]), if_neg (by simp only [hc]; decide), if_neg (by simp [he])]
end

section
/-! Digital inputs and outputs, lamps and safety lanes (chapters 8 and 9). -/

namespace Sys2Proof.Machine

theorem tput_tput {α : Type} (k : Nat) (v w : α) (t : Tbl α) : tput k v (tput k w t) = tput k v t := by
  induction t with
  | nil => simp [tput]
  | cons y t ih =>
    obtain ⟨j, u⟩ := y
    obtain h | rfl | h := Nat.lt_trichotomy k j
    · simp [tput, h]
    · simp [tput]
    · simp [tput, Nat.not_lt.2 (Nat.le_of_lt h), Nat.ne_of_gt h, ih]

/-- Two changes of one entry are one change, where the entry does not go back to its default between them. -/
theorem tmod_tmod {α : Type} [DecidableEq α] (d : α) (t : Tbl α) (k : Nat) {f g : α → α} (hf : f (tget d t k) ≠ d)
    (hg : g (f (tget d t k)) ≠ d) : tmod d (tmod d t k f) k g = tmod d t k (fun x => g (f x)) := by
  unfold tmod
  rw [tget_tset_same]
  unfold tset
  dsimp only
  rw [if_neg hg, if_neg hf, if_neg hg, tput_tput]

theorem modLane_modLane {s : State} {l : Nat} {f g : LaneRun → LaneRun} (hf : (f (s.lane l)).state ≠ .off)
    (hg : (g (f (s.lane l))).state ≠ .off) : (s.modLane l f).modLane l g = s.modLane l (fun r => g (f r)) := by
  have h : tmod LaneRun.initial (tmod LaneRun.initial s.field.lane l f) l g = _ :=
    tmod_tmod LaneRun.initial s.field.lane l (fun h => hf (congrArg LaneRun.state h)) (fun h => hg (congrArg LaneRun.state h))
  unfold State.modLane
  dsimp only
  rw [h]

/-- A change of a lamp looks at that lamp only. -/
theorem modLamp_congr {s : State} {n : Nat} {f g : LampRun → LampRun} (h : f (s.lamp n) = g (s.lamp n)) :
    s.modLamp n f = s.modLamp n g := by
  have hm : tmod LampRun.initial s.field.lamp n f = tmod LampRun.initial s.field.lamp n g :=
    congrArg (tset LampRun.initial s.field.lamp n) h
  unfold State.modLamp
  rw [hm]

end Sys2Proof.Machine

open Sys2Proof Sys2Proof.Machine

/-- Settles O28: the rows of the digital inputs, counters and switched outputs pass their own conditions. -/
theorem digitalEventsAct : Obligations.DigitalEventsAct := by
  refine ⟨?sample, ?pulse, ?supplyTrip, ?count, ?freq, ?gate, ?trip, ?lampTrip, ?supplyRetry, ?retry, ?fault, ?demag⟩
  case sample =>
    intro t n v te s ⟨hf, hc, hg, ht, hd, hv, hr, hs⟩
    change execDiSample t n v false s = _
    have hb : (if (diThresholds ((s.begin t).cf .ch n 2)).2 ≤ v then true
        else if v ≤ (diThresholds ((s.begin t).cf .ch n 2)).1 then false else ((s.begin t).dio n).sample) = true := if_pos hv
    have hfn : ((s.begin t).subFn n != .di) = false := by simp [hf]
    simp only [execDiSample, hfn, hc, hg, ht, hd, Bool.not_true, Bool.or_false]
    rw [if_neg Bool.false_ne_true, hb, if_neg (by simp [hr, hs])]
    simp only [hs]
    cases (s.begin t).dioFlag n 2 <;> rfl
  case pulse =>
    intro t n vTA vTB c te s ⟨hf, hc, hg, hd, hl, hr, hcand⟩
    change execDiSupervisionPulse t n vTA vTB s = _
    have hrun : (if ((s.begin t).dio n).lineRun ≠ 0 && decide (((s.begin t).dio n).lineCand = c) then 2 else 1) = 2 :=
      if_pos (by simp [hr, hcand])
    have hfn : (Fn.di != Fn.di || !true || !true) = false := rfl
    simp only [execDiSupervisionPulse, hf, hc, hg, hd, hl]
    rw [hrun, hfn]
    rfl
  case supplyTrip =>
    intro t n s ⟨hf, h4, hr, hg, hs⟩
    change execSensorSupplyTrip t n s = _
    unfold execSensorSupplyTrip
    dsimp only
    rw [if_neg (by obtain hf | hf | hf := hf <;> simp [hf, h4, hr, hg, hs])]
  case count =>
    intro t n rising v held s ⟨hf, hr, ht, he⟩
    change execCntEdge t n ⟨rising, v, held⟩ s = _
    unfold execCntEdge
    dsimp only
    rw [if_neg (by simp [hf, hr, ht, he])]
  case freq =>
    intro t n rising k v held s ⟨hf, hr, ht, he, hk⟩
    change execFrqEdge t n ⟨rising, v, held⟩ k s = _
    unfold execFrqEdge
    dsimp only
    rw [if_neg (by simp [hf, hr, ht, he])]
    exact if_neg (by simp [hk])
  case gate =>
    intro t n s ⟨hf, hr, hd⟩
    change execFrqGateEnd t n s = _
    unfold execFrqGateEnd
    dsimp only
    rw [if_neg (by simp [hf, hr, hd])]
  case trip =>
    intro t n excess mA held s ⟨hf, hr, hg, hs, ht, hl⟩
    change execSwitchTrip t n ⟨excess, mA, held⟩ s = _
    unfold execSwitchTrip
    dsimp only
    rw [if_neg (by simp [hf, hr, hg, hs, ht]), if_neg (by simp [hl])]
  case lampTrip =>
    intro t n excess mA held s ⟨hf, hr, hg, hs, ht, hl⟩
    change execSwitchTrip t n ⟨excess, mA, held⟩ s = _
    unfold execSwitchTrip
    dsimp only
    rw [if_neg (by simp [hf, hr, hg, hs, ht]), if_pos (by simp [hl])]
  case supplyRetry =>
    intro t n s ⟨hr, hg, hm, h4⟩
    change execSwitchRetry t n true s = _
    simp [execSwitchRetry, hr, hg, hm, h4]
  case retry =>
    intro t n s ⟨hr, hg, hf, hm, hd, hl⟩
    change execSwitchRetry t n false s = _
    unfold execSwitchRetry
    dsimp only
    rw [if_neg (by simp [hr, hg]), if_neg Bool.false_ne_true, if_neg (by obtain hd | hd := hd <;> simp [hf, hm, hd]),
      if_neg (by simp [hl])]
  case fault =>
    intro t n ext on mA v s ⟨hf, hc, hg, hd⟩
    change execDoFaultDetect t n ext on mA v s = _
    unfold execDoFaultDetect
    dsimp only
    rw [if_neg (by simp [hf, hc, hg]), if_pos (by simp [hd])]
  case demag =>
    intro t n mJ s ⟨hf, hr⟩
    change execDemagLimit t n mJ s = _
    unfold execDemagLimit
    dsimp only
    rw [if_neg (by simp [hf, hr])]

/-- Settles O29: the rows of the lamps and of the field supply pass their own conditions. -/
theorem lampAndSupplyEventsAct : Obligations.LampAndSupplyEventsAct := by
  refine ⟨?sample, ?cold, ?extV, ?extVGone, ?flash, ?flashFree, ?threshold, ?latchFloor, ?current, ?shed⟩
  case sample =>
    intro t n mA s ⟨hf, hr, hg, hp, hc, hl, hb, hfs, hcl, hlearned⟩
    have hlamp : ((s.begin t).modLamp n fun l => { l with
        iLamp := mA, iExp := (s.begin t).lampExp n, learn := none }) =
        (s.begin t).modLamp n fun l => { l with iLamp := mA, iExp := (s.begin t).lampExp n } :=
      modLamp_congr (by rw [hl])
    change execLampSample t n mA s = _
    simp only [execLampSample, hl, hcl, Option.map_none, hlamp]
    rw [if_neg (by simp [hf, hr, hg, hp, hc]), if_neg (by simp [hb, hfs]), if_neg hlearned]
  case cold =>
    intro t n mA s ⟨hf, hc, hr, hg, hfit, hfs, hd⟩
    change execLampColdTest t n mA s = _
    unfold execLampColdTest
    dsimp only
    rw [if_neg (by simp [hf, hc, hr, hg, hfit, hfs]), if_pos hd]
  case extV =>
    intro t n v s ⟨hf, hr, hd, hv⟩
    change execLampExtV t n v s = _
    unfold execLampExtV
    dsimp only
    rw [if_neg (by simp [hf, hr, hd]), if_pos hv]
  case extVGone =>
    intro t n v s ⟨hf, hr, hd, hv, hs⟩
    change execLampExtV t n v s = _
    unfold execLampExtV
    dsimp only
    rw [if_neg (by simp [hf, hr, hd]), if_neg (Rat.not_le.2 hv), if_pos hs]
  case flash =>
    intro t n s ⟨hf, hd, hg, hp⟩
    change execFlashPhase t n s = _
    unfold execFlashPhase
    dsimp only
    rw [if_neg (by simp [hg, hd]), if_neg (by simp only [hp]; decide), if_pos (by simp [hf])]
  case flashFree =>
    intro t n s ⟨hd, hg, hp⟩
    change execFlashPhase t n s = _
    unfold execFlashPhase
    dsimp only
    rw [if_neg (by simp [hg, hd]), if_pos hp]
  case threshold =>
    intro t b w on v s ⟨hf, hc⟩
    change execFieldSupplyThreshold t b w on v s = _
    unfold execFieldSupplyThreshold
    dsimp only
    rw [if_neg (by simp [hf, hc])]
  case latchFloor =>
    intro t b v s hv
    change execLatchFloorPassed ⟨t, v⟩ b s = _
    unfold execLatchFloorPassed
    dsimp only
    rw [if_neg (Rat.not_le.2 hv)]
  case current =>
    intro t b amps v isOpen loads s ⟨hl, hr, hs⟩
    change execBayCurrentSample t b amps ⟨v, isOpen⟩ loads s = _
    unfold execBayCurrentSample
    dsimp only
    rw [if_neg (by simp [hl]), if_neg (by simp [hr]), if_pos (by simp [hs])]
  case shed =>
    intro t b amps v isOpen loads n y s ⟨hl, hr, hy, hs, hg, hn⟩
    change execBayCurrentSample t b amps ⟨v, isOpen⟩ loads s = .next (shedSwitch n y)
    unfold execBayCurrentSample
    dsimp only
    rw [← hy, if_neg (by simp [hl]), if_neg (by simp [hr]), if_neg (by simp [hs, hg])]
    simp only [hn]

/-- Settles O30: the rows of the lanes pass their own conditions. -/
theorem laneEventsAct : Obligations.LaneEventsAct := by
  refine ⟨?hsWord, ?lsWord, ?lsExpire, ?hsExpire, ?openLoad, ?overload, ?short, ?goodPulse, ?badPulse, ?degrade, ?disc⟩
  case hsWord => exact fun t b flip s hc => if_neg (by simp [hc])
  case lsWord => exact fun t b flip s hc => if_neg (by simp [hc])
  case lsExpire =>
    intro t l s ⟨hs, he, hd⟩
    change execLaneWdExpire t l true s = _
    unfold execLaneWdExpire
    dsimp only
    rw [if_neg (by simp [hs, he, hd]), if_neg hs]
    rfl
  case hsExpire =>
    intro t l s ⟨hs, he, hd⟩
    change execLaneWdExpire t l false s = _
    unfold execLaneWdExpire
    dsimp only
    rw [if_neg (by simp [hs, he, hd]), if_neg hs]
    rfl
  case openLoad =>
    intro t l mA held s ⟨hm, hh, hs, h1, h2⟩
    change execLaneOutputTrip t l ⟨2, mA, held⟩ s = _
    unfold execLaneOutputTrip
    dsimp only
    rw [if_neg (by simp [laneTrips, hm, hh, hs, h1, h2])]
    rfl
  case overload =>
    intro t l mA held s ⟨hm, hh, hs, hc⟩
    change execLaneOutputTrip t l ⟨1, mA, held⟩ s = _
    unfold execLaneOutputTrip
    dsimp only
    rw [if_neg (by obtain hc | hc := hc <;> simp [laneTrips, hm, hh, hs, hc])]
    simp
  case short =>
    intro t l mA held s ⟨hm, hh, hs, hc⟩
    change execLaneOutputTrip t l ⟨0, mA, held⟩ s = _
    unfold execLaneOutputTrip
    dsimp only
    rw [if_neg (by obtain hc | hc := hc <;> simp [laneTrips, hm, hh, hs, hc])]
    simp
  case goodPulse =>
    intro t l v s ⟨hs, hf, h1, h2, hd, hv⟩
    change execLanePulseTest t l v s = _
    unfold execLanePulseTest
    dsimp only
    rw [if_neg (by simp [hs, hf, h1, h2, hd]), if_pos hv, modLane_modLane (by simp [hs]) (by simp [hs])]
  case badPulse =>
    intro t l v s ⟨hs, hf, h1, h2, hd, hv, hp⟩
    change execLanePulseTest t l v s = _
    simp only [execLanePulseTest, hp]
    rw [if_neg (by simp [hs, hf, h1, h2, hd]), if_neg (Rat.not_lt.2 hv)]
    rfl
  case degrade =>
    intro t l s ⟨hs, ho⟩
    change execLaneDegradeExpire t l s = _
    simp [execLaneDegradeExpire, hs, ho]
  case disc =>
    intro t l s hs
    change execLaneDisc t l s = _
    unfold execLaneDisc
    dsimp only
    rw [if_neg hs]
end

section
/-! The Granary, the clock and the frames of a ring (chapters 12 to 14). -/

namespace Sys2Proof.Machine

/-- A freeze that is there ends where its time has come (R362). -/
theorem freezeEnds_ends {t event : Nat} {p : Freeze → State → Bool} {f : Freeze} {s : State} (hf : (s.begin t).grn.freeze = some f)
    (ha : (s.begin t).alive = true) (hp : p f (s.begin t) = true) : freezeEnds t event p s = .next (endFreeze event (s.begin t)) := by
  simp only [freezeEnds, hf]
  rw [if_pos (by simp [ha, hp])]

/-- What LINK_FRAME does on a port in use. -/
theorem execLinkFrame_inUse {t : Nat} {ns : Fin 1000} {p : Port} {f : Frame} {s : State} (hl : (s.begin t).logicOn = true)
    (hd : (s.begin t).nd.dataStalled = false) (h0 : (s.begin t).portState p ≠ .disabled) (h1 : (s.begin t).portState p ≠ .down) :
    execLinkFrame t ns p f s =
      (let y := police p f (if foreignFrame f then (s.begin t).count 20 1 else s.begin t)
       if foreignFrame f then .next y
       else if !f.good then .next (y.modPort p fun x => { x with linkRun := 0, fcsErr := wrap32 (x.fcsErr + 1) })
       else .next (takeLink p (y.stamp ns) f y)) := by
  unfold execLinkFrame
  dsimp only
  rw [if_neg (by simp [hl, hd, h0, h1])]

end Sys2Proof.Machine

open Sys2Proof Sys2Proof.Machine

/-- Settles O31: the rows of the Granary pass their own conditions. -/
theorem granaryEventsAct : Obligations.GranaryEventsAct := by
  refine ⟨?submit, ?pass, ?loss, ?page, ?flush, ?erase, ?floodEnd, ?summary, ?lease, ?limit, ?wear⟩
  case submit =>
    intro t port r rest y z s ⟨ha, hz, hq, hza, hze, hy⟩
    change execGranarySubmit t port s = _
    simp only [execGranarySubmit]
    rw [if_pos ha, ← hz]
    simp only [hq, hza, hze, hy]
    rfl
  case pass =>
    intro t port r rest z s ⟨ha, hz, hq, hza, hze⟩
    change execGranarySubmit t port s = _
    simp only [execGranarySubmit]
    rw [if_pos ha, ← hz]
    simp only [hq, hza, hze]
    rfl
  case loss =>
    intro t port s ha
    change execLossRecord t port s = _
    unfold execLossRecord
    dsimp only
    rw [if_neg (by simp [ha])]
  case page => exact fun t s ⟨hd, hp⟩ => if_pos (by simp [hd, hp])
  case flush =>
    intro t r rs s ⟨hr, hd, hw⟩
    change execGranaryFlush t s = _
    simp only [execGranaryFlush, hr]
    rw [if_pos (by obtain hw | hw := hw <;> simp [hd, hw])]
  case erase => exact fun t s ⟨he, hd⟩ => if_pos (by simp [he, hd])
  case floodEnd =>
    intro t code b s ⟨hb, ha, hf, hat, ht⟩
    change execFloodEnd t code s = _
    simp only [execFloodEnd, hb]
    rw [if_pos (by simp [ha, hf, hat, ht])]
  case summary =>
    intro t code b s ⟨hb, ha, hf, hd⟩
    change execFloodSummary t code s = _
    simp only [execFloodSummary, hb]
    rw [if_pos (by simp [ha, hf, hd])]
  case lease =>
    exact fun t f s ⟨hf, ha, hd⟩ => freezeEnds_ends (p := fun f s => decide (f.lease + 2000000 ≤ s.now)) hf ha (decide_eq_true hd)
  case limit =>
    exact fun t f s ⟨hf, ha, hd⟩ => freezeEnds_ends (p := fun f s => decide (f.began + 60000000 ≤ s.now)) hf ha (decide_eq_true hd)
  case wear =>
    intro t s ⟨ha, hd⟩
    change execWearReport t s = _
    unfold execWearReport
    dsimp only
    rw [if_pos (by simp [ha, hd])]

/-- Settles O32: the rows of the clock and its sources pass their own conditions. -/
theorem timeEventsAct : Obligations.TimeEventsAct := by
  refine ⟨?edge, ?badSentence, ?label, ?timeLoss, ?ringLoss, ?step, ?leap, ?slave, ?osc, ?rangeEnd⟩
  case edge =>
    intro t ns rising s ⟨hl, hd, hr⟩
    change execPpsEdge t ⟨ns, rising⟩ s = _
    unfold execPpsEdge
    dsimp only
    rw [if_neg (by simp [hl, hd, hr])]
  case badSentence =>
    intro t x s ⟨hl, hk, hf, hc⟩
    change execTimeSentence t x s = _
    unfold execTimeSentence
    dsimp only
    rw [if_neg (by simp [hl, hk, hf]), if_pos (by simp [hc])]
  case label =>
    intro t x st label s ⟨hl, hk, hf, hc, hz, hst, hlab, hlo, hhi, hone⟩
    change execTimeSentence t x s = _
    have hst' : ((s.begin t).modClk fun c => { c with senOk := wrap32 (c.senOk + 1) }).clk.ppsStamp = some st := hst
    simp only [execTimeSentence, hst', hlab]
    rw [if_neg (by simp [hl, hk, hf]), if_neg (by simp [hc]), if_neg (by obtain hz | hz := hz <;> simp [hz])]
    refine (if_neg ?_).trans rfl
    simp only [Bool.or_eq_true, decide_eq_true_eq, not_or]
    exact ⟨⟨Nat.not_lt.2 hlo, Nat.not_lt.2 hhi⟩, Bool.eq_false_iff.1 hone⟩
  case timeLoss => exact fun t s ⟨hl, hd⟩ => if_pos (by simp [hl, hd])
  case ringLoss => exact fun t s ⟨hl, hd⟩ => if_pos (by simp [hl, hd])
  case step =>
    intro t s hs
    change execTimeStep t s = _
    unfold execTimeStep
    dsimp only
    rw [if_neg (by simp [Option.isSome_iff_ne_none.1 hs])]
  case leap =>
    intro t s ⟨hl, hd⟩
    change execLeapHold t s = _
    unfold execLeapHold
    dsimp only
    rw [if_neg (by simp [hl, hd])]
  case slave =>
    intro t s ⟨hl, hd, hr, hn⟩
    change execClockSlaveSecond t s = _
    unfold execClockSlaveSecond
    dsimp only
    rw [if_neg (by simp [hl, hd, hr]), if_pos hn]
    rfl
  case osc => exact fun _ _ _ => rfl
  case rangeEnd =>
    intro t s ⟨hl, hr, hp⟩
    have hany : (s.begin t).clk.step.any (·.apply.isSome) = false := by
      cases hs : (s.begin t).clk.step with
      | none => rfl
      | some p => simp [hp p hs]
    change execClockRangeEnd t s = _
    unfold execClockRangeEnd
    dsimp only
    rw [if_pos (by simp [hl, hr, hany])]

/-- Settles O33: a frame received whole and for the first time is taken. -/
theorem framesAreTaken : Obligations.FramesAreTaken := by
  refine ⟨?sync, ?ownSync, ?link, ?badLink, ?foreignLink, ?data, ?poll, ?nil, ?acyc⟩
  case sync =>
    intro t ns p f s ⟨hr, hu⟩
    change execSyncFrame t ns p f s = _
    unfold execSyncFrame
    dsimp only
    rw [if_neg (by simp [hr]), if_neg hu]
  case ownSync =>
    intro t ns p f s ⟨hr, hu⟩
    change execSyncFrame t ns p f s = _
    unfold execSyncFrame
    dsimp only
    rw [if_neg (by simp [hr]), if_pos hu]
  case link =>
    intro t ns p f s ⟨hl, hd, h0, h1, hf, hg⟩
    refine (execLinkFrame_inUse hl hd h0 h1).trans ?_
    simp [hf, hg]
  case badLink =>
    intro t ns p f s ⟨hl, hd, h0, h1, hf, hg⟩
    refine (execLinkFrame_inUse hl hd h0 h1).trans ?_
    simp [hf, hg]
  case foreignLink =>
    intro t ns p f s ⟨hl, hd, h0, h1, hf⟩
    refine (execLinkFrame_inUse hl hd h0 h1).trans ?_
    simp [hf]
  case data =>
    intro t p f s ⟨hr, hu, hn⟩
    change execDataFrame t p f s = _
    unfold execDataFrame
    dsimp only
    rw [if_neg (by simp [hr, hu]), if_neg (by simp [hn])]
  case poll =>
    intro t p f s ⟨hr, hu, hme, hn⟩
    change execPollFrame t p f s = _
    unfold execPollFrame
    dsimp only
    rw [if_neg (by simp [hr, hu]), if_pos (by simp [hn, hme])]
  case nil =>
    intro t p f s ⟨hr, hu, hn⟩
    change execNilFrame t p f s = _
    unfold execNilFrame
    dsimp only
    rw [if_neg (by simp [hr, hu]), if_pos hn]
  case acyc =>
    intro t p f s ⟨hr, hu, hn, hc⟩
    change execAcycFrame t p f s = _
    unfold execAcycFrame
    dsimp only
    rw [if_neg (by simp [hr, hu]), if_neg (by simp [hn]), if_neg (by simp [hc])]
end

section
/-! The ring ports, the pair and the sluice lines (chapters 14 and 15). -/

namespace Sys2Proof.Machine

/-- The first loss of the heartbeat since it was heard. -/
theorem execHeartbeatLoss_fresh {t : Nat} {s : State} (ha : (s.begin t).alive = true) (hp : (s.begin t).paired = true)
    (hf : (s.begin t).pair.lostAt = none) (hr : (s.begin t).nd.resetTime + 2800 ≤ (s.begin t).now)
    (h1 : laneOld (s.begin t).pair.hbPairAt (s.begin t).now = true) (h2 : laneOld (s.begin t).pair.hbPktAt (s.begin t).now = true) :
    execHeartbeatLoss t s =
      (let y := setPairFault 0 true ((s.begin t).modPair fun p =>
        { p with lostAt := some (s.begin t).now, lostAsserted := p.peerLine, offered := none })
       .next (judge (if y.nd.mode = .resync && y.pair.step < 4 then
        (resyncRecord y.pair.step 4 y).modPair fun p => { p with step := 1 } else y))) := by
  simp [execHeartbeatLoss, ha, hp, hf, hr, h1, h2]

/-- A heartbeat lost before the reset, found lost again. -/
theorem execHeartbeatLoss_again {t : Nat} {a : Micros} {s : State} (ha : (s.begin t).alive = true) (hp : (s.begin t).paired = true)
    (hf : (s.begin t).pair.lostAt = some a) (h0 : hasBit (s.begin t).pair.faults 0 = false)
    (hr : (s.begin t).nd.resetTime + 2800 ≤ (s.begin t).now)
    (h1 : laneOld (s.begin t).pair.hbPairAt (s.begin t).now = true) (h2 : laneOld (s.begin t).pair.hbPktAt (s.begin t).now = true) :
    execHeartbeatLoss t s = .next (judge (setPairFault 0 true (s.begin t))) := by
  simp [execHeartbeatLoss, ha, hp, hf, h0, hr, h1, h2]

/-- A loop asserted below 5 mA is open and any loop above 15 mA is shorted, whatever it was (R436). -/
theorem judge_faulty {was : LoopState} {asserted : Bool} {mA : Rat} (h : asserted = true ∧ mA < 5 ∨ 15 < mA) :
    was.judge asserted mA = if mA < 5 then .opened else .shorted := by
  unfold LoopState.judge
  obtain ⟨ha, hm⟩ | hm := h
  · rw [if_neg (Rat.not_lt.2 (Rat.le_trans (Rat.le_of_lt hm) (by decide))), if_pos ha]
    simp [hm]
  · rw [if_pos hm, if_neg (Rat.not_lt.2 (Rat.le_trans (by decide) (Rat.le_of_lt hm)))]

theorem judge_sound {was : LoopState} {mA : Rat} (h5 : 5 ≤ mA) (h15 : mA ≤ 15) : was.judge true mA = .sound := by
  simp [LoopState.judge, Rat.not_lt.2 h5, Rat.not_lt.2 h15]

theorem faulty_of_ite (c : Prop) [Decidable c] : (if c then LoopState.opened else .shorted).faulty = true := by
  split <;> rfl

end Sys2Proof.Machine

open Sys2Proof Sys2Proof.Machine

/-- Settles O34: the rows of the ports and the optics pass their own conditions. -/
theorem portEventsAct : Obligations.PortEventsAct := by
  refine ⟨?reopen, ?silent, ?sync, ?start, ?clash, ?insert, ?refuse, ?remove, ?diag⟩
  case reopen =>
    intro t p s ⟨hc, hd⟩
    change execBabbleReopen t p s = _
    unfold execBabbleReopen
    dsimp only
    rw [if_pos (by simp [hc, hd])]
    cases (s.begin t).port p |>.sync <;> rfl
  case silent =>
    intro t p s ⟨hl, hw, hd⟩
    change execPortSilent t p s = _
    unfold execPortSilent
    dsimp only
    rw [if_pos (by obtain hw | hw := hw <;> simp [hl, hw, hd])]
  case sync =>
    intro t p up s hl
    change execPortSyncLoss t p up s = _
    unfold execPortSyncLoss
    dsimp only
    rw [if_pos hl]
  case start => exact fun t s ⟨ha, hs, hw, hc⟩ => if_pos (by simp [ha, hs, hw, hc])
  case clash =>
    intro t s ⟨hc, hf⟩
    change execAddrClashClear t s = _
    unfold execAddrClashClear
    dsimp only
    rw [if_pos (by simp [hc, hf])]
  case insert =>
    intro t p v w z s hl
    change execSfpInsert t p true v w z s = _
    unfold execSfpInsert
    dsimp only
    rw [if_pos rfl]
    exact congrArg Host.Outcome.next (if_pos hl)
  case refuse =>
    intro t p v w z y s ⟨hy, hl⟩
    have htold : (y.emit (.report (.sfpIdentity p (fit 16 v) (fit 16 w) (fit 16 z)))).logicOn = true := hl
    change execSfpInsert t p false v w z s = _
    unfold execSfpInsert
    dsimp only
    rw [if_neg Bool.false_ne_true, Bool.not_false, ← hy]
    simp only [hl, htold, if_true]
  case remove =>
    intro t p s hl
    change execSfpRemove t p s = _
    unfold execSfpRemove
    dsimp only
    rw [if_neg (by simp [hl])]
  case diag =>
    intro t p d s ⟨hl, hf, hr, he, hd, hdue⟩
    have hdue' : (match (tget Sfp.none (s.begin t).nd.sfp p).diagAt with
        | some a => decide (a + 1000000 ≤ (s.begin t).now) | none => true) = true := by
      cases ha : (tget Sfp.none (s.begin t).nd.sfp p).diagAt with
      | none => rfl
      | some a => exact decide_eq_true (hdue a ha)
    change execSfpDiagPoll t p d s = _
    unfold execSfpDiagPoll
    dsimp only
    rw [if_pos (by simp [hl, hf, hr, he, hd]; exact hdue')]

/-- Settles O35: the rows of the pair's traffic pass their own conditions. -/
theorem pairEventsAct : Obligations.PairEventsAct := by
  refine ⟨?beat, ?lost, ?lostAgain, ?partI, ?partC, ?fallback, ?readback, ?disagree, ?refs, ?image, ?tell, ?pres, ?resync, ?record,
    ?copy⟩
  case beat =>
    intro t pkt h s ⟨ha, hp⟩
    change execHeartbeatRx t pkt h s = _
    simp [execHeartbeatRx, ha, hp]
  case lost => exact fun t s ⟨ha, hp, hf, hr, h1, h2⟩ => execHeartbeatLoss_fresh ha hp hf hr h1 h2
  case lostAgain => exact fun t a s ⟨ha, hp, hf, h0, hr, h1, h2⟩ => execHeartbeatLoss_again ha hp hf h0 hr h1 h2
  case partI =>
    intro t m s ⟨ha, hp, hs, hm, hi⟩
    change execPartIRx t m s = _
    simp only [execPartIRx, hi]
    rw [if_neg (by simp [ha, hp, hs, hm])]
    simp only [decide_eq_true_eq]
  case partC =>
    intro t c s ⟨ha, hp, hs, hm⟩
    change execPartCRx t c s = _
    simp [execPartCRx, ha, hp, hs, hm]
  case fallback =>
    intro t a s ⟨ha, hp, hl, hk, hb, hd⟩
    change execPairLaneFallback t s = _
    simp [execPairLaneFallback, ha, hp, hl, hk, hb, hd]
  case readback =>
    intro t n s ⟨ha, hp, hm, hg, hb, hd⟩
    change execReadbackMismatch t n false s = _
    simp [execReadbackMismatch, ha, hp, hm, hg, hb, hd]
  case disagree =>
    intro t k s ⟨ha, hp, hk, h⟩
    change execDisagree t k s = _
    obtain ⟨hw, hm, hs, hn⟩ | ⟨hm, hn⟩ := h
    · simp [execDisagree, ha, hp, hk, hw, hm, hs, hn]
    · simp [execDisagree, ha, hp, hk, hm, hn]
  case refs =>
    intro t c i s ⟨ha, hp⟩
    change execPairRefCheck t ⟨some (c, i), none⟩ s = _
    simp [execPairRefCheck, ha, hp, takeRefNote]
  case image =>
    intro t i s ⟨ha, hp⟩
    change execPairRefCheck t ⟨none, some i⟩ s = _
    simp [execPairRefCheck, ha, hp, takeRefNote]
  case tell =>
    intro t s ⟨ha, hp⟩
    change execPairRefCheck t ⟨none, none⟩ s = _
    have hn : takeRefNote ⟨none, none⟩ (s.begin t) = s.begin t := rfl
    simp [execPairRefCheck, ha, hp, hn, passImage]
  case pres =>
    intro t s ha
    change execPeerPresOpen t s = _
    simp [execPeerPresOpen, ha]
  case resync =>
    intro t m s ⟨ha, hp, hm, hk⟩
    change execResyncStep t m s = _
    simp [execResyncStep, ha, hp, hm, hk]
  case record =>
    intro t r y s ⟨ha, hp, he, hy⟩
    change execPairRecordRx t r s = _
    simp [execPairRecordRx, ha, hp, he, hy]
  case copy =>
    intro t r s ⟨ha, hp, he, hr⟩
    change execPairRecordRx t r s = _
    simp [execPairRecordRx, ha, hp, he, hr]

/-- Settles O36: the rows of the sluice lines, of takeover and handover pass their own conditions. -/
theorem sluiceEventsAct : Obligations.SluiceEventsAct := by
  refine ⟨?forced, ?held, ?freed, ?yielded, ?reclaim, ?noReclaim, ?shutIn, ?shutInEnds, ?watchdog, ?shutLoop, ?ownLoop, ?shutSound,
    ?ownSound, ?claim, ?timeout, ?released⟩
  case forced =>
    intro t a s ⟨ha, hp, hw, hl, hd, hs, hk, hv⟩
    change execForcedRelease t s = _
    simp [execForcedRelease, ha, hp, hw, hl, hd, hs, hk, hv]
  case held =>
    intro t c s ⟨hc, ha, hp, hs⟩
    change execTakeoverYieldCheck t s = _
    simp [execTakeoverYieldCheck, hc, ha, hp, hs]
  case freed =>
    intro t c s ⟨hc, ha, hp, hs, hd⟩
    change execTakeoverYieldCheck t s = _
    simp [execTakeoverYieldCheck, hc, ha, hp, hs, hd]
  case yielded =>
    intro t s ⟨hb, hl⟩
    change execSluiceYield t s = _
    simp [execSluiceYield, hb, hl]
  case reclaim =>
    intro t c s ⟨hy, hc, hp, hd, hb, hs⟩
    change execSluiceReclaim t s = _
    have hfree : ((s.begin t).atB && (s.begin t).pair.peerLine) = false := by
      cases h : (s.begin t).atB with
      | false => rfl
      | true => exact hb h
    simp only [execSluiceReclaim, hy]
    rw [if_neg (by simp [hc, hp, Nat.not_lt.2 hd]), if_neg (by simp [hfree, hs])]
  case noReclaim =>
    intro t c s ⟨hy, hc, hp, hd, h⟩
    change execSluiceReclaim t s = _
    simp only [execSluiceReclaim, hy]
    rw [if_neg (by simp [hc, hp, Nat.not_lt.2 hd]), if_pos (by obtain ⟨hb, hl⟩ | hs := h <;> simp [*])]
  case shutIn =>
    intro t s ⟨hb, hs, ha⟩
    have halive : ((s.begin t).modPair fun p => { p with shutIn := true }).alive = true := ha
    change execSluiceShutIn t true s = _
    unfold execSluiceShutIn
    dsimp only
    rw [if_neg (by simp [hb, hs]), if_pos halive, if_neg (by decide)]
  case shutInEnds =>
    intro t s ⟨hb, hs, ha⟩
    have halive : ((s.begin t).modPair fun p => { p with shutIn := false }).alive = true := ha
    change execSluiceShutIn t false s = _
    unfold execSluiceShutIn
    dsimp only
    rw [if_neg (by simp [hb, hs]), if_pos halive, if_pos (by decide)]
  case watchdog =>
    intro t s ⟨hl, ho, hd⟩
    change execSluiceWatchdogExpire t s = _
    simp [execSluiceWatchdogExpire, hl, ho, hd]
  case shutLoop =>
    intro t mA s ⟨ha, hb, hm⟩
    change execSluiceLoopFault t true mA s = _
    simp [execSluiceLoopFault, ha, hb, judge_faulty hm, faulty_of_ite]
  case ownLoop =>
    intro t mA s ⟨ha, hb, hm⟩
    change execSluiceLoopFault t false mA s = _
    simp [execSluiceLoopFault, ha, hb, judge_faulty hm, faulty_of_ite]
  case shutSound =>
    intro t mA s ⟨ha, hb, ho, h5, h15⟩
    change execSluiceLoopFault t true mA s = _
    simp [execSluiceLoopFault, ha, hb, ho, judge_sound h5 h15, LoopState.faulty]
  case ownSound =>
    intro t mA s ⟨ha, hb, ho, h5, h15⟩
    change execSluiceLoopFault t false mA s = _
    simp [execSluiceLoopFault, ha, hb, ho, judge_sound h5 h15, LoopState.faulty]
  case claim =>
    intro t o s ⟨ho, ha, hp, he, hm, h1, h2⟩
    change execHandoverClaim t s = _
    simp [execHandoverClaim, ho, ha, hp, he, hm, h1, h2]
  case timeout =>
    intro t tk limit w s ⟨hh, ha, hd, hl⟩
    change execHandoverTimeout t s = _
    simp [execHandoverTimeout, hh, ha, hd, hl]
  case released =>
    intro t s ⟨hb, hl, ha⟩
    change execSluicePeerReleased t s = _
    unfold execSluicePeerReleased
    dsimp only
    rw [if_neg (by simp [hb, hl]), if_pos ha]
end

section
/-! A commit under way, the mailbox, datagrams and the Toll partition (chapters 16 to 18). -/

open Sys2Proof Sys2Proof.Machine

/-- Settles O37: the rows of a commit, of the mailbox and of SVC pass their own conditions. -/
theorem commitAndServiceEventsAct : Obligations.CommitAndServiceEventsAct := by
  refine ⟨?written, ?ack, ?late, ?peer, ?mailbox, ?passed, ?arp, ?echo, ?udp⟩
  case written =>
    intro t c s ⟨hc, ha, hm, ho, hs, hb⟩
    change execCommitBankWritten t s = _
    simp [execCommitBankWritten, hc, ha, hm, ho, hs, hb]
  case ack =>
    intro t c s ⟨hc, ha, ho, hp⟩
    change execCommitPeerAck t s = _
    simp [execCommitPeerAck, hc, ha, ho, hp]
  case late =>
    intro t c s ⟨hc, ha, ho, hd, hl⟩
    change execCommitPeerTimeout t s = _
    simp [execCommitPeerTimeout, hc, ha, ho, hd, hl]
  case peer =>
    intro t epoch chs s ⟨ha, hp, he, hm⟩
    change execPeerCommitRx t epoch chs s = _
    unfold execPeerCommitRx
    dsimp only
    rw [if_neg (by simp [ha, hp, he, hm])]
  case mailbox =>
    intro t xs s ⟨hx, ha, hm, hh⟩
    have hwait : (decide ((s.begin t).nd.mode = .hold) && xs.any (s.begin t).endsCommit) = false := by
      by_cases hmode : (s.begin t).nd.mode = .hold
      · simpa [hmode] using hh hmode
      · simp [hmode]
    change execMailboxAck t s = _
    simp only [execMailboxAck, hx, hwait]
    rw [if_pos (by simp [ha, hm])]
  case passed =>
    intro t op r tk s ⟨ha, hp, hq, hop, hf, h1, h2, h3, h4⟩
    have hfits : (tk.opcode == op && tk.session == (if op = 0x1601 then tk.session else r.session) && tk.retry == r.retry &&
        tk.sequence == r.sequence) = true := by simp [h1, h2, h3, h4]
    change execPeerReplyRx t op r s = _
    simp [execPeerReplyRx, ha, hp, hq, hf, removeFirst, hfits]
  case arp =>
    intro t s a ⟨ha, hd, hm⟩
    change execSvcDatagram t (.arp a) s = _
    simp [execSvcDatagram, ha, hd, hm]
  case echo =>
    intro t s a bs ⟨ha, hd, hm⟩
    change execSvcDatagram t (.echo a bs) s = _
    simp [execSvcDatagram, ha, hd, hm]
  case udp =>
    intro t s src port dest destPort sound bs ⟨ha, hd, hp⟩
    change execSvcDatagram t (.udp src port dest destPort sound bs) s = _
    simp only [execSvcDatagram]
    rw [if_neg (by simp [ha]), if_pos (by obtain hd | hd := hd <;> simp [hd]), if_pos hp]

/-- Settles O38: the rows of the Toll partition pass their own conditions. -/
theorem tollEventsAct : Obligations.TollEventsAct := by
  refine ⟨?opened, ?closed, ?peer, ?check, ?capture, ?fault⟩
  case opened =>
    intro t cover s ⟨hs, ha⟩
    change execTollSealBroken t cover true s = _
    unfold execTollSealBroken
    dsimp only
    rw [if_neg hs, if_neg (by decide), if_pos ha]
    rfl
  case closed =>
    intro t cover s hs
    change execTollSealBroken t cover false s = _
    unfold execTollSealBroken
    dsimp only
    rw [if_neg hs, if_pos (by decide)]
  case peer =>
    intro t f s ⟨hf, ha, hp, hd⟩
    change execTollPeerPresent t s = _
    simp [execTollPeerPresent, hf, ha, hp, hd]
  case check =>
    intro t s ⟨ha, hd⟩
    change execTollCheckpoint t s = _
    simp [execTollCheckpoint, ha, hd]
  case capture =>
    intro t s ha
    change execTollCapture t s = _
    simp [execTollCapture, ha]
  case fault =>
    intro t p s ⟨ha, ho, hp, hne⟩
    have hmoved : ((List.range 16).any fun p => ((s.begin t).tollPt p).faultNow != ((tollCapture (s.begin t)).tollPt p).faultNow) =
        true := List.any_eq_true.2 ⟨p, List.mem_range.2 hp, bne_iff_ne.2 hne⟩
    change execTollFault t s = _
    unfold execTollFault
    dsimp only
    rw [if_pos (by simp only [ha, ho, hmoved]; decide)]
end

section
/-! Every command completes (file 95). -/

namespace Sys2Proof.Machine

theorem ite_completes {c : Prop} [Decidable c] {a b : Res} (ha : ∃ t, a = .next t) (hb : ∃ t, b = .next t) :
    ∃ t, (if c then a else b) = .next t := by
  split
  · exact ha
  · exact hb

theorem sweepIf_completes (t : Nat) (want : State → Bool) (s : State) : ∃ u, sweepIf t want s = .next u :=
  ite_completes ⟨_, rfl⟩ ⟨_, rfl⟩

theorem tickIf_completes (t : Nat) (want : State → Bool) (s : State) : ∃ u, tickIf t want s = .next u :=
  ite_completes ⟨_, rfl⟩ ⟨_, rfl⟩

theorem stageTick_completes (t : Nat) (a b : Stage) (s : State) : ∃ u, stageTick t a b s = .next u := tickIf_completes ..

theorem keyTick_completes (t : Nat) (k : Fin 64) (key : Key) (s : State) : ∃ u, keyTick t k key s = .next u := tickIf_completes ..

theorem freezeEnds_completes (t event : Nat) (p : Freeze → State → Bool) (s : State) : ∃ u, freezeEnds t event p s = .next u := by
  unfold freezeEnds
  dsimp only
  split
  · exact ⟨_, rfl⟩
  · exact ite_completes ⟨_, rfl⟩ ⟨_, rfl⟩

theorem execBayCurrentSample_completes {loads : List Rat} (h : loads.length = 32) (t : Nat) (b : Bay) (amps : Rat) (sense : Sense)
    (s : State) : ∃ u, execBayCurrentSample t b amps sense loads s = .next u := by
  unfold execBayCurrentSample
  dsimp only
  rw [if_neg (not_not_intro h)]
  refine ite_completes ⟨_, rfl⟩ (ite_completes ⟨_, rfl⟩ ?_)
  split <;> exact ⟨_, rfl⟩

theorem execTerminalMonitorScan_completes {v : List Rat} (h : v.length = 128) (t : Nat) (b : Bay) (sensor : Rat) (s : State) :
    ∃ u, execTerminalMonitorScan t b v sensor s = .next u := by
  unfold execTerminalMonitorScan
  dsimp only
  rw [if_neg (not_not_intro h)]
  exact ite_completes ⟨_, rfl⟩ ⟨_, rfl⟩

theorem execGovernorTick_completes {loss pBay : List Rat} (hl : loss.length = 16) (hp : pBay.length = 16) (t : Nat) (drawn tF : Rat)
    (s : State) : ∃ u, execGovernorTick t drawn tF loss pBay s = .next u := by
  unfold execGovernorTick
  dsimp only
  rw [if_neg (by simp [hl, hp])]
  refine ite_completes ⟨_, rfl⟩ (ite_completes ⟨_, rfl⟩ ?_)
  split
  · exact ite_completes ⟨_, rfl⟩ ⟨_, rfl⟩
  · exact ⟨_, rfl⟩

/-- A packet, a window access and most events answer a next state outright; a row with a guard answers one on both sides of it, and a
row that looks a value up answers one whether it is there or not. -/
theorem exec_completes {i : Instr} (h : i.wellFormed = true) (s : State) : ∃ t, exec i s = .next t := by
  cases i
  all_goals simp only [exec]
  case sweep | pointOnDelayExpire | pointOffDelayExpire | shelveExpire | blockDelayExpire => exact sweepIf_completes ..
  case hbTick | dmPrewarn | dmExpired | rosterChange | hbOverrideEnd => exact tickIf_completes ..
  case hbT1Expire | hbT2Expire | hbTAttendExpire => exact stageTick_completes ..
  case keyAck | keySilence | keyAccept | keyDmOn | keyDmReset | keyDmOff | keyManned | keyUnmanned =>
    exact keyTick_completes ..
  case grnLeaseExpire | grnFreezeLimit => exact freezeEnds_completes ..
  case bayCurrentSample t b amps sense loads => exact execBayCurrentSample_completes (of_decide_eq_true h) ..
  case terminalMonitorScan t b v sensor => exact execTerminalMonitorScan_completes (of_decide_eq_true h) ..
  case governorTick t drawn tF loss pBay =>
    have hlen : loss.length = 16 ∧ pBay.length = 16 := by simpa [Instr.wellFormed] using h
    exact execGovernorTick_completes hlen.1 hlen.2 ..
  case leadCaptureDone | lampLearnDone | clkStagingLapse | holdLimitExpire | logicDomainOff | ctrlWindowExpire | dormantWake |
    freezeLimit | panelPoll | panelReply | panelReplyTimeout | refCheck | leadConversion | impedanceCheck |
    impedanceCheckDone | bayFault | ioutReachUpdate | srcHoldExpire | hartReply | hartReplyTimeout | diSample |
    diSupervisionPulse | frqEdge | lampSample | granarySubmit | granaryFlush | floodEnd | floodSummary | timeSentence |
    sfpDiagPoll | partIRx | pairLaneFallback | forcedRelease | takeoverYieldCheck | sluiceReclaim | handoverClaim |
    handoverTimeout | sessionTableRx | commitPeerTimeout | mailboxAck | peerReplyRx | bulkIdleExpire | fwTrialExpire |
    tollPeerPresent | svcDatagram | commitBankWritten | commitPeerAck | bulkCloseDone =>
    simp only [
      execLeadCaptureDone, execLampLearnDone, execClkStagingLapse, execHoldLimitExpire, execLogicDomainOff,
      execCtrlWindowExpire, execDormantWake, execFreezeLimit, execPanelPoll, execPanelReply, execPanelReplyTimeout,
      execRefCheck, execLeadConversion, execImpedanceCheck, execImpedanceCheckDone, execBayFault, execIoutReachUpdate,
      execSrcHoldExpire, execHartReply, execHartReplyTimeout, execDiSample, execDiSupervisionPulse, execFrqEdge,
      execLampSample, execGranarySubmit, execGranaryFlush, execFloodEnd, execFloodSummary, execTimeSentence, execSfpDiagPoll,
      execPartIRx, execPairLaneFallback, execForcedRelease, execTakeoverYieldCheck, execSluiceReclaim, execHandoverClaim,
      execHandoverTimeout, execSessionTableRx, execCommitPeerTimeout, execMailboxAck, execPeerReplyRx, execBulkIdleExpire,
      execFwTrialExpire, execTollPeerPresent, execSvcDatagram, execCommitBankWritten, execCommitPeerAck, execBulkCloseDone]
    (repeat' split) <;> exact ⟨_, rfl⟩
  case supplyOvervoltage | supplyWarningConfirmed | supplyWarningCleared | holdExit | resetThresholdConfirmed |
    resetThresholdCleared | inputLost | cellTest | backupLow | nresetAssert | nresetShort | nresetRelease | nresetStuck |
    nresetStuckClear | lockstepMismatch | controlPlaneFault | logicClockFail | logicRailFail | seatContactOpen |
    withdrawStagingDone | seatContactClose | bootDecision | thermalTrip | identityScan | strapChange | controlCycleBoundary |
    cycleOverrun | sweepAbandoned | ringCycle | hbStateSync | ctrlStall | fabricStall | dataStall | mgmtStall | tollStall |
    ssTimeoutExpire | conversionEnd | complianceTrip | protectionTrip | protectionReconnect | bayStart | railUpdate |
    outputCondition | openLoopProbe | cmdTimeoutExpire | repeaterStuck | hartBurstFrame | sensorSupplyTrip | cntEdge |
    frqGateEnd | switchTrip | switchRetry | doFaultDetect | demagLimit | lampColdTest | lampExtV | flashPhase |
    fieldSupplyThreshold | latchFloorPassed | laneWordArrival | laneWdExpire | laneOutputTrip | lanePulseTest | lossRecord |
    granaryDrainPage | sectorErase | wearReport | ppsEdge | timeLockLoss | ringLockLoss | clockSlaveSecond | clockRangeEnd |
    syncFrame | linkFrame | dataFrame | pollFrame | nilFrame | acycFrame | babbleReopen | portSilent | dataStart | sfpInsert |
    sfpRemove | partCRx | heartbeatLoss | readbackMismatch | pairRefCheck | sluiceShutIn | sluiceLoopFault | pairRecordRx |
    peerCommitRx | tollSealBroken | traceCounters | sluicePeerReleased =>
    (repeat' apply ite_completes) <;> exact ⟨_, rfl⟩
  all_goals exact ⟨_, rfl⟩

end Sys2Proof.Machine

open Sys2Proof Sys2Proof.Machine

/-- Settles O41: three events carry a number of readings that their bays fix, and fault with any other. -/
theorem wellFormedCommandsComplete : Obligations.WellFormedCommandsComplete := by
  refine ⟨fun i s h => exec_completes h s, fun t b amps v isOpen loads s h => if_pos h, fun t b v sensor s h => if_pos h, ?governor⟩
  case governor =>
    intro t drawn tF loss pBay s h
    change execGovernorTick t drawn tF loss pBay s = _
    unfold execGovernorTick
    dsimp only
    rw [if_pos (by obtain h | h := h <;> simp [h])]
end
